-- ==== Sys2Proof/Word.lean ====
section
/-! DEFINITION. The word types of the Intel 8086 to 80486 and their plainest arithmetic (spec/20_memory.md R80, R81). -/
namespace Sys2Proof

/-- A byte, the addressable unit (R80). -/
abbrev Byte := BitVec 8
/-- A 16-bit word. -/
abbrev Word := BitVec 16
/-- A 32-bit doubleword (80386 and later). -/
abbrev Dword := BitVec 32

end Sys2Proof
end

