-- ==== Sys2Proof/Config.lean ====
section
/-! DEFINITION. The parameters of spec/92_eei_decisions.md and the free values: what an implementation fixes, and what
the spec leaves open. A free value is an opaque constant: nothing can be proved of what it is. -/
namespace Sys2Proof

/-- Parameter `CPU` (spec/92_eei_decisions.md D1). -/
inductive Cpu where
  | i8086 | i8088 | i80286 | i80386 | i80386sx | i80486 | i80486sx
deriving DecidableEq, Repr

/-- The generation a processor belongs to: 0 for the 8086 and 8088, then 2, 3 and 4; `CPU >= 80286` of the spec is
`2 ≤ level`. -/
def Cpu.level : Cpu → Nat
  | .i8086 | .i8088 => 0
  | .i80286 => 2
  | .i80386 | .i80386sx => 3
  | .i80486 | .i80486sx => 4

/-- Number of physical address bits (spec/20_memory.md R80). -/
def Cpu.addressBits : Cpu → Nat
  | .i8086 | .i8088 => 20
  | .i80286 | .i80386sx => 24
  | .i80386 | .i80486 | .i80486sx => 32

/-- How many bytes ahead the bus unit may have fetched (spec/10_state.md R60). PRESUMED: six bytes on the 8086 and 8088, for
which the spec states no size and no difference. DESIGN CHOICE: the decoded instructions that the 80286 and 80386 queue
besides add no reach, since the spec gives them no size in bytes (log 20). -/
def Cpu.queueBytes : Cpu → Nat
  | .i8086 | .i8088 | .i80286 => 6
  | .i80386 | .i80386sx => 16
  | .i80486 | .i80486sx => 32

/-- Parameter `COPROCESSOR` (spec/00_scope.md R6, spec/92_eei_decisions.md). -/
inductive Coprocessor where
  | none | i8087 | i80287 | i80387 | i80487sx
deriving DecidableEq, Repr

/-- Parameter `SELFTEST` (spec/70_reset_and_hazards.md R814). -/
inductive SelfTest where
  | notRequested | passed | failed
deriving DecidableEq, Repr

/-- Parameter `CACHE_MODEL` (spec/92_eei_decisions.md D17). -/
inductive CacheModel where
  | absent | full
deriving DecidableEq, Repr

/-- Parameter `BSF_ZF_SENSE` (spec/92_eei_decisions.md D25). -/
inductive BsfZf where
  | source | intel
deriving DecidableEq, Repr

/-- What is at a range of physical addresses (spec/20_memory.md R99). -/
inductive RegionKind where
  | ram | rom | absent
deriving DecidableEq, Repr

/-- One range of the parameter `MEMORY` (spec/92_eei_decisions.md D12). -/
structure Region where
  base : Nat
  size : Nat
  kind : RegionKind
deriving DecidableEq, Repr

/-- The parameters of the machine (the collected table of spec/92_eei_decisions.md). No step changes them. -/
structure Config where
  cpu : Cpu
  coprocessor : Coprocessor
  selftest : SelfTest
  stepping : Byte
  /-- Parameter `MEMORY`: the first range that holds an address decides; an address in none is RAM. -/
  memory : List Region
  a20m : Bool
  cacheModel : CacheModel
  bsfZf : BsfZf
  /-- The 80286 instruction length limit, a parameter by spec/30_encoding.md R241 and 93 V20. -/
  maxLength286 : Option Nat
deriving DecidableEq, Repr

/-- What is at a physical address. -/
def Config.regionKind (c : Config) (a : Nat) : RegionKind :=
  match c.memory.find? (fun r => decide (r.base ≤ a) && decide (a < r.base + r.size)) with
  | some r => r.kind
  | none => .ram

/-- Whether a numeric unit answers ESC opcodes: the on-chip one of the 80486 or an attached coprocessor
(spec/10_state.md R54, spec/49_486_fpu_instructions.md R651). -/
def Config.hasFpu (c : Config) : Bool :=
  match c.cpu, c.coprocessor with
  | .i80486, _ => true
  | _, .none => false
  | _, _ => true

/-- The longest instruction, prefixes included (spec/30_encoding.md R241): 15 bytes from the 80386, the parameter on the
80286, no limit on the 8086. -/
def Config.maxLength (c : Config) : Option Nat :=
  match c.cpu.level with
  | 0 => none
  | 2 => c.maxLength286
  | _ => some 15

/-- The parameters of `State.reset`: an 80486 with the defaults of spec/92_eei_decisions.md. DESIGN CHOICE: D1 gives CPU
and STEPPING no default. -/
def Config.default : Config where
  cpu := .i80486
  coprocessor := .none
  selftest := .notRequested
  stepping := 0
  memory := []
  a20m := false
  cacheModel := .absent
  bsfZf := .source
  maxLength286 := none

/-- The floating-point unit's registers (spec/10_state.md R54 to R58). -/
structure Fpu where
  /-- The eight 80-bit data registers, by register number (not by stack position). -/
  regs : Vector (BitVec 80) 8
  control : Word
  status : Word
  /-- Tag word: two bits for each register (R58). -/
  tags : Word
deriving DecidableEq, Repr, Inhabited

/-- How an ESC opcode uses its memory operand: its address is checked and nothing moved, or it is read, written, or read and
then written, with its length in bytes. Which it is the spec does not say (spec/49_486_fpu_instructions.md R660): see
`Config.fpuAccess`. -/
inductive FpuAccess where
  | check (bytes : Nat)
  | read (bytes : Nat)
  | write (bytes : Nat)
  | update (bytes : Nat)
deriving DecidableEq, Repr, Inhabited

/-- What the numeric unit answers to an opcode: its registers afterwards and the bytes it stores. -/
structure FpuAnswer where
  fpu : Fpu
  bytes : List Byte
deriving DecidableEq, Repr, Inhabited

/-- Free bits: the spec leaves them open (`any value` of spec/93_implementation_defined.md). Applied to the counter
`oracle` of the state. -/
opaque Config.free : Nat → BitVec 128

/-- `FpuExec` of spec/92_eei_decisions.md D26: the numeric effect of an ESC opcode (its low eleven bits: three of the
first byte and the ModRM byte) on the unit's registers and the operand's bytes. -/
opaque Config.fpuExec : BitVec 11 → Fpu → List Byte → FpuAnswer

/-- How an ESC opcode with a memory operand (three bits of the first byte, three of ModRM) uses it: a fact of the
numeric unit the spec does not state. -/
opaque Config.fpuAccess : BitVec 6 → FpuAccess

/-- Which ESC opcodes (low eleven bits) do not look for a pending coprocessor error first: the spec says that some do not,
and not which (spec/49_486_fpu_instructions.md R650). -/
opaque Config.fpuNoWait : BitVec 11 → Bool

/-- The indefinite value of packed BCD: there is one (spec/49_486_fpu_instructions.md R656), its bits the spec does not
give. -/
opaque Config.bcdIndefinite : BitVec 80

/-- What a device port answers when the state's `portIn` holds nothing for it: a function of how many bytes were moved
before and of the port (spec/92_eei_decisions.md D11). -/
opaque Config.portRead : Nat → Nat → Byte

end Sys2Proof
end

