-- ==== Sys2Proof/Syntax.lean ====
section
/-! DEFINITION. The instructions as syntax: one constructor per mnemonic of spec/opcode_table.json, with operands as
spec/30_encoding.md gives them. -/
namespace Sys2Proof

/-- The eight general registers by number (spec/30_encoding.md R274); the 16-bit names are their low halves. -/
inductive Reg where
  | eax | ecx | edx | ebx | esp | ebp | esi | edi
deriving DecidableEq, Repr, Inhabited

/-- The eight byte registers by number (R274). -/
inductive Reg8 where
  | al | cl | dl | bl | ah | ch | dh | bh
deriving DecidableEq, Repr, Inhabited

/-- The six segment registers by number (R274). -/
inductive SReg where
  | es | cs | ss | ds | fs | gs
deriving DecidableEq, Repr, Inhabited

/-- The eight register parts of a 16-bit address (R272). -/
inductive Base16 where
  | bxsi | bxdi | bpsi | bpdi | si | di | bp | bx
deriving DecidableEq, Repr, Inhabited

/-- The displacement of a 16-bit address form: none, a byte or a word (R272). -/
inductive Disp16 where
  | none
  | d8 (d : Byte)
  | d16 (d : Word)
deriving DecidableEq, Repr, Inhabited

/-- The displacement of a 32-bit address form: none, a byte or a doubleword (R273). -/
inductive Disp32 where
  | none
  | d8 (d : Byte)
  | d32 (d : Dword)
deriving DecidableEq, Repr, Inhabited

/-- A memory operand as its ModRM and SIB bytes name it (R272, R273). -/
inductive Mem where
  /-- Registers and a displacement, 16-bit. -/
  | based16 (b : Base16) (d : Disp16)
  /-- Direct address, 16-bit. -/
  | direct16 (d : Word)
  /-- One base register and a displacement, 32-bit, without a SIB byte. -/
  | based32 (b : Reg) (d : Disp32)
  /-- Direct address, 32-bit, without a SIB byte. -/
  | direct32 (d : Dword)
  /-- SIB with a base; the index number of ESP stands for "no index". -/
  | sib (scale : BitVec 2) (index : Reg) (base : Reg) (d : Disp32)
  /-- SIB without a base: a scaled index and a 32-bit displacement. -/
  | sibNoBase (scale : BitVec 2) (index : Reg) (d : Dword)
deriving DecidableEq, Repr, Inhabited

/-- A byte operand of ModRM: a byte register or memory. -/
inductive Rm8 where
  | reg (r : Reg8)
  | mem (m : Mem)
deriving DecidableEq, Repr, Inhabited

/-- A 16- or 32-bit operand of ModRM: a general register or memory. -/
inductive Rmv where
  | reg (r : Reg)
  | mem (m : Mem)
deriving DecidableEq, Repr, Inhabited

/-- The operand part of an ESC opcode: memory, or the three rm bits of a register form (R279). -/
inductive EscRm where
  | reg (n : BitVec 3)
  | mem (m : Mem)
deriving DecidableEq, Repr, Inhabited

/-- The instructions. Immediates, relative addresses and offsets of the form's operand or address size are held in 32
bits (`WellFormed` bounds them when the size is 16). -/
inductive Instr where
  /-- `ADD_r_m8_r8`, rule R313. -/
  | addRm8R8 (d : Rm8) (r : Reg8)
  /-- `ADD_r_mv_rv`, rule R313. -/
  | addRmvRv (d : Rmv) (r : Reg)
  /-- `ADD_r8_r_m8`, rule R313. -/
  | addR8Rm8 (r : Reg8) (m : Rm8)
  /-- `ADD_rv_r_mv`, rule R313. -/
  | addRvRmv (r : Reg) (m : Rmv)
  /-- `ADD_AL_imm8`, rule R313. -/
  | addAlImm8 (imm : Byte)
  /-- `ADD_eAX_immv`, rule R313. -/
  | addEaxImmv (imm : Dword)
  /-- `ADD_r_m8_imm8`, rule R313. -/
  | addRm8Imm8 (d : Rm8) (imm : Byte)
  /-- `ADD_r_m8_imm8__alias_opcode_82`, rule R313. -/
  | addRm8Imm8Alias82 (d : Rm8) (imm : Byte)
  /-- `ADD_r_mv_immv`, rule R313. -/
  | addRmvImmv (d : Rmv) (imm : Dword)
  /-- `ADD_r_mv_imm8__sign-extended`, rule R313. -/
  | addRmvImm8s (d : Rmv) (imm : Byte)
  /-- `OR_r_m8_r8`, rule R343. -/
  | orRm8R8 (d : Rm8) (r : Reg8)
  /-- `OR_r_mv_rv`, rule R343. -/
  | orRmvRv (d : Rmv) (r : Reg)
  /-- `OR_r8_r_m8`, rule R343. -/
  | orR8Rm8 (r : Reg8) (m : Rm8)
  /-- `OR_rv_r_mv`, rule R343. -/
  | orRvRmv (r : Reg) (m : Rmv)
  /-- `OR_AL_imm8`, rule R343. -/
  | orAlImm8 (imm : Byte)
  /-- `OR_eAX_immv`, rule R343. -/
  | orEaxImmv (imm : Dword)
  /-- `OR_r_m8_imm8`, rule R343. -/
  | orRm8Imm8 (d : Rm8) (imm : Byte)
  /-- `OR_r_m8_imm8__alias_opcode_82`, rule R343. -/
  | orRm8Imm8Alias82 (d : Rm8) (imm : Byte)
  /-- `OR_r_mv_immv`, rule R343. -/
  | orRmvImmv (d : Rmv) (imm : Dword)
  /-- `OR_r_mv_imm8__sign-extended`, rule R343. -/
  | orRmvImm8s (d : Rmv) (imm : Byte)
  /-- `ADC_r_m8_r8`, rule R314. -/
  | adcRm8R8 (d : Rm8) (r : Reg8)
  /-- `ADC_r_mv_rv`, rule R314. -/
  | adcRmvRv (d : Rmv) (r : Reg)
  /-- `ADC_r8_r_m8`, rule R314. -/
  | adcR8Rm8 (r : Reg8) (m : Rm8)
  /-- `ADC_rv_r_mv`, rule R314. -/
  | adcRvRmv (r : Reg) (m : Rmv)
  /-- `ADC_AL_imm8`, rule R314. -/
  | adcAlImm8 (imm : Byte)
  /-- `ADC_eAX_immv`, rule R314. -/
  | adcEaxImmv (imm : Dword)
  /-- `ADC_r_m8_imm8`, rule R314. -/
  | adcRm8Imm8 (d : Rm8) (imm : Byte)
  /-- `ADC_r_m8_imm8__alias_opcode_82`, rule R314. -/
  | adcRm8Imm8Alias82 (d : Rm8) (imm : Byte)
  /-- `ADC_r_mv_immv`, rule R314. -/
  | adcRmvImmv (d : Rmv) (imm : Dword)
  /-- `ADC_r_mv_imm8__sign-extended`, rule R314. -/
  | adcRmvImm8s (d : Rmv) (imm : Byte)
  /-- `SBB_r_m8_r8`, rule R317. -/
  | sbbRm8R8 (d : Rm8) (r : Reg8)
  /-- `SBB_r_mv_rv`, rule R317. -/
  | sbbRmvRv (d : Rmv) (r : Reg)
  /-- `SBB_r8_r_m8`, rule R317. -/
  | sbbR8Rm8 (r : Reg8) (m : Rm8)
  /-- `SBB_rv_r_mv`, rule R317. -/
  | sbbRvRmv (r : Reg) (m : Rmv)
  /-- `SBB_AL_imm8`, rule R317. -/
  | sbbAlImm8 (imm : Byte)
  /-- `SBB_eAX_immv`, rule R317. -/
  | sbbEaxImmv (imm : Dword)
  /-- `SBB_r_m8_imm8`, rule R317. -/
  | sbbRm8Imm8 (d : Rm8) (imm : Byte)
  /-- `SBB_r_m8_imm8__alias_opcode_82`, rule R317. -/
  | sbbRm8Imm8Alias82 (d : Rm8) (imm : Byte)
  /-- `SBB_r_mv_immv`, rule R317. -/
  | sbbRmvImmv (d : Rmv) (imm : Dword)
  /-- `SBB_r_mv_imm8__sign-extended`, rule R317. -/
  | sbbRmvImm8s (d : Rmv) (imm : Byte)
  /-- `AND_r_m8_r8`, rule R342. -/
  | andRm8R8 (d : Rm8) (r : Reg8)
  /-- `AND_r_mv_rv`, rule R342. -/
  | andRmvRv (d : Rmv) (r : Reg)
  /-- `AND_r8_r_m8`, rule R342. -/
  | andR8Rm8 (r : Reg8) (m : Rm8)
  /-- `AND_rv_r_mv`, rule R342. -/
  | andRvRmv (r : Reg) (m : Rmv)
  /-- `AND_AL_imm8`, rule R342. -/
  | andAlImm8 (imm : Byte)
  /-- `AND_eAX_immv`, rule R342. -/
  | andEaxImmv (imm : Dword)
  /-- `AND_r_m8_imm8`, rule R342. -/
  | andRm8Imm8 (d : Rm8) (imm : Byte)
  /-- `AND_r_m8_imm8__alias_opcode_82`, rule R342. -/
  | andRm8Imm8Alias82 (d : Rm8) (imm : Byte)
  /-- `AND_r_mv_immv`, rule R342. -/
  | andRmvImmv (d : Rmv) (imm : Dword)
  /-- `AND_r_mv_imm8__sign-extended`, rule R342. -/
  | andRmvImm8s (d : Rmv) (imm : Byte)
  /-- `SUB_r_m8_r8`, rule R316. -/
  | subRm8R8 (d : Rm8) (r : Reg8)
  /-- `SUB_r_mv_rv`, rule R316. -/
  | subRmvRv (d : Rmv) (r : Reg)
  /-- `SUB_r8_r_m8`, rule R316. -/
  | subR8Rm8 (r : Reg8) (m : Rm8)
  /-- `SUB_rv_r_mv`, rule R316. -/
  | subRvRmv (r : Reg) (m : Rmv)
  /-- `SUB_AL_imm8`, rule R316. -/
  | subAlImm8 (imm : Byte)
  /-- `SUB_eAX_immv`, rule R316. -/
  | subEaxImmv (imm : Dword)
  /-- `SUB_r_m8_imm8`, rule R316. -/
  | subRm8Imm8 (d : Rm8) (imm : Byte)
  /-- `SUB_r_m8_imm8__alias_opcode_82`, rule R316. -/
  | subRm8Imm8Alias82 (d : Rm8) (imm : Byte)
  /-- `SUB_r_mv_immv`, rule R316. -/
  | subRmvImmv (d : Rmv) (imm : Dword)
  /-- `SUB_r_mv_imm8__sign-extended`, rule R316. -/
  | subRmvImm8s (d : Rmv) (imm : Byte)
  /-- `XOR_r_m8_r8`, rule R344. -/
  | xorRm8R8 (d : Rm8) (r : Reg8)
  /-- `XOR_r_mv_rv`, rule R344. -/
  | xorRmvRv (d : Rmv) (r : Reg)
  /-- `XOR_r8_r_m8`, rule R344. -/
  | xorR8Rm8 (r : Reg8) (m : Rm8)
  /-- `XOR_rv_r_mv`, rule R344. -/
  | xorRvRmv (r : Reg) (m : Rmv)
  /-- `XOR_AL_imm8`, rule R344. -/
  | xorAlImm8 (imm : Byte)
  /-- `XOR_eAX_immv`, rule R344. -/
  | xorEaxImmv (imm : Dword)
  /-- `XOR_r_m8_imm8`, rule R344. -/
  | xorRm8Imm8 (d : Rm8) (imm : Byte)
  /-- `XOR_r_m8_imm8__alias_opcode_82`, rule R344. -/
  | xorRm8Imm8Alias82 (d : Rm8) (imm : Byte)
  /-- `XOR_r_mv_immv`, rule R344. -/
  | xorRmvImmv (d : Rmv) (imm : Dword)
  /-- `XOR_r_mv_imm8__sign-extended`, rule R344. -/
  | xorRmvImm8s (d : Rmv) (imm : Byte)
  /-- `CMP_r_m8_r8`, rule R326. -/
  | cmpRm8R8 (d : Rm8) (r : Reg8)
  /-- `CMP_r_mv_rv`, rule R326. -/
  | cmpRmvRv (d : Rmv) (r : Reg)
  /-- `CMP_r8_r_m8`, rule R326. -/
  | cmpR8Rm8 (r : Reg8) (m : Rm8)
  /-- `CMP_rv_r_mv`, rule R326. -/
  | cmpRvRmv (r : Reg) (m : Rmv)
  /-- `CMP_AL_imm8`, rule R326. -/
  | cmpAlImm8 (imm : Byte)
  /-- `CMP_eAX_immv`, rule R326. -/
  | cmpEaxImmv (imm : Dword)
  /-- `CMP_r_m8_imm8`, rule R326. -/
  | cmpRm8Imm8 (d : Rm8) (imm : Byte)
  /-- `CMP_r_m8_imm8__alias_opcode_82`, rule R326. -/
  | cmpRm8Imm8Alias82 (d : Rm8) (imm : Byte)
  /-- `CMP_r_mv_immv`, rule R326. -/
  | cmpRmvImmv (d : Rmv) (imm : Dword)
  /-- `CMP_r_mv_imm8__sign-extended`, rule R326. -/
  | cmpRmvImm8s (d : Rmv) (imm : Byte)
  /-- `PUSH_ES`, rule R402. -/
  | pushEs
  /-- `PUSH_CS`, rule R402. -/
  | pushCs
  /-- `PUSH_SS`, rule R402. -/
  | pushSs
  /-- `PUSH_DS`, rule R402. -/
  | pushDs
  /-- `POP_ES`, rule R404. -/
  | popEs
  /-- `POP_SS`, rule R405. -/
  | popSs
  /-- `POP_DS`, rule R404. -/
  | popDs
  /-- `prefix_ES`, rule R243. -/
  | prefixEs
  /-- `prefix_CS`, rule R243. -/
  | prefixCs
  /-- `prefix_SS`, rule R243. -/
  | prefixSs
  /-- `prefix_DS`, rule R243. -/
  | prefixDs
  /-- `prefix_FS`, rule R243. -/
  | prefixFs
  /-- `prefix_GS`, rule R243. -/
  | prefixGs
  /-- `prefix_operand-size`, rule R246. -/
  | prefixOperandSize
  /-- `prefix_address-size`, rule R246. -/
  | prefixAddressSize
  /-- `prefix_LOCK`, rule R505. -/
  | prefixLock
  /-- `prefix_REPNE_REPNZ`, rule R480. -/
  | prefixRepne
  /-- `prefix_REP_REPE_REPZ`, rule R480. -/
  | prefixRep
  /-- `DAA`, rule R490. -/
  | daa
  /-- `DAS`, rule R491. -/
  | das
  /-- `AAA`, rule R486. -/
  | aaa
  /-- `AAS`, rule R487. -/
  | aas
  /-- `INC_rv`, rule R315. -/
  | incRv (r : Reg)
  /-- `DEC_rv`, rule R318. -/
  | decRv (r : Reg)
  /-- `PUSH_rv`, rule R402. -/
  | pushRv (r : Reg)
  /-- `POP_rv`, rule R403. -/
  | popRv (r : Reg)
  /-- `PUSHA_PUSHAD`, rule R515. -/
  | pusha
  /-- `POPA_POPAD`, rule R516. -/
  | popa
  /-- `BOUND_rv_m16_16_m32_32`, rule R514. -/
  | boundRvM (r : Reg) (m : Mem)
  /-- `ARPL_r_m16_r16`, rule R545. -/
  | arplRm16R16 (d : Rmv) (r : Reg)
  /-- `PUSH_immv`, rule R512. -/
  | pushImmv (imm : Dword)
  /-- `PUSH_imm8__sign-extended`, rule R512. -/
  | pushImm8s (imm : Byte)
  /-- `IMUL_rv_r_mv_immv`, rule R510. -/
  | imulRvRmvImmv (r : Reg) (m : Rmv) (imm : Dword)
  /-- `IMUL_rv_r_mv_imm8__sign-extended`, rule R510. -/
  | imulRvRmvImm8s (r : Reg) (m : Rmv) (imm : Byte)
  /-- `INSB`, rule R520. -/
  | insb
  /-- `INSW_INSD`, rule R520. -/
  | insv
  /-- `OUTSB`, rule R521. -/
  | outsb
  /-- `OUTSW_OUTSD`, rule R521. -/
  | outsv
  /-- `JO_rel8`, rule R377. -/
  | joRel8 (rel : Byte)
  /-- `JNO_rel8`, rule R377. -/
  | jnoRel8 (rel : Byte)
  /-- `JB_JNAE_JC_rel8`, rule R377. -/
  | jbRel8 (rel : Byte)
  /-- `JAE_JNB_JNC_rel8`, rule R377. -/
  | jaeRel8 (rel : Byte)
  /-- `JE_JZ_rel8`, rule R377. -/
  | jeRel8 (rel : Byte)
  /-- `JNE_JNZ_rel8`, rule R377. -/
  | jneRel8 (rel : Byte)
  /-- `JBE_JNA_rel8`, rule R377. -/
  | jbeRel8 (rel : Byte)
  /-- `JA_JNBE_rel8`, rule R377. -/
  | jaRel8 (rel : Byte)
  /-- `JS_rel8`, rule R377. -/
  | jsRel8 (rel : Byte)
  /-- `JNS_rel8`, rule R377. -/
  | jnsRel8 (rel : Byte)
  /-- `JP_JPE_rel8`, rule R377. -/
  | jpRel8 (rel : Byte)
  /-- `JNP_JPO_rel8`, rule R377. -/
  | jnpRel8 (rel : Byte)
  /-- `JL_JNGE_rel8`, rule R377. -/
  | jlRel8 (rel : Byte)
  /-- `JGE_JNL_rel8`, rule R377. -/
  | jgeRel8 (rel : Byte)
  /-- `JLE_JNG_rel8`, rule R377. -/
  | jleRel8 (rel : Byte)
  /-- `JG_JNLE_rel8`, rule R377. -/
  | jgRel8 (rel : Byte)
  /-- `TEST_r_m8_r8`, rule R346. -/
  | testRm8R8 (d : Rm8) (r : Reg8)
  /-- `TEST_r_mv_rv`, rule R346. -/
  | testRmvRv (d : Rmv) (r : Reg)
  /-- `XCHG_r_m8_r8`, rule R447. -/
  | xchgRm8R8 (d : Rm8) (r : Reg8)
  /-- `XCHG_r_mv_rv`, rule R447. -/
  | xchgRmvRv (d : Rmv) (r : Reg)
  /-- `MOV_r_m8_r8`, rule R300. -/
  | movRm8R8 (d : Rm8) (r : Reg8)
  /-- `MOV_r_mv_rv`, rule R300. -/
  | movRmvRv (d : Rmv) (r : Reg)
  /-- `MOV_r8_r_m8`, rule R300. -/
  | movR8Rm8 (r : Reg8) (m : Rm8)
  /-- `MOV_rv_r_mv`, rule R300. -/
  | movRvRmv (r : Reg) (m : Rmv)
  /-- `MOV_r_m16_Sreg`, rule R302. -/
  | movRm16Sreg (d : Rmv) (s : SReg)
  /-- `LEA_rv_m`, rule R453. -/
  | leaRvM (r : Reg) (m : Mem)
  /-- `MOV_Sreg_r_m16`, rule R301. -/
  | movSregRm16 (s : SReg) (m : Rmv)
  /-- `POP_mv`, rule R403. -/
  | popMv (d : Rmv)
  /-- `NOP`, rule R500. -/
  | nop
  /-- `XCHG_eAX_rv`, rule R447. -/
  | xchgEaxRv (r : Reg)
  /-- `CBW_CWDE`, rule R324. -/
  | cbw
  /-- `CWD_CDQ`, rule R325. -/
  | cwd
  /-- `CALL_ptr16_v`, rule R382. -/
  | callPtr16v (off : Dword) (sel : Word)
  /-- `WAIT`, rule R504. -/
  | wait
  /-- `PUSHF_PUSHFD`, rule R408. -/
  | pushf
  /-- `POPF_POPFD`, rule R411. -/
  | popf
  /-- `SAHF`, rule R417. -/
  | sahf
  /-- `LAHF`, rule R416. -/
  | lahf
  /-- `MOV_AL_moffs8`, rule R300. -/
  | movAlMoffs8 (off : Dword)
  /-- `MOV_eAX_moffsv`, rule R300. -/
  | movEaxMoffsv (off : Dword)
  /-- `MOV_moffs8_AL`, rule R300. -/
  | movMoffs8Al (off : Dword)
  /-- `MOV_moffsv_eAX`, rule R300. -/
  | movMoffsvEax (off : Dword)
  /-- `MOVSB`, rule R471. -/
  | movsb
  /-- `MOVSW_MOVSD`, rule R471. -/
  | movsv
  /-- `CMPSB`, rule R472. -/
  | cmpsb
  /-- `CMPSW_CMPSD`, rule R472. -/
  | cmpsv
  /-- `TEST_AL_imm8`, rule R346. -/
  | testAlImm8 (imm : Byte)
  /-- `TEST_eAX_immv`, rule R346. -/
  | testEaxImmv (imm : Dword)
  /-- `STOSB`, rule R475. -/
  | stosb
  /-- `STOSW_STOSD`, rule R475. -/
  | stosv
  /-- `LODSB`, rule R474. -/
  | lodsb
  /-- `LODSW_LODSD`, rule R474. -/
  | lodsv
  /-- `SCASB`, rule R473. -/
  | scasb
  /-- `SCASW_SCASD`, rule R473. -/
  | scasv
  /-- `MOV_r8_imm8`, rule R303. -/
  | movR8Imm8 (r : Reg8) (imm : Byte)
  /-- `MOV_rv_immv`, rule R303. -/
  | movRvImmv (r : Reg) (imm : Dword)
  /-- `ROL_r_m8_imm8`, rule R350. -/
  | rolRm8Imm8 (d : Rm8) (imm : Byte)
  /-- `ROL_r_mv_imm8`, rule R350. -/
  | rolRmvImm8 (d : Rmv) (imm : Byte)
  /-- `ROL_r_m8_1`, rule R350. -/
  | rolRm8One (d : Rm8)
  /-- `ROL_r_mv_1`, rule R350. -/
  | rolRmvOne (d : Rmv)
  /-- `ROL_r_m8_CL`, rule R350. -/
  | rolRm8Cl (d : Rm8)
  /-- `ROL_r_mv_CL`, rule R350. -/
  | rolRmvCl (d : Rmv)
  /-- `ROR_r_m8_imm8`, rule R351. -/
  | rorRm8Imm8 (d : Rm8) (imm : Byte)
  /-- `ROR_r_mv_imm8`, rule R351. -/
  | rorRmvImm8 (d : Rmv) (imm : Byte)
  /-- `ROR_r_m8_1`, rule R351. -/
  | rorRm8One (d : Rm8)
  /-- `ROR_r_mv_1`, rule R351. -/
  | rorRmvOne (d : Rmv)
  /-- `ROR_r_m8_CL`, rule R351. -/
  | rorRm8Cl (d : Rm8)
  /-- `ROR_r_mv_CL`, rule R351. -/
  | rorRmvCl (d : Rmv)
  /-- `RCL_r_m8_imm8`, rule R352. -/
  | rclRm8Imm8 (d : Rm8) (imm : Byte)
  /-- `RCL_r_mv_imm8`, rule R352. -/
  | rclRmvImm8 (d : Rmv) (imm : Byte)
  /-- `RCL_r_m8_1`, rule R352. -/
  | rclRm8One (d : Rm8)
  /-- `RCL_r_mv_1`, rule R352. -/
  | rclRmvOne (d : Rmv)
  /-- `RCL_r_m8_CL`, rule R352. -/
  | rclRm8Cl (d : Rm8)
  /-- `RCL_r_mv_CL`, rule R352. -/
  | rclRmvCl (d : Rmv)
  /-- `RCR_r_m8_imm8`, rule R353. -/
  | rcrRm8Imm8 (d : Rm8) (imm : Byte)
  /-- `RCR_r_mv_imm8`, rule R353. -/
  | rcrRmvImm8 (d : Rmv) (imm : Byte)
  /-- `RCR_r_m8_1`, rule R353. -/
  | rcrRm8One (d : Rm8)
  /-- `RCR_r_mv_1`, rule R353. -/
  | rcrRmvOne (d : Rmv)
  /-- `RCR_r_m8_CL`, rule R353. -/
  | rcrRm8Cl (d : Rm8)
  /-- `RCR_r_mv_CL`, rule R353. -/
  | rcrRmvCl (d : Rmv)
  /-- `SHL_SAL_r_m8_imm8`, rule R354. -/
  | shlRm8Imm8 (d : Rm8) (imm : Byte)
  /-- `SHL_SAL_r_mv_imm8`, rule R354. -/
  | shlRmvImm8 (d : Rmv) (imm : Byte)
  /-- `SHL_SAL_r_m8_1`, rule R354. -/
  | shlRm8One (d : Rm8)
  /-- `SHL_SAL_r_mv_1`, rule R354. -/
  | shlRmvOne (d : Rmv)
  /-- `SHL_SAL_r_m8_CL`, rule R354. -/
  | shlRm8Cl (d : Rm8)
  /-- `SHL_SAL_r_mv_CL`, rule R354. -/
  | shlRmvCl (d : Rmv)
  /-- `SHR_r_m8_imm8`, rule R356. -/
  | shrRm8Imm8 (d : Rm8) (imm : Byte)
  /-- `SHR_r_mv_imm8`, rule R356. -/
  | shrRmvImm8 (d : Rmv) (imm : Byte)
  /-- `SHR_r_m8_1`, rule R356. -/
  | shrRm8One (d : Rm8)
  /-- `SHR_r_mv_1`, rule R356. -/
  | shrRmvOne (d : Rmv)
  /-- `SHR_r_m8_CL`, rule R356. -/
  | shrRm8Cl (d : Rm8)
  /-- `SHR_r_mv_CL`, rule R356. -/
  | shrRmvCl (d : Rmv)
  /-- `SAR_r_m8_imm8`, rule R355. -/
  | sarRm8Imm8 (d : Rm8) (imm : Byte)
  /-- `SAR_r_mv_imm8`, rule R355. -/
  | sarRmvImm8 (d : Rmv) (imm : Byte)
  /-- `SAR_r_m8_1`, rule R355. -/
  | sarRm8One (d : Rm8)
  /-- `SAR_r_mv_1`, rule R355. -/
  | sarRmvOne (d : Rmv)
  /-- `SAR_r_m8_CL`, rule R355. -/
  | sarRm8Cl (d : Rm8)
  /-- `SAR_r_mv_CL`, rule R355. -/
  | sarRmvCl (d : Rmv)
  /-- `RET_imm16`, rule R384. -/
  | retImm16 (imm : Word)
  /-- `RET`, rule R384. -/
  | ret
  /-- `LES_rv_m16_v`, rule R455. -/
  | lesRvM16v (r : Reg) (m : Mem)
  /-- `LDS_rv_m16_v`, rule R454. -/
  | ldsRvM16v (r : Reg) (m : Mem)
  /-- `MOV_r_m8_imm8`, rule R303. -/
  | movRm8Imm8 (d : Rm8) (imm : Byte)
  /-- `MOV_r_mv_immv`, rule R303. -/
  | movRmvImmv (d : Rmv) (imm : Dword)
  /-- `ENTER_imm16_imm8`, rule R517. -/
  | enterImm16Imm8 (size : Word) (level : Byte)
  /-- `LEAVE`, rule R518. -/
  | leave
  /-- `RETF_imm16`, rule R385. -/
  | retfImm16 (imm : Word)
  /-- `RETF`, rule R385. -/
  | retf
  /-- `INT_3`, rule R421. -/
  | int3
  /-- `INT_imm8`, rule R420. -/
  | intImm8 (imm : Byte)
  /-- `INTO`, rule R422. -/
  | into
  /-- `IRET_IRETD`, rule R423. -/
  | iret
  /-- `AAM`, rule R489. -/
  | aam (base : Byte)
  /-- `AAD`, rule R488. -/
  | aad (base : Byte)
  /-- `XLAT`, rule R452. -/
  | xlat
  /-- `ESC__coprocessor_instruction__generic`, rule R503. -/
  | esc (op : BitVec 3) (reg : BitVec 3) (rm : EscRm)
  /-- `FNINIT`, rule R652. -/
  | fninit
  /-- `FNSTSW_AX`, rule R652. -/
  | fnstswAx
  /-- `FNSTSW_m16`, rule R652. -/
  | fnstswM16 (m : Mem)
  /-- `FNSTCW_m16`, rule R652. -/
  | fnstcwM16 (m : Mem)
  /-- `FLDCW_m16`, rule R652. -/
  | fldcwM16 (m : Mem)
  /-- `LOOPNE_LOOPNZ_rel8`, rule R442. -/
  | loopneRel8 (rel : Byte)
  /-- `LOOPE_LOOPZ_rel8`, rule R441. -/
  | loopeRel8 (rel : Byte)
  /-- `LOOP_rel8`, rule R440. -/
  | loopRel8 (rel : Byte)
  /-- `JCXZ_JECXZ_rel8`, rule R379. -/
  | jcxzRel8 (rel : Byte)
  /-- `IN_AL_imm8`, rule R444. -/
  | inAlImm8 (imm : Byte)
  /-- `IN_eAX_imm8`, rule R444. -/
  | inEaxImm8 (imm : Byte)
  /-- `OUT_imm8_AL`, rule R445. -/
  | outImm8Al (imm : Byte)
  /-- `OUT_imm8_eAX`, rule R445. -/
  | outImm8Eax (imm : Byte)
  /-- `CALL_relv`, rule R380. -/
  | callRelv (rel : Dword)
  /-- `JMP_relv`, rule R372. -/
  | jmpRelv (rel : Dword)
  /-- `JMP_ptr16_v`, rule R374. -/
  | jmpPtr16v (off : Dword) (sel : Word)
  /-- `JMP_rel8`, rule R371. -/
  | jmpRel8 (rel : Byte)
  /-- `IN_AL_DX`, rule R444. -/
  | inAlDx
  /-- `IN_eAX_DX`, rule R444. -/
  | inEaxDx
  /-- `OUT_DX_AL`, rule R445. -/
  | outDxAl
  /-- `OUT_DX_eAX`, rule R445. -/
  | outDxEax
  /-- `HLT`, rule R502. -/
  | hlt
  /-- `CMC`, rule R412. -/
  | cmc
  /-- `TEST_r_m8_imm8`, rule R346. -/
  | testRm8Imm8 (d : Rm8) (imm : Byte)
  /-- `TEST_r_mv_immv`, rule R346. -/
  | testRmvImmv (d : Rmv) (imm : Dword)
  /-- `NOT_r_m8`, rule R345. -/
  | notRm8 (d : Rm8)
  /-- `NOT_r_mv`, rule R345. -/
  | notRmv (d : Rmv)
  /-- `NEG_r_m8`, rule R323. -/
  | negRm8 (d : Rm8)
  /-- `NEG_r_mv`, rule R323. -/
  | negRmv (d : Rmv)
  /-- `MUL_r_m8`, rule R320. -/
  | mulRm8 (d : Rm8)
  /-- `MUL_r_mv`, rule R320. -/
  | mulRmv (d : Rmv)
  /-- `IMUL_r_m8`, rule R319. -/
  | imulRm8 (d : Rm8)
  /-- `IMUL_r_mv`, rule R319. -/
  | imulRmv (d : Rmv)
  /-- `DIV_r_m8`, rule R322. -/
  | divRm8 (d : Rm8)
  /-- `DIV_r_mv`, rule R322. -/
  | divRmv (d : Rmv)
  /-- `IDIV_r_m8`, rule R321. -/
  | idivRm8 (d : Rm8)
  /-- `IDIV_r_mv`, rule R321. -/
  | idivRmv (d : Rmv)
  /-- `CLC`, rule R412. -/
  | clc
  /-- `STC`, rule R412. -/
  | stc
  /-- `CLI`, rule R415. -/
  | cli
  /-- `STI`, rule R414. -/
  | sti
  /-- `CLD`, rule R413. -/
  | cld
  /-- `STD`, rule R413. -/
  | std
  /-- `INC_r_m8`, rule R315. -/
  | incRm8 (d : Rm8)
  /-- `DEC_r_m8`, rule R318. -/
  | decRm8 (d : Rm8)
  /-- `INC_r_mv`, rule R315. -/
  | incRmv (d : Rmv)
  /-- `DEC_r_mv`, rule R318. -/
  | decRmv (d : Rmv)
  /-- `CALL_r_mv`, rule R381. -/
  | callRmv (d : Rmv)
  /-- `CALL_m16_v`, rule R383. -/
  | callM16v (m : Mem)
  /-- `JMP_r_mv`, rule R373. -/
  | jmpRmv (d : Rmv)
  /-- `JMP_m16_v`, rule R375. -/
  | jmpM16v (m : Mem)
  /-- `PUSH_mv`, rule R402. -/
  | pushMv (d : Rmv)
  /-- `SLDT_r_m16`, rule R541. -/
  | sldtRm16 (d : Rmv)
  /-- `STR_r_m16`, rule R535. -/
  | strRm16 (d : Rmv)
  /-- `LLDT_r_m16`, rule R540. -/
  | lldtRm16 (d : Rmv)
  /-- `LTR_r_m16`, rule R534. -/
  | ltrRm16 (d : Rmv)
  /-- `VERR_r_m16`, rule R548. -/
  | verrRm16 (d : Rmv)
  /-- `VERW_r_m16`, rule R549. -/
  | verwRm16 (d : Rmv)
  /-- `SGDT_m`, rule R538. -/
  | sgdtM (m : Mem)
  /-- `SIDT_m`, rule R538. -/
  | sidtM (m : Mem)
  /-- `LGDT_m`, rule R536. -/
  | lgdtM (m : Mem)
  /-- `LIDT_m`, rule R537. -/
  | lidtM (m : Mem)
  /-- `SMSW_r_m16`, rule R531. -/
  | smswRm16 (d : Rmv)
  /-- `LMSW_r_m16`, rule R530. -/
  | lmswRm16 (d : Rmv)
  /-- `INVLPG_m`, rule R638. -/
  | invlpgM (m : Mem)
  /-- `LAR_rv_r_mv`, rule R547. -/
  | larRvRmv (r : Reg) (m : Rmv)
  /-- `LSL_rv_r_mv`, rule R546. -/
  | lslRvRmv (r : Reg) (m : Rmv)
  /-- `CLTS`, rule R532. -/
  | clts
  /-- `INVD`, rule R636. -/
  | invd
  /-- `WBINVD`, rule R637. -/
  | wbinvd
  /-- `MOV_r32_CRn`, rule R612. -/
  | movR32CRn (r : Reg) (n : BitVec 3)
  /-- `MOV_r32_DRn`, rule R612. -/
  | movR32DRn (r : Reg) (n : BitVec 3)
  /-- `MOV_CRn_r32`, rule R612. -/
  | movCRnR32 (n : BitVec 3) (r : Reg)
  /-- `MOV_DRn_r32`, rule R612. -/
  | movDRnR32 (n : BitVec 3) (r : Reg)
  /-- `MOV_r32_TRn`, rule R612. -/
  | movR32TRn (r : Reg) (n : BitVec 3)
  /-- `MOV_TRn_r32`, rule R612. -/
  | movTRnR32 (n : BitVec 3) (r : Reg)
  /-- `JO_relv`, rule R378. -/
  | joRelv (rel : Dword)
  /-- `JNO_relv`, rule R378. -/
  | jnoRelv (rel : Dword)
  /-- `JB_JNAE_JC_relv`, rule R378. -/
  | jbRelv (rel : Dword)
  /-- `JAE_JNB_JNC_relv`, rule R378. -/
  | jaeRelv (rel : Dword)
  /-- `JE_JZ_relv`, rule R378. -/
  | jeRelv (rel : Dword)
  /-- `JNE_JNZ_relv`, rule R378. -/
  | jneRelv (rel : Dword)
  /-- `JBE_JNA_relv`, rule R378. -/
  | jbeRelv (rel : Dword)
  /-- `JA_JNBE_relv`, rule R378. -/
  | jaRelv (rel : Dword)
  /-- `JS_relv`, rule R378. -/
  | jsRelv (rel : Dword)
  /-- `JNS_relv`, rule R378. -/
  | jnsRelv (rel : Dword)
  /-- `JP_JPE_relv`, rule R378. -/
  | jpRelv (rel : Dword)
  /-- `JNP_JPO_relv`, rule R378. -/
  | jnpRelv (rel : Dword)
  /-- `JL_JNGE_relv`, rule R378. -/
  | jlRelv (rel : Dword)
  /-- `JGE_JNL_relv`, rule R378. -/
  | jgeRelv (rel : Dword)
  /-- `JLE_JNG_relv`, rule R378. -/
  | jleRelv (rel : Dword)
  /-- `JG_JNLE_relv`, rule R378. -/
  | jgRelv (rel : Dword)
  /-- `SETO_r_m8`, rule R615. -/
  | setoRm8 (d : Rm8)
  /-- `SETNO_r_m8`, rule R615. -/
  | setnoRm8 (d : Rm8)
  /-- `SETB_SETNAE_SETC_r_m8`, rule R615. -/
  | setbRm8 (d : Rm8)
  /-- `SETAE_SETNB_SETNC_r_m8`, rule R615. -/
  | setaeRm8 (d : Rm8)
  /-- `SETE_SETZ_r_m8`, rule R615. -/
  | seteRm8 (d : Rm8)
  /-- `SETNE_SETNZ_r_m8`, rule R615. -/
  | setneRm8 (d : Rm8)
  /-- `SETBE_SETNA_r_m8`, rule R615. -/
  | setbeRm8 (d : Rm8)
  /-- `SETA_SETNBE_r_m8`, rule R615. -/
  | setaRm8 (d : Rm8)
  /-- `SETS_r_m8`, rule R615. -/
  | setsRm8 (d : Rm8)
  /-- `SETNS_r_m8`, rule R615. -/
  | setnsRm8 (d : Rm8)
  /-- `SETP_SETPE_r_m8`, rule R615. -/
  | setpRm8 (d : Rm8)
  /-- `SETNP_SETPO_r_m8`, rule R615. -/
  | setnpRm8 (d : Rm8)
  /-- `SETL_SETNGE_r_m8`, rule R615. -/
  | setlRm8 (d : Rm8)
  /-- `SETGE_SETNL_r_m8`, rule R615. -/
  | setgeRm8 (d : Rm8)
  /-- `SETLE_SETNG_r_m8`, rule R615. -/
  | setleRm8 (d : Rm8)
  /-- `SETG_SETNLE_r_m8`, rule R615. -/
  | setgRm8 (d : Rm8)
  /-- `PUSH_FS`, rule R426. -/
  | pushFs
  /-- `POP_FS`, rule R404. -/
  | popFs
  /-- `PUSH_GS`, rule R426. -/
  | pushGs
  /-- `POP_GS`, rule R404. -/
  | popGs
  /-- `BT_r_mv_rv`, rule R600. -/
  | btRmvRv (d : Rmv) (r : Reg)
  /-- `BTS_r_mv_rv`, rule R603. -/
  | btsRmvRv (d : Rmv) (r : Reg)
  /-- `BTR_r_mv_rv`, rule R602. -/
  | btrRmvRv (d : Rmv) (r : Reg)
  /-- `BTC_r_mv_rv`, rule R601. -/
  | btcRmvRv (d : Rmv) (r : Reg)
  /-- `BT_r_mv_imm8`, rule R600. -/
  | btRmvImm8 (d : Rmv) (imm : Byte)
  /-- `BTS_r_mv_imm8`, rule R603. -/
  | btsRmvImm8 (d : Rmv) (imm : Byte)
  /-- `BTR_r_mv_imm8`, rule R602. -/
  | btrRmvImm8 (d : Rmv) (imm : Byte)
  /-- `BTC_r_mv_imm8`, rule R601. -/
  | btcRmvImm8 (d : Rmv) (imm : Byte)
  /-- `SHLD_r_mv_rv_imm8`, rule R618. -/
  | shldRmvRvImm8 (d : Rmv) (r : Reg) (imm : Byte)
  /-- `SHLD_r_mv_rv_CL`, rule R618. -/
  | shldRmvRvCl (d : Rmv) (r : Reg)
  /-- `SHRD_r_mv_rv_imm8`, rule R619. -/
  | shrdRmvRvImm8 (d : Rmv) (r : Reg) (imm : Byte)
  /-- `SHRD_r_mv_rv_CL`, rule R619. -/
  | shrdRmvRvCl (d : Rmv) (r : Reg)
  /-- `IMUL_rv_r_mv`, rule R585. -/
  | imulRvRmv (r : Reg) (m : Rmv)
  /-- `LSS_rv_m16_v`, rule R592. -/
  | lssRvM16v (r : Reg) (m : Mem)
  /-- `LFS_rv_m16_v`, rule R590. -/
  | lfsRvM16v (r : Reg) (m : Mem)
  /-- `LGS_rv_m16_v`, rule R591. -/
  | lgsRvM16v (r : Reg) (m : Mem)
  /-- `MOVZX_rv_r_m8`, rule R611. -/
  | movzxRvRm8 (r : Reg) (m : Rm8)
  /-- `MOVZX_r32_r_m16`, rule R611. -/
  | movzxR32Rm16 (r : Reg) (m : Rmv)
  /-- `MOVSX_rv_r_m8`, rule R610. -/
  | movsxRvRm8 (r : Reg) (m : Rm8)
  /-- `MOVSX_r32_r_m16`, rule R610. -/
  | movsxR32Rm16 (r : Reg) (m : Rmv)
  /-- `BSF_rv_r_mv`, rule R595. -/
  | bsfRvRmv (r : Reg) (m : Rmv)
  /-- `BSR_rv_r_mv`, rule R596. -/
  | bsrRvRmv (r : Reg) (m : Rmv)
  /-- `CMPXCHG_r_m8_r8`, rule R632. -/
  | cmpxchgRm8R8 (d : Rm8) (r : Reg8)
  /-- `CMPXCHG_r_mv_rv`, rule R632. -/
  | cmpxchgRmvRv (d : Rmv) (r : Reg)
  /-- `XADD_r_m8_r8`, rule R631. -/
  | xaddRm8R8 (d : Rm8) (r : Reg8)
  /-- `XADD_r_mv_rv`, rule R631. -/
  | xaddRmvRv (d : Rmv) (r : Reg)
  /-- `BSWAP_r32`, rule R630. -/
  | bswapR32 (r : Reg)
deriving DecidableEq, Repr, Inhabited

end Sys2Proof
end

