-- ==== Sys2Proof/WellFormed.lean ====
section
/-! DEFINITION. Which instruction terms have an encoding: the processor knows the form, each constant fits its size, the
memory form belongs to the address size (spec/30_encoding.md R246, R270 to R282). -/
namespace Sys2Proof

/-- What decoding depends on besides the bytes: the processor and the two size attributes (R246). -/
structure DecodeCtx where
  cpu : Cpu
  /-- Operand size 32. -/
  op32 : Bool
  /-- Address size 32. -/
  addr32 : Bool
deriving DecidableEq, Repr

/-- A constant of the operand size: any doubleword when it is 32, below 2^16 when it is 16. -/
def DecodeCtx.fitsOp (c : DecodeCtx) (v : Dword) : Bool := c.op32 || decide (v.toNat < 65536)

/-- An offset of the address size. -/
def DecodeCtx.fitsAddr (c : DecodeCtx) (v : Dword) : Bool := c.addr32 || decide (v.toNat < 65536)

/-- The segment register exists on the processor (R274): FS and GS from the 80386. -/
def DecodeCtx.hasSReg (c : DecodeCtx) : SReg → Bool
  | .fs | .gs => decide (3 ≤ c.cpu.level)
  | .es | .cs | .ss | .ds => true

/-- The memory form is one the address size has (R272, R273): BP (EBP) alone needs a displacement, ESP needs a SIB
byte. -/
def Mem.wf (c : DecodeCtx) : Mem → Bool
  | .based16 b d => !c.addr32 && !(b == .bp && d == .none)
  | .direct16 _ => !c.addr32
  | .based32 b d => c.addr32 && !(b == .esp) && !(b == .ebp && d == .none)
  | .direct32 _ => c.addr32
  | .sib _ _ b d => c.addr32 && !(b == .ebp && d == .none)
  | .sibNoBase _ _ _ => c.addr32

def Rm8.wf (c : DecodeCtx) : Rm8 → Bool
  | .reg _ => true
  | .mem m => m.wf c

def Rmv.wf (c : DecodeCtx) : Rmv → Bool
  | .reg _ => true
  | .mem m => m.wf c

/-- An ESC opcode that is none of the named forms of spec/49_486_fpu_instructions.md R652. -/
def escGeneric (c : DecodeCtx) (op reg : BitVec 3) : EscRm → Bool
  | .mem m => m.wf c && !(op == 1 && reg == 5) && !(op == 1 && reg == 7) && !(op == 5 && reg == 7)
  | .reg n => !(op == 3 && reg == 4 && n == 3) && !(op == 7 && reg == 4 && n == 0 && decide (2 ≤ c.cpu.level))

/-- The instruction term has an encoding in the context. -/
def Instr.wf (c : DecodeCtx) : Instr → Bool
  | .addRm8R8 d _ => d.wf c
  | .addRmvRv d _ => d.wf c
  | .addR8Rm8 _ m => m.wf c
  | .addRvRmv _ m => m.wf c
  | .addAlImm8 _ => true
  | .addEaxImmv imm => c.fitsOp imm
  | .addRm8Imm8 d _ => d.wf c
  | .addRm8Imm8Alias82 d _ => d.wf c
  | .addRmvImmv d imm => d.wf c && c.fitsOp imm
  | .addRmvImm8s d _ => d.wf c
  | .orRm8R8 d _ => d.wf c
  | .orRmvRv d _ => d.wf c
  | .orR8Rm8 _ m => m.wf c
  | .orRvRmv _ m => m.wf c
  | .orAlImm8 _ => true
  | .orEaxImmv imm => c.fitsOp imm
  | .orRm8Imm8 d _ => d.wf c
  | .orRm8Imm8Alias82 d _ => d.wf c
  | .orRmvImmv d imm => d.wf c && c.fitsOp imm
  | .orRmvImm8s d _ => d.wf c
  | .adcRm8R8 d _ => d.wf c
  | .adcRmvRv d _ => d.wf c
  | .adcR8Rm8 _ m => m.wf c
  | .adcRvRmv _ m => m.wf c
  | .adcAlImm8 _ => true
  | .adcEaxImmv imm => c.fitsOp imm
  | .adcRm8Imm8 d _ => d.wf c
  | .adcRm8Imm8Alias82 d _ => d.wf c
  | .adcRmvImmv d imm => d.wf c && c.fitsOp imm
  | .adcRmvImm8s d _ => d.wf c
  | .sbbRm8R8 d _ => d.wf c
  | .sbbRmvRv d _ => d.wf c
  | .sbbR8Rm8 _ m => m.wf c
  | .sbbRvRmv _ m => m.wf c
  | .sbbAlImm8 _ => true
  | .sbbEaxImmv imm => c.fitsOp imm
  | .sbbRm8Imm8 d _ => d.wf c
  | .sbbRm8Imm8Alias82 d _ => d.wf c
  | .sbbRmvImmv d imm => d.wf c && c.fitsOp imm
  | .sbbRmvImm8s d _ => d.wf c
  | .andRm8R8 d _ => d.wf c
  | .andRmvRv d _ => d.wf c
  | .andR8Rm8 _ m => m.wf c
  | .andRvRmv _ m => m.wf c
  | .andAlImm8 _ => true
  | .andEaxImmv imm => c.fitsOp imm
  | .andRm8Imm8 d _ => d.wf c
  | .andRm8Imm8Alias82 d _ => d.wf c
  | .andRmvImmv d imm => d.wf c && c.fitsOp imm
  | .andRmvImm8s d _ => d.wf c
  | .subRm8R8 d _ => d.wf c
  | .subRmvRv d _ => d.wf c
  | .subR8Rm8 _ m => m.wf c
  | .subRvRmv _ m => m.wf c
  | .subAlImm8 _ => true
  | .subEaxImmv imm => c.fitsOp imm
  | .subRm8Imm8 d _ => d.wf c
  | .subRm8Imm8Alias82 d _ => d.wf c
  | .subRmvImmv d imm => d.wf c && c.fitsOp imm
  | .subRmvImm8s d _ => d.wf c
  | .xorRm8R8 d _ => d.wf c
  | .xorRmvRv d _ => d.wf c
  | .xorR8Rm8 _ m => m.wf c
  | .xorRvRmv _ m => m.wf c
  | .xorAlImm8 _ => true
  | .xorEaxImmv imm => c.fitsOp imm
  | .xorRm8Imm8 d _ => d.wf c
  | .xorRm8Imm8Alias82 d _ => d.wf c
  | .xorRmvImmv d imm => d.wf c && c.fitsOp imm
  | .xorRmvImm8s d _ => d.wf c
  | .cmpRm8R8 d _ => d.wf c
  | .cmpRmvRv d _ => d.wf c
  | .cmpR8Rm8 _ m => m.wf c
  | .cmpRvRmv _ m => m.wf c
  | .cmpAlImm8 _ => true
  | .cmpEaxImmv imm => c.fitsOp imm
  | .cmpRm8Imm8 d _ => d.wf c
  | .cmpRm8Imm8Alias82 d _ => d.wf c
  | .cmpRmvImmv d imm => d.wf c && c.fitsOp imm
  | .cmpRmvImm8s d _ => d.wf c
  | .pushEs => true
  | .pushCs => true
  | .pushSs => true
  | .pushDs => true
  | .popEs => true
  | .popSs => true
  | .popDs => true
  | .prefixEs => true
  | .prefixCs => true
  | .prefixSs => true
  | .prefixDs => true
  | .prefixFs => decide (3 ≤ c.cpu.level)
  | .prefixGs => decide (3 ≤ c.cpu.level)
  | .prefixOperandSize => decide (3 ≤ c.cpu.level)
  | .prefixAddressSize => decide (3 ≤ c.cpu.level)
  | .prefixLock => true
  | .prefixRepne => true
  | .prefixRep => true
  | .daa => true
  | .das => true
  | .aaa => true
  | .aas => true
  | .incRv _ => true
  | .decRv _ => true
  | .pushRv _ => true
  | .popRv _ => true
  | .pusha => decide (2 ≤ c.cpu.level)
  | .popa => decide (2 ≤ c.cpu.level)
  | .boundRvM _ m => decide (2 ≤ c.cpu.level) && m.wf c
  | .arplRm16R16 d _ => decide (2 ≤ c.cpu.level) && d.wf c
  | .pushImmv imm => decide (2 ≤ c.cpu.level) && c.fitsOp imm
  | .pushImm8s _ => decide (2 ≤ c.cpu.level)
  | .imulRvRmvImmv _ m imm => decide (2 ≤ c.cpu.level) && m.wf c && c.fitsOp imm
  | .imulRvRmvImm8s _ m _ => decide (2 ≤ c.cpu.level) && m.wf c
  | .insb => decide (2 ≤ c.cpu.level)
  | .insv => decide (2 ≤ c.cpu.level)
  | .outsb => decide (2 ≤ c.cpu.level)
  | .outsv => decide (2 ≤ c.cpu.level)
  | .joRel8 _ => true
  | .jnoRel8 _ => true
  | .jbRel8 _ => true
  | .jaeRel8 _ => true
  | .jeRel8 _ => true
  | .jneRel8 _ => true
  | .jbeRel8 _ => true
  | .jaRel8 _ => true
  | .jsRel8 _ => true
  | .jnsRel8 _ => true
  | .jpRel8 _ => true
  | .jnpRel8 _ => true
  | .jlRel8 _ => true
  | .jgeRel8 _ => true
  | .jleRel8 _ => true
  | .jgRel8 _ => true
  | .testRm8R8 d _ => d.wf c
  | .testRmvRv d _ => d.wf c
  | .xchgRm8R8 d _ => d.wf c
  | .xchgRmvRv d _ => d.wf c
  | .movRm8R8 d _ => d.wf c
  | .movRmvRv d _ => d.wf c
  | .movR8Rm8 _ m => m.wf c
  | .movRvRmv _ m => m.wf c
  | .movRm16Sreg d s => d.wf c && c.hasSReg s
  | .leaRvM _ m => m.wf c
  | .movSregRm16 s m => c.hasSReg s && !(s == .cs) && m.wf c
  | .popMv d => d.wf c
  | .nop => true
  | .xchgEaxRv r => !(r == .eax)
  | .cbw => true
  | .cwd => true
  | .callPtr16v off _ => c.fitsOp off
  | .wait => true
  | .pushf => true
  | .popf => true
  | .sahf => true
  | .lahf => true
  | .movAlMoffs8 off => c.fitsAddr off
  | .movEaxMoffsv off => c.fitsAddr off
  | .movMoffs8Al off => c.fitsAddr off
  | .movMoffsvEax off => c.fitsAddr off
  | .movsb => true
  | .movsv => true
  | .cmpsb => true
  | .cmpsv => true
  | .testAlImm8 _ => true
  | .testEaxImmv imm => c.fitsOp imm
  | .stosb => true
  | .stosv => true
  | .lodsb => true
  | .lodsv => true
  | .scasb => true
  | .scasv => true
  | .movR8Imm8 _ _ => true
  | .movRvImmv _ imm => c.fitsOp imm
  | .rolRm8Imm8 d _ => decide (2 ≤ c.cpu.level) && d.wf c
  | .rolRmvImm8 d _ => decide (2 ≤ c.cpu.level) && d.wf c
  | .rolRm8One d => d.wf c
  | .rolRmvOne d => d.wf c
  | .rolRm8Cl d => d.wf c
  | .rolRmvCl d => d.wf c
  | .rorRm8Imm8 d _ => decide (2 ≤ c.cpu.level) && d.wf c
  | .rorRmvImm8 d _ => decide (2 ≤ c.cpu.level) && d.wf c
  | .rorRm8One d => d.wf c
  | .rorRmvOne d => d.wf c
  | .rorRm8Cl d => d.wf c
  | .rorRmvCl d => d.wf c
  | .rclRm8Imm8 d _ => decide (2 ≤ c.cpu.level) && d.wf c
  | .rclRmvImm8 d _ => decide (2 ≤ c.cpu.level) && d.wf c
  | .rclRm8One d => d.wf c
  | .rclRmvOne d => d.wf c
  | .rclRm8Cl d => d.wf c
  | .rclRmvCl d => d.wf c
  | .rcrRm8Imm8 d _ => decide (2 ≤ c.cpu.level) && d.wf c
  | .rcrRmvImm8 d _ => decide (2 ≤ c.cpu.level) && d.wf c
  | .rcrRm8One d => d.wf c
  | .rcrRmvOne d => d.wf c
  | .rcrRm8Cl d => d.wf c
  | .rcrRmvCl d => d.wf c
  | .shlRm8Imm8 d _ => decide (2 ≤ c.cpu.level) && d.wf c
  | .shlRmvImm8 d _ => decide (2 ≤ c.cpu.level) && d.wf c
  | .shlRm8One d => d.wf c
  | .shlRmvOne d => d.wf c
  | .shlRm8Cl d => d.wf c
  | .shlRmvCl d => d.wf c
  | .shrRm8Imm8 d _ => decide (2 ≤ c.cpu.level) && d.wf c
  | .shrRmvImm8 d _ => decide (2 ≤ c.cpu.level) && d.wf c
  | .shrRm8One d => d.wf c
  | .shrRmvOne d => d.wf c
  | .shrRm8Cl d => d.wf c
  | .shrRmvCl d => d.wf c
  | .sarRm8Imm8 d _ => decide (2 ≤ c.cpu.level) && d.wf c
  | .sarRmvImm8 d _ => decide (2 ≤ c.cpu.level) && d.wf c
  | .sarRm8One d => d.wf c
  | .sarRmvOne d => d.wf c
  | .sarRm8Cl d => d.wf c
  | .sarRmvCl d => d.wf c
  | .retImm16 _ => true
  | .ret => true
  | .lesRvM16v _ m => m.wf c
  | .ldsRvM16v _ m => m.wf c
  | .movRm8Imm8 d _ => d.wf c
  | .movRmvImmv d imm => d.wf c && c.fitsOp imm
  | .enterImm16Imm8 _ _ => decide (2 ≤ c.cpu.level)
  | .leave => decide (2 ≤ c.cpu.level)
  | .retfImm16 _ => true
  | .retf => true
  | .int3 => true
  | .intImm8 _ => true
  | .into => true
  | .iret => true
  | .aam _ => true
  | .aad _ => true
  | .xlat => true
  | .esc op reg rm => escGeneric c op reg rm
  | .fninit => true
  | .fnstswAx => decide (2 ≤ c.cpu.level)
  | .fnstswM16 m => m.wf c
  | .fnstcwM16 m => m.wf c
  | .fldcwM16 m => m.wf c
  | .loopneRel8 _ => true
  | .loopeRel8 _ => true
  | .loopRel8 _ => true
  | .jcxzRel8 _ => true
  | .inAlImm8 _ => true
  | .inEaxImm8 _ => true
  | .outImm8Al _ => true
  | .outImm8Eax _ => true
  | .callRelv rel => c.fitsOp rel
  | .jmpRelv rel => c.fitsOp rel
  | .jmpPtr16v off _ => c.fitsOp off
  | .jmpRel8 _ => true
  | .inAlDx => true
  | .inEaxDx => true
  | .outDxAl => true
  | .outDxEax => true
  | .hlt => true
  | .cmc => true
  | .testRm8Imm8 d _ => d.wf c
  | .testRmvImmv d imm => d.wf c && c.fitsOp imm
  | .notRm8 d => d.wf c
  | .notRmv d => d.wf c
  | .negRm8 d => d.wf c
  | .negRmv d => d.wf c
  | .mulRm8 d => d.wf c
  | .mulRmv d => d.wf c
  | .imulRm8 d => d.wf c
  | .imulRmv d => d.wf c
  | .divRm8 d => d.wf c
  | .divRmv d => d.wf c
  | .idivRm8 d => d.wf c
  | .idivRmv d => d.wf c
  | .clc => true
  | .stc => true
  | .cli => true
  | .sti => true
  | .cld => true
  | .std => true
  | .incRm8 d => d.wf c
  | .decRm8 d => d.wf c
  | .incRmv d => d.wf c
  | .decRmv d => d.wf c
  | .callRmv d => d.wf c
  | .callM16v m => m.wf c
  | .jmpRmv d => d.wf c
  | .jmpM16v m => m.wf c
  | .pushMv d => d.wf c
  | .sldtRm16 d => decide (2 ≤ c.cpu.level) && d.wf c
  | .strRm16 d => decide (2 ≤ c.cpu.level) && d.wf c
  | .lldtRm16 d => decide (2 ≤ c.cpu.level) && d.wf c
  | .ltrRm16 d => decide (2 ≤ c.cpu.level) && d.wf c
  | .verrRm16 d => decide (2 ≤ c.cpu.level) && d.wf c
  | .verwRm16 d => decide (2 ≤ c.cpu.level) && d.wf c
  | .sgdtM m => decide (2 ≤ c.cpu.level) && m.wf c
  | .sidtM m => decide (2 ≤ c.cpu.level) && m.wf c
  | .lgdtM m => decide (2 ≤ c.cpu.level) && m.wf c
  | .lidtM m => decide (2 ≤ c.cpu.level) && m.wf c
  | .smswRm16 d => decide (2 ≤ c.cpu.level) && d.wf c
  | .lmswRm16 d => decide (2 ≤ c.cpu.level) && d.wf c
  | .invlpgM m => decide (4 ≤ c.cpu.level) && m.wf c
  | .larRvRmv _ m => decide (2 ≤ c.cpu.level) && m.wf c
  | .lslRvRmv _ m => decide (2 ≤ c.cpu.level) && m.wf c
  | .clts => decide (2 ≤ c.cpu.level)
  | .invd => decide (4 ≤ c.cpu.level)
  | .wbinvd => decide (4 ≤ c.cpu.level)
  | .movR32CRn _ _ => decide (3 ≤ c.cpu.level)
  | .movR32DRn _ _ => decide (3 ≤ c.cpu.level)
  | .movCRnR32 _ _ => decide (3 ≤ c.cpu.level)
  | .movDRnR32 _ _ => decide (3 ≤ c.cpu.level)
  | .movR32TRn _ _ => decide (3 ≤ c.cpu.level)
  | .movTRnR32 _ _ => decide (3 ≤ c.cpu.level)
  | .joRelv rel => decide (3 ≤ c.cpu.level) && c.fitsOp rel
  | .jnoRelv rel => decide (3 ≤ c.cpu.level) && c.fitsOp rel
  | .jbRelv rel => decide (3 ≤ c.cpu.level) && c.fitsOp rel
  | .jaeRelv rel => decide (3 ≤ c.cpu.level) && c.fitsOp rel
  | .jeRelv rel => decide (3 ≤ c.cpu.level) && c.fitsOp rel
  | .jneRelv rel => decide (3 ≤ c.cpu.level) && c.fitsOp rel
  | .jbeRelv rel => decide (3 ≤ c.cpu.level) && c.fitsOp rel
  | .jaRelv rel => decide (3 ≤ c.cpu.level) && c.fitsOp rel
  | .jsRelv rel => decide (3 ≤ c.cpu.level) && c.fitsOp rel
  | .jnsRelv rel => decide (3 ≤ c.cpu.level) && c.fitsOp rel
  | .jpRelv rel => decide (3 ≤ c.cpu.level) && c.fitsOp rel
  | .jnpRelv rel => decide (3 ≤ c.cpu.level) && c.fitsOp rel
  | .jlRelv rel => decide (3 ≤ c.cpu.level) && c.fitsOp rel
  | .jgeRelv rel => decide (3 ≤ c.cpu.level) && c.fitsOp rel
  | .jleRelv rel => decide (3 ≤ c.cpu.level) && c.fitsOp rel
  | .jgRelv rel => decide (3 ≤ c.cpu.level) && c.fitsOp rel
  | .setoRm8 d => decide (3 ≤ c.cpu.level) && d.wf c
  | .setnoRm8 d => decide (3 ≤ c.cpu.level) && d.wf c
  | .setbRm8 d => decide (3 ≤ c.cpu.level) && d.wf c
  | .setaeRm8 d => decide (3 ≤ c.cpu.level) && d.wf c
  | .seteRm8 d => decide (3 ≤ c.cpu.level) && d.wf c
  | .setneRm8 d => decide (3 ≤ c.cpu.level) && d.wf c
  | .setbeRm8 d => decide (3 ≤ c.cpu.level) && d.wf c
  | .setaRm8 d => decide (3 ≤ c.cpu.level) && d.wf c
  | .setsRm8 d => decide (3 ≤ c.cpu.level) && d.wf c
  | .setnsRm8 d => decide (3 ≤ c.cpu.level) && d.wf c
  | .setpRm8 d => decide (3 ≤ c.cpu.level) && d.wf c
  | .setnpRm8 d => decide (3 ≤ c.cpu.level) && d.wf c
  | .setlRm8 d => decide (3 ≤ c.cpu.level) && d.wf c
  | .setgeRm8 d => decide (3 ≤ c.cpu.level) && d.wf c
  | .setleRm8 d => decide (3 ≤ c.cpu.level) && d.wf c
  | .setgRm8 d => decide (3 ≤ c.cpu.level) && d.wf c
  | .pushFs => decide (3 ≤ c.cpu.level)
  | .popFs => decide (3 ≤ c.cpu.level)
  | .pushGs => decide (3 ≤ c.cpu.level)
  | .popGs => decide (3 ≤ c.cpu.level)
  | .btRmvRv d _ => decide (3 ≤ c.cpu.level) && d.wf c
  | .btsRmvRv d _ => decide (3 ≤ c.cpu.level) && d.wf c
  | .btrRmvRv d _ => decide (3 ≤ c.cpu.level) && d.wf c
  | .btcRmvRv d _ => decide (3 ≤ c.cpu.level) && d.wf c
  | .btRmvImm8 d _ => decide (3 ≤ c.cpu.level) && d.wf c
  | .btsRmvImm8 d _ => decide (3 ≤ c.cpu.level) && d.wf c
  | .btrRmvImm8 d _ => decide (3 ≤ c.cpu.level) && d.wf c
  | .btcRmvImm8 d _ => decide (3 ≤ c.cpu.level) && d.wf c
  | .shldRmvRvImm8 d _ _ => decide (3 ≤ c.cpu.level) && d.wf c
  | .shldRmvRvCl d _ => decide (3 ≤ c.cpu.level) && d.wf c
  | .shrdRmvRvImm8 d _ _ => decide (3 ≤ c.cpu.level) && d.wf c
  | .shrdRmvRvCl d _ => decide (3 ≤ c.cpu.level) && d.wf c
  | .imulRvRmv _ m => decide (3 ≤ c.cpu.level) && m.wf c
  | .lssRvM16v _ m => decide (3 ≤ c.cpu.level) && m.wf c
  | .lfsRvM16v _ m => decide (3 ≤ c.cpu.level) && m.wf c
  | .lgsRvM16v _ m => decide (3 ≤ c.cpu.level) && m.wf c
  | .movzxRvRm8 _ m => decide (3 ≤ c.cpu.level) && m.wf c
  | .movzxR32Rm16 _ m => decide (3 ≤ c.cpu.level) && m.wf c
  | .movsxRvRm8 _ m => decide (3 ≤ c.cpu.level) && m.wf c
  | .movsxR32Rm16 _ m => decide (3 ≤ c.cpu.level) && m.wf c
  | .bsfRvRmv _ m => decide (3 ≤ c.cpu.level) && m.wf c
  | .bsrRvRmv _ m => decide (3 ≤ c.cpu.level) && m.wf c
  | .cmpxchgRm8R8 d _ => decide (4 ≤ c.cpu.level) && d.wf c
  | .cmpxchgRmvRv d _ => decide (4 ≤ c.cpu.level) && d.wf c
  | .xaddRm8R8 d _ => decide (4 ≤ c.cpu.level) && d.wf c
  | .xaddRmvRv d _ => decide (4 ≤ c.cpu.level) && d.wf c
  | .bswapR32 _ => decide (4 ≤ c.cpu.level)

end Sys2Proof
end

