-- ==== Sys2Proof/Decode.lean ====
section
/-! DEFINITION. The decoder, total on any bytes, and the encoder (spec/30_encoding.md section 4, R270 to R283). The
opcode tables say what follows an opcode; `Entry.read` reads it. Encodings are the spec's own outside knowledge (R270). -/
namespace Sys2Proof

/-! ## Register numbers (R274) -/

def Reg.num : Reg → BitVec 3
  | .eax => 0 | .ecx => 1 | .edx => 2 | .ebx => 3 | .esp => 4 | .ebp => 5 | .esi => 6 | .edi => 7

def Reg.ofNum (n : BitVec 3) : Reg :=
  match n.toNat with
  | 0 => .eax | 1 => .ecx | 2 => .edx | 3 => .ebx | 4 => .esp | 5 => .ebp | 6 => .esi | _ => .edi

def Reg8.num : Reg8 → BitVec 3
  | .al => 0 | .cl => 1 | .dl => 2 | .bl => 3 | .ah => 4 | .ch => 5 | .dh => 6 | .bh => 7

def Reg8.ofNum (n : BitVec 3) : Reg8 :=
  match n.toNat with
  | 0 => .al | 1 => .cl | 2 => .dl | 3 => .bl | 4 => .ah | 5 => .ch | 6 => .dh | _ => .bh

def SReg.num : SReg → BitVec 3
  | .es => 0 | .cs => 1 | .ss => 2 | .ds => 3 | .fs => 4 | .gs => 5

/-- The segment register a reg field names; none for 6 and 7, and for FS and GS before the 80386. -/
def SReg.ofNum (c : DecodeCtx) (n : BitVec 3) : Option SReg :=
  match n.toNat with
  | 0 => some .es | 1 => some .cs | 2 => some .ss | 3 => some .ds
  | 4 => if 3 ≤ c.cpu.level then some .fs else none
  | 5 => if 3 ≤ c.cpu.level then some .gs else none
  | _ => none

/-- The register part of a 16-bit address as the rm bits (R272). -/
def Base16.num : Base16 → BitVec 3
  | .bxsi => 0 | .bxdi => 1 | .bpsi => 2 | .bpdi => 3 | .si => 4 | .di => 5 | .bp => 6 | .bx => 7

def Base16.ofNum (n : BitVec 3) : Base16 :=
  match n.toNat with
  | 0 => .bxsi | 1 => .bxdi | 2 => .bpsi | 3 => .bpdi | 4 => .si | 5 => .di | 6 => .bp | _ => .bx

/-! ## Little-endian constants (R262) -/

/-- The bytes of a word, low byte first. -/
def wordBytes (w : Word) : List Byte := [w.extractLsb' 0 8, w.extractLsb' 8 8]

/-- The bytes of a doubleword, low byte first. -/
def dwordBytes (d : Dword) : List Byte :=
  [d.extractLsb' 0 8, d.extractLsb' 8 8, d.extractLsb' 16 8, d.extractLsb' 24 8]

/-! ## Reading bytes -/

/-- The outcome of reading part of an instruction: a value and the rest of the bytes, not enough bytes yet, or an
undefined opcode. -/
inductive Parsed (α : Type) where
  | ok (a : α) (rest : List Byte)
  | more
  | undef
deriving DecidableEq, Repr

/-- Carry on with the value and the rest. -/
def Parsed.andThen {α β : Type} (p : Parsed α) (f : α → List Byte → Parsed β) : Parsed β :=
  match p with
  | .ok a rest => f a rest
  | .more => .more
  | .undef => .undef

def readByte : List Byte → Parsed Byte
  | b :: rest => .ok b rest
  | [] => .more

def readWord : List Byte → Parsed Word
  | a :: b :: rest => .ok (b ++ a) rest
  | _ => .more

def readDword : List Byte → Parsed Dword
  | a :: b :: c :: d :: rest => .ok (d ++ c ++ b ++ a) rest
  | _ => .more

/-- A constant of the operand or address size, held in 32 bits. -/
def readSized (wide : Bool) (bs : List Byte) : Parsed Dword :=
  if wide then readDword bs else (readWord bs).andThen fun w rest => .ok (w.setWidth 32) rest

/-! ## ModRM and SIB (R271 to R273) -/

/-- A ModRM (or SIB) byte from its three fields. -/
def modrmByte (mod : BitVec 2) (reg rm : BitVec 3) : Byte := (mod ++ reg ++ rm : BitVec 8)

def modOf (b : Byte) : BitVec 2 := b.extractLsb' 6 2
def regOf (b : Byte) : BitVec 3 := b.extractLsb' 3 3
def rmOf (b : Byte) : BitVec 3 := b.extractLsb' 0 3

/-- The memory operand of a ModRM byte with AddrSize 16 and `mod` not 11 (R272). -/
def readMem16 (mod : BitVec 2) (rm : BitVec 3) (bs : List Byte) : Parsed Mem :=
  match mod.toNat with
  | 0 =>
    if rm = 6 then (readWord bs).andThen fun d rest => .ok (.direct16 d) rest
    else .ok (.based16 (Base16.ofNum rm) .none) bs
  | 1 => (readByte bs).andThen fun d rest => .ok (.based16 (Base16.ofNum rm) (.d8 d)) rest
  | _ => (readWord bs).andThen fun d rest => .ok (.based16 (Base16.ofNum rm) (.d16 d)) rest

/-- The displacement of a 32-bit form with a base. -/
def readDisp32 (mod : BitVec 2) (bs : List Byte) : Parsed Disp32 :=
  match mod.toNat with
  | 0 => .ok .none bs
  | 1 => (readByte bs).andThen fun d rest => .ok (.d8 d) rest
  | _ => (readDword bs).andThen fun d rest => .ok (.d32 d) rest

/-- The memory operand of a ModRM byte with AddrSize 32 and `mod` not 11 (R273). -/
def readMem32 (mod : BitVec 2) (rm : BitVec 3) (bs : List Byte) : Parsed Mem :=
  if rm = 4 then
    (readByte bs).andThen fun s rest =>
      if mod = 0 ∧ rmOf s = 5 then
        (readDword rest).andThen fun d rest => .ok (.sibNoBase (modOf s) (Reg.ofNum (regOf s)) d) rest
      else
        (readDisp32 mod rest).andThen fun d rest =>
          .ok (.sib (modOf s) (Reg.ofNum (regOf s)) (Reg.ofNum (rmOf s)) d) rest
  else if mod = 0 ∧ rm = 5 then
    (readDword bs).andThen fun d rest => .ok (.direct32 d) rest
  else
    (readDisp32 mod bs).andThen fun d rest => .ok (.based32 (Reg.ofNum rm) d) rest

/-- The memory operand of a ModRM byte whose `mod` is not 11. -/
def readMem (c : DecodeCtx) (mod : BitVec 2) (rm : BitVec 3) (bs : List Byte) : Parsed Mem :=
  if c.addr32 then readMem32 mod rm bs else readMem16 mod rm bs

/-! ## What follows an opcode -/

/-- What the r/m part of a ModRM byte stands for in a form, and the constant after it. -/
inductive Tail where
  | undef
  | rm8 (f : Rm8 → Instr)
  | rm8Imm8 (f : Rm8 → Byte → Instr)
  | rmv (f : Rmv → Instr)
  | rmvImmv (f : Rmv → Dword → Instr)
  | rmvImm8 (f : Rmv → Byte → Instr)
  /-- Memory only: mod = 11 is an undefined opcode (R277 d). -/
  | mem (f : Mem → Instr)
  /-- Register only: mod is ignored (R278). -/
  | reg (f : Reg → Instr)
  | esc (fm : Mem → Instr) (fr : BitVec 3 → Instr)

/-- What follows an opcode byte. -/
inductive Entry where
  | undef
  | done (i : Instr)
  | imm8 (f : Byte → Instr)
  | immv (f : Dword → Instr)
  | imm16 (f : Word → Instr)
  | imm16Imm8 (f : Word → Byte → Instr)
  | ptr (f : Dword → Word → Instr)
  | moffs (f : Dword → Instr)
  /-- A ModRM byte; the reg field decides how to go on. -/
  | modrm (f : BitVec 3 → Tail)
  /-- A second opcode byte (0Fh, 80286 and later). -/
  | escape

/-- The entry on processors from a generation on, undefined before (R282). -/
def Entry.since (level : Nat) (c : DecodeCtx) (e : Entry) : Entry :=
  if level ≤ c.cpu.level then e else .undef

/-- The r/m part of a byte form. -/
def readRm8 (c : DecodeCtx) (mod : BitVec 2) (rm : BitVec 3) (bs : List Byte) : Parsed Rm8 :=
  if mod = 3 then .ok (.reg (Reg8.ofNum rm)) bs else (readMem c mod rm bs).andThen fun m rest => .ok (.mem m) rest

/-- The r/m part of a 16- or 32-bit form. -/
def readRmv (c : DecodeCtx) (mod : BitVec 2) (rm : BitVec 3) (bs : List Byte) : Parsed Rmv :=
  if mod = 3 then .ok (.reg (Reg.ofNum rm)) bs else (readMem c mod rm bs).andThen fun m rest => .ok (.mem m) rest

/-- Reads what a form has after the reg field. -/
def Tail.read (c : DecodeCtx) (mod : BitVec 2) (rm : BitVec 3) (bs : List Byte) : Tail → Parsed Instr
  | .undef => .undef
  | .rm8 f => (readRm8 c mod rm bs).andThen fun d rest => .ok (f d) rest
  | .rm8Imm8 f =>
    (readRm8 c mod rm bs).andThen fun d rest => (readByte rest).andThen fun v rest => .ok (f d v) rest
  | .rmv f => (readRmv c mod rm bs).andThen fun d rest => .ok (f d) rest
  | .rmvImmv f =>
    (readRmv c mod rm bs).andThen fun d rest => (readSized c.op32 rest).andThen fun v rest => .ok (f d v) rest
  | .rmvImm8 f =>
    (readRmv c mod rm bs).andThen fun d rest => (readByte rest).andThen fun v rest => .ok (f d v) rest
  | .mem f => if mod = 3 then .undef else (readMem c mod rm bs).andThen fun m rest => .ok (f m) rest
  | .reg f => .ok (f (Reg.ofNum rm)) bs
  | .esc fm fr =>
    if mod = 3 then .ok (fr rm) bs else (readMem c mod rm bs).andThen fun m rest => .ok (fm m) rest

/-- Reads what follows the opcode. An escape is resolved before. -/
def Entry.read (c : DecodeCtx) (bs : List Byte) : Entry → Parsed Instr
  | .undef => .undef
  | .done i => .ok i bs
  | .imm8 f => (readByte bs).andThen fun v rest => .ok (f v) rest
  | .immv f => (readSized c.op32 bs).andThen fun v rest => .ok (f v) rest
  | .imm16 f => (readWord bs).andThen fun v rest => .ok (f v) rest
  | .imm16Imm8 f =>
    (readWord bs).andThen fun v rest => (readByte rest).andThen fun k rest => .ok (f v k) rest
  | .ptr f =>
    (readSized c.op32 bs).andThen fun v rest => (readWord rest).andThen fun k rest => .ok (f v k) rest
  | .moffs f => (readSized c.addr32 bs).andThen fun v rest => .ok (f v) rest
  | .modrm f => (readByte bs).andThen fun b rest => (f (regOf b)).read c (modOf b) (rmOf b) rest
  | .escape => .undef

/-! ## The opcode tables (R276, R278)

Lean's compiler has no tag for so many constructors with fields, so what builds an `Instr` is marked noncomputable; the
kernel evaluates it as any other definition. -/

noncomputable section

/-- ESC with a memory operand: the three forms the spec names (49 R652), else the generic one. -/
def escMem (op reg : BitVec 3) (m : Mem) : Instr :=
  if op = 1 ∧ reg = 5 then .fldcwM16 m
  else if op = 1 ∧ reg = 7 then .fnstcwM16 m
  else if op = 5 ∧ reg = 7 then .fnstswM16 m
  else .esc op reg (.mem m)

/-- ESC with mod = 11: FNINIT, FNSTSW AX (80287 and later), else the generic one. -/
def escReg (c : DecodeCtx) (op reg n : BitVec 3) : Instr :=
  if op = 3 ∧ reg = 4 ∧ n = 3 then .fninit
  else if op = 7 ∧ reg = 4 ∧ n = 0 ∧ 2 ≤ c.cpu.level then .fnstswAx
  else .esc op reg (.reg n)

/-- One-byte opcodes 0xh. -/
def opRow0 (c : DecodeCtx) : Nat → Entry
  | 0 => .modrm fun r => .rm8 (fun d => .addRm8R8 d (Reg8.ofNum r))
  | 1 => .modrm fun r => .rmv (fun d => .addRmvRv d (Reg.ofNum r))
  | 2 => .modrm fun r => .rm8 (.addR8Rm8 (Reg8.ofNum r))
  | 3 => .modrm fun r => .rmv (.addRvRmv (Reg.ofNum r))
  | 4 => .imm8 .addAlImm8
  | 5 => .immv .addEaxImmv
  | 6 => .done .pushEs
  | 7 => .done .popEs
  | 8 => .modrm fun r => .rm8 (fun d => .orRm8R8 d (Reg8.ofNum r))
  | 9 => .modrm fun r => .rmv (fun d => .orRmvRv d (Reg.ofNum r))
  | 10 => .modrm fun r => .rm8 (.orR8Rm8 (Reg8.ofNum r))
  | 11 => .modrm fun r => .rmv (.orRvRmv (Reg.ofNum r))
  | 12 => .imm8 .orAlImm8
  | 13 => .immv .orEaxImmv
  | 14 => .done .pushCs
  | _ => .since 2 c <| .escape

/-- One-byte opcodes 1xh. -/
def opRow1 (_c : DecodeCtx) : Nat → Entry
  | 0 => .modrm fun r => .rm8 (fun d => .adcRm8R8 d (Reg8.ofNum r))
  | 1 => .modrm fun r => .rmv (fun d => .adcRmvRv d (Reg.ofNum r))
  | 2 => .modrm fun r => .rm8 (.adcR8Rm8 (Reg8.ofNum r))
  | 3 => .modrm fun r => .rmv (.adcRvRmv (Reg.ofNum r))
  | 4 => .imm8 .adcAlImm8
  | 5 => .immv .adcEaxImmv
  | 6 => .done .pushSs
  | 7 => .done .popSs
  | 8 => .modrm fun r => .rm8 (fun d => .sbbRm8R8 d (Reg8.ofNum r))
  | 9 => .modrm fun r => .rmv (fun d => .sbbRmvRv d (Reg.ofNum r))
  | 10 => .modrm fun r => .rm8 (.sbbR8Rm8 (Reg8.ofNum r))
  | 11 => .modrm fun r => .rmv (.sbbRvRmv (Reg.ofNum r))
  | 12 => .imm8 .sbbAlImm8
  | 13 => .immv .sbbEaxImmv
  | 14 => .done .pushDs
  | _ => .done .popDs

/-- One-byte opcodes 2xh. -/
def opRow2 (_c : DecodeCtx) : Nat → Entry
  | 0 => .modrm fun r => .rm8 (fun d => .andRm8R8 d (Reg8.ofNum r))
  | 1 => .modrm fun r => .rmv (fun d => .andRmvRv d (Reg.ofNum r))
  | 2 => .modrm fun r => .rm8 (.andR8Rm8 (Reg8.ofNum r))
  | 3 => .modrm fun r => .rmv (.andRvRmv (Reg.ofNum r))
  | 4 => .imm8 .andAlImm8
  | 5 => .immv .andEaxImmv
  | 6 => .done .prefixEs
  | 7 => .done .daa
  | 8 => .modrm fun r => .rm8 (fun d => .subRm8R8 d (Reg8.ofNum r))
  | 9 => .modrm fun r => .rmv (fun d => .subRmvRv d (Reg.ofNum r))
  | 10 => .modrm fun r => .rm8 (.subR8Rm8 (Reg8.ofNum r))
  | 11 => .modrm fun r => .rmv (.subRvRmv (Reg.ofNum r))
  | 12 => .imm8 .subAlImm8
  | 13 => .immv .subEaxImmv
  | 14 => .done .prefixCs
  | _ => .done .das

/-- One-byte opcodes 3xh. -/
def opRow3 (_c : DecodeCtx) : Nat → Entry
  | 0 => .modrm fun r => .rm8 (fun d => .xorRm8R8 d (Reg8.ofNum r))
  | 1 => .modrm fun r => .rmv (fun d => .xorRmvRv d (Reg.ofNum r))
  | 2 => .modrm fun r => .rm8 (.xorR8Rm8 (Reg8.ofNum r))
  | 3 => .modrm fun r => .rmv (.xorRvRmv (Reg.ofNum r))
  | 4 => .imm8 .xorAlImm8
  | 5 => .immv .xorEaxImmv
  | 6 => .done .prefixSs
  | 7 => .done .aaa
  | 8 => .modrm fun r => .rm8 (fun d => .cmpRm8R8 d (Reg8.ofNum r))
  | 9 => .modrm fun r => .rmv (fun d => .cmpRmvRv d (Reg.ofNum r))
  | 10 => .modrm fun r => .rm8 (.cmpR8Rm8 (Reg8.ofNum r))
  | 11 => .modrm fun r => .rmv (.cmpRvRmv (Reg.ofNum r))
  | 12 => .imm8 .cmpAlImm8
  | 13 => .immv .cmpEaxImmv
  | 14 => .done .prefixDs
  | _ => .done .aas

/-- One-byte opcodes 4xh. -/
def opRow4 (_c : DecodeCtx) : Nat → Entry
  | 0 => .done (.incRv .eax)
  | 1 => .done (.incRv .ecx)
  | 2 => .done (.incRv .edx)
  | 3 => .done (.incRv .ebx)
  | 4 => .done (.incRv .esp)
  | 5 => .done (.incRv .ebp)
  | 6 => .done (.incRv .esi)
  | 7 => .done (.incRv .edi)
  | 8 => .done (.decRv .eax)
  | 9 => .done (.decRv .ecx)
  | 10 => .done (.decRv .edx)
  | 11 => .done (.decRv .ebx)
  | 12 => .done (.decRv .esp)
  | 13 => .done (.decRv .ebp)
  | 14 => .done (.decRv .esi)
  | _ => .done (.decRv .edi)

/-- One-byte opcodes 5xh. -/
def opRow5 (_c : DecodeCtx) : Nat → Entry
  | 0 => .done (.pushRv .eax)
  | 1 => .done (.pushRv .ecx)
  | 2 => .done (.pushRv .edx)
  | 3 => .done (.pushRv .ebx)
  | 4 => .done (.pushRv .esp)
  | 5 => .done (.pushRv .ebp)
  | 6 => .done (.pushRv .esi)
  | 7 => .done (.pushRv .edi)
  | 8 => .done (.popRv .eax)
  | 9 => .done (.popRv .ecx)
  | 10 => .done (.popRv .edx)
  | 11 => .done (.popRv .ebx)
  | 12 => .done (.popRv .esp)
  | 13 => .done (.popRv .ebp)
  | 14 => .done (.popRv .esi)
  | _ => .done (.popRv .edi)

/-- One-byte opcodes 6xh. -/
def opRow6 (c : DecodeCtx) : Nat → Entry
  | 0 => .since 2 c <| .done .pusha
  | 1 => .since 2 c <| .done .popa
  | 2 => .since 2 c <| .modrm fun r => .mem (.boundRvM (Reg.ofNum r))
  | 3 => .since 2 c <| .modrm fun r => .rmv (fun d => .arplRm16R16 d (Reg.ofNum r))
  | 4 => .since 3 c <| .done .prefixFs
  | 5 => .since 3 c <| .done .prefixGs
  | 6 => .since 3 c <| .done .prefixOperandSize
  | 7 => .since 3 c <| .done .prefixAddressSize
  | 8 => .since 2 c <| .immv .pushImmv
  | 9 => .since 2 c <| .modrm fun r => .rmvImmv (.imulRvRmvImmv (Reg.ofNum r))
  | 10 => .since 2 c <| .imm8 .pushImm8s
  | 11 => .since 2 c <| .modrm fun r => .rmvImm8 (.imulRvRmvImm8s (Reg.ofNum r))
  | 12 => .since 2 c <| .done .insb
  | 13 => .since 2 c <| .done .insv
  | 14 => .since 2 c <| .done .outsb
  | _ => .since 2 c <| .done .outsv

/-- One-byte opcodes 7xh. -/
def opRow7 (_c : DecodeCtx) : Nat → Entry
  | 0 => .imm8 .joRel8
  | 1 => .imm8 .jnoRel8
  | 2 => .imm8 .jbRel8
  | 3 => .imm8 .jaeRel8
  | 4 => .imm8 .jeRel8
  | 5 => .imm8 .jneRel8
  | 6 => .imm8 .jbeRel8
  | 7 => .imm8 .jaRel8
  | 8 => .imm8 .jsRel8
  | 9 => .imm8 .jnsRel8
  | 10 => .imm8 .jpRel8
  | 11 => .imm8 .jnpRel8
  | 12 => .imm8 .jlRel8
  | 13 => .imm8 .jgeRel8
  | 14 => .imm8 .jleRel8
  | _ => .imm8 .jgRel8

/-- One-byte opcodes 8xh. DEDUCED: 8F /0 has a register form (log 100). -/
def opRow8 (c : DecodeCtx) : Nat → Entry
  | 0 => .modrm fun r => match r.toNat with | 0 => .rm8Imm8 .addRm8Imm8 | 1 => .rm8Imm8 .orRm8Imm8 | 2 => .rm8Imm8 .adcRm8Imm8 | 3 => .rm8Imm8 .sbbRm8Imm8 | 4 => .rm8Imm8 .andRm8Imm8 | 5 => .rm8Imm8 .subRm8Imm8 | 6 => .rm8Imm8 .xorRm8Imm8 | _ => .rm8Imm8 .cmpRm8Imm8
  | 1 => .modrm fun r => match r.toNat with | 0 => .rmvImmv .addRmvImmv | 1 => .rmvImmv .orRmvImmv | 2 => .rmvImmv .adcRmvImmv | 3 => .rmvImmv .sbbRmvImmv | 4 => .rmvImmv .andRmvImmv | 5 => .rmvImmv .subRmvImmv | 6 => .rmvImmv .xorRmvImmv | _ => .rmvImmv .cmpRmvImmv
  | 2 => .modrm fun r => match r.toNat with | 0 => .rm8Imm8 .addRm8Imm8Alias82 | 1 => .rm8Imm8 .orRm8Imm8Alias82 | 2 => .rm8Imm8 .adcRm8Imm8Alias82 | 3 => .rm8Imm8 .sbbRm8Imm8Alias82 | 4 => .rm8Imm8 .andRm8Imm8Alias82 | 5 => .rm8Imm8 .subRm8Imm8Alias82 | 6 => .rm8Imm8 .xorRm8Imm8Alias82 | _ => .rm8Imm8 .cmpRm8Imm8Alias82
  | 3 => .modrm fun r => match r.toNat with | 0 => .rmvImm8 .addRmvImm8s | 1 => .rmvImm8 .orRmvImm8s | 2 => .rmvImm8 .adcRmvImm8s | 3 => .rmvImm8 .sbbRmvImm8s | 4 => .rmvImm8 .andRmvImm8s | 5 => .rmvImm8 .subRmvImm8s | 6 => .rmvImm8 .xorRmvImm8s | _ => .rmvImm8 .cmpRmvImm8s
  | 4 => .modrm fun r => .rm8 (fun d => .testRm8R8 d (Reg8.ofNum r))
  | 5 => .modrm fun r => .rmv (fun d => .testRmvRv d (Reg.ofNum r))
  | 6 => .modrm fun r => .rm8 (fun d => .xchgRm8R8 d (Reg8.ofNum r))
  | 7 => .modrm fun r => .rmv (fun d => .xchgRmvRv d (Reg.ofNum r))
  | 8 => .modrm fun r => .rm8 (fun d => .movRm8R8 d (Reg8.ofNum r))
  | 9 => .modrm fun r => .rmv (fun d => .movRmvRv d (Reg.ofNum r))
  | 10 => .modrm fun r => .rm8 (.movR8Rm8 (Reg8.ofNum r))
  | 11 => .modrm fun r => .rmv (.movRvRmv (Reg.ofNum r))
  | 12 => .modrm fun r => match SReg.ofNum c r with | some s => .rmv (fun d => .movRm16Sreg d s) | none => .undef
  | 13 => .modrm fun r => .mem (.leaRvM (Reg.ofNum r))
  | 14 => .modrm fun r => match SReg.ofNum c r with | some .cs => .undef | some s => .rmv (.movSregRm16 s) | none => .undef
  | _ => .modrm fun r => match r.toNat with | 0 => .rmv .popMv | _ => .undef

/-- One-byte opcodes 9xh. -/
def opRow9 (_c : DecodeCtx) : Nat → Entry
  | 0 => .done .nop
  | 1 => .done (.xchgEaxRv .ecx)
  | 2 => .done (.xchgEaxRv .edx)
  | 3 => .done (.xchgEaxRv .ebx)
  | 4 => .done (.xchgEaxRv .esp)
  | 5 => .done (.xchgEaxRv .ebp)
  | 6 => .done (.xchgEaxRv .esi)
  | 7 => .done (.xchgEaxRv .edi)
  | 8 => .done .cbw
  | 9 => .done .cwd
  | 10 => .ptr .callPtr16v
  | 11 => .done .wait
  | 12 => .done .pushf
  | 13 => .done .popf
  | 14 => .done .sahf
  | _ => .done .lahf

/-- One-byte opcodes Axh. -/
def opRowA (_c : DecodeCtx) : Nat → Entry
  | 0 => .moffs .movAlMoffs8
  | 1 => .moffs .movEaxMoffsv
  | 2 => .moffs .movMoffs8Al
  | 3 => .moffs .movMoffsvEax
  | 4 => .done .movsb
  | 5 => .done .movsv
  | 6 => .done .cmpsb
  | 7 => .done .cmpsv
  | 8 => .imm8 .testAlImm8
  | 9 => .immv .testEaxImmv
  | 10 => .done .stosb
  | 11 => .done .stosv
  | 12 => .done .lodsb
  | 13 => .done .lodsv
  | 14 => .done .scasb
  | _ => .done .scasv

/-- One-byte opcodes Bxh. -/
def opRowB (_c : DecodeCtx) : Nat → Entry
  | 0 => .imm8 (.movR8Imm8 .al)
  | 1 => .imm8 (.movR8Imm8 .cl)
  | 2 => .imm8 (.movR8Imm8 .dl)
  | 3 => .imm8 (.movR8Imm8 .bl)
  | 4 => .imm8 (.movR8Imm8 .ah)
  | 5 => .imm8 (.movR8Imm8 .ch)
  | 6 => .imm8 (.movR8Imm8 .dh)
  | 7 => .imm8 (.movR8Imm8 .bh)
  | 8 => .immv (.movRvImmv .eax)
  | 9 => .immv (.movRvImmv .ecx)
  | 10 => .immv (.movRvImmv .edx)
  | 11 => .immv (.movRvImmv .ebx)
  | 12 => .immv (.movRvImmv .esp)
  | 13 => .immv (.movRvImmv .ebp)
  | 14 => .immv (.movRvImmv .esi)
  | _ => .immv (.movRvImmv .edi)

/-- One-byte opcodes Cxh. -/
def opRowC (c : DecodeCtx) : Nat → Entry
  | 0 => .since 2 c <| .modrm fun r => match r.toNat with | 0 => .rm8Imm8 .rolRm8Imm8 | 1 => .rm8Imm8 .rorRm8Imm8 | 2 => .rm8Imm8 .rclRm8Imm8 | 3 => .rm8Imm8 .rcrRm8Imm8 | 4 => .rm8Imm8 .shlRm8Imm8 | 5 => .rm8Imm8 .shrRm8Imm8 | 7 => .rm8Imm8 .sarRm8Imm8 | _ => .undef
  | 1 => .since 2 c <| .modrm fun r => match r.toNat with | 0 => .rmvImm8 .rolRmvImm8 | 1 => .rmvImm8 .rorRmvImm8 | 2 => .rmvImm8 .rclRmvImm8 | 3 => .rmvImm8 .rcrRmvImm8 | 4 => .rmvImm8 .shlRmvImm8 | 5 => .rmvImm8 .shrRmvImm8 | 7 => .rmvImm8 .sarRmvImm8 | _ => .undef
  | 2 => .imm16 .retImm16
  | 3 => .done .ret
  | 4 => .modrm fun r => .mem (.lesRvM16v (Reg.ofNum r))
  | 5 => .modrm fun r => .mem (.ldsRvM16v (Reg.ofNum r))
  | 6 => .modrm fun r => match r.toNat with | 0 => .rm8Imm8 .movRm8Imm8 | _ => .undef
  | 7 => .modrm fun r => match r.toNat with | 0 => .rmvImmv .movRmvImmv | _ => .undef
  | 8 => .since 2 c <| .imm16Imm8 .enterImm16Imm8
  | 9 => .since 2 c <| .done .leave
  | 10 => .imm16 .retfImm16
  | 11 => .done .retf
  | 12 => .done .int3
  | 13 => .imm8 .intImm8
  | 14 => .done .into
  | _ => .done .iret

/-- One-byte opcodes Dxh. -/
def opRowD (c : DecodeCtx) : Nat → Entry
  | 0 => .modrm fun r => match r.toNat with | 0 => .rm8 .rolRm8One | 1 => .rm8 .rorRm8One | 2 => .rm8 .rclRm8One | 3 => .rm8 .rcrRm8One | 4 => .rm8 .shlRm8One | 5 => .rm8 .shrRm8One | 7 => .rm8 .sarRm8One | _ => .undef
  | 1 => .modrm fun r => match r.toNat with | 0 => .rmv .rolRmvOne | 1 => .rmv .rorRmvOne | 2 => .rmv .rclRmvOne | 3 => .rmv .rcrRmvOne | 4 => .rmv .shlRmvOne | 5 => .rmv .shrRmvOne | 7 => .rmv .sarRmvOne | _ => .undef
  | 2 => .modrm fun r => match r.toNat with | 0 => .rm8 .rolRm8Cl | 1 => .rm8 .rorRm8Cl | 2 => .rm8 .rclRm8Cl | 3 => .rm8 .rcrRm8Cl | 4 => .rm8 .shlRm8Cl | 5 => .rm8 .shrRm8Cl | 7 => .rm8 .sarRm8Cl | _ => .undef
  | 3 => .modrm fun r => match r.toNat with | 0 => .rmv .rolRmvCl | 1 => .rmv .rorRmvCl | 2 => .rmv .rclRmvCl | 3 => .rmv .rcrRmvCl | 4 => .rmv .shlRmvCl | 5 => .rmv .shrRmvCl | 7 => .rmv .sarRmvCl | _ => .undef
  | 4 => .imm8 .aam
  | 5 => .imm8 .aad
  | 7 => .done .xlat
  | 8 => .modrm fun r => .esc (escMem 0 r) (escReg c 0 r)
  | 9 => .modrm fun r => .esc (escMem 1 r) (escReg c 1 r)
  | 10 => .modrm fun r => .esc (escMem 2 r) (escReg c 2 r)
  | 11 => .modrm fun r => .esc (escMem 3 r) (escReg c 3 r)
  | 12 => .modrm fun r => .esc (escMem 4 r) (escReg c 4 r)
  | 13 => .modrm fun r => .esc (escMem 5 r) (escReg c 5 r)
  | 14 => .modrm fun r => .esc (escMem 6 r) (escReg c 6 r)
  | 15 => .modrm fun r => .esc (escMem 7 r) (escReg c 7 r)
  | _ => .undef

/-- One-byte opcodes Exh. -/
def opRowE (_c : DecodeCtx) : Nat → Entry
  | 0 => .imm8 .loopneRel8
  | 1 => .imm8 .loopeRel8
  | 2 => .imm8 .loopRel8
  | 3 => .imm8 .jcxzRel8
  | 4 => .imm8 .inAlImm8
  | 5 => .imm8 .inEaxImm8
  | 6 => .imm8 .outImm8Al
  | 7 => .imm8 .outImm8Eax
  | 8 => .immv .callRelv
  | 9 => .immv .jmpRelv
  | 10 => .ptr .jmpPtr16v
  | 11 => .imm8 .jmpRel8
  | 12 => .done .inAlDx
  | 13 => .done .inEaxDx
  | 14 => .done .outDxAl
  | _ => .done .outDxEax

/-- One-byte opcodes Fxh. -/
def opRowF (_c : DecodeCtx) : Nat → Entry
  | 0 => .done .prefixLock
  | 2 => .done .prefixRepne
  | 3 => .done .prefixRep
  | 4 => .done .hlt
  | 5 => .done .cmc
  | 6 => .modrm fun r => match r.toNat with | 0 => .rm8Imm8 .testRm8Imm8 | 2 => .rm8 .notRm8 | 3 => .rm8 .negRm8 | 4 => .rm8 .mulRm8 | 5 => .rm8 .imulRm8 | 6 => .rm8 .divRm8 | 7 => .rm8 .idivRm8 | _ => .undef
  | 7 => .modrm fun r => match r.toNat with | 0 => .rmvImmv .testRmvImmv | 2 => .rmv .notRmv | 3 => .rmv .negRmv | 4 => .rmv .mulRmv | 5 => .rmv .imulRmv | 6 => .rmv .divRmv | 7 => .rmv .idivRmv | _ => .undef
  | 8 => .done .clc
  | 9 => .done .stc
  | 10 => .done .cli
  | 11 => .done .sti
  | 12 => .done .cld
  | 13 => .done .std
  | 14 => .modrm fun r => match r.toNat with | 0 => .rm8 .incRm8 | 1 => .rm8 .decRm8 | _ => .undef
  | 15 => .modrm fun r => match r.toNat with | 0 => .rmv .incRmv | 1 => .rmv .decRmv | 2 => .rmv .callRmv | 3 => .mem .callM16v | 4 => .rmv .jmpRmv | 5 => .mem .jmpM16v | 6 => .rmv .pushMv | _ => .undef
  | _ => .undef

/-- What follows a first opcode byte (R276). -/
def opcode (c : DecodeCtx) (b : Byte) : Entry :=
  match b.toNat / 16 with
  | 0 => opRow0 c (b.toNat % 16)
  | 1 => opRow1 c (b.toNat % 16)
  | 2 => opRow2 c (b.toNat % 16)
  | 3 => opRow3 c (b.toNat % 16)
  | 4 => opRow4 c (b.toNat % 16)
  | 5 => opRow5 c (b.toNat % 16)
  | 6 => opRow6 c (b.toNat % 16)
  | 7 => opRow7 c (b.toNat % 16)
  | 8 => opRow8 c (b.toNat % 16)
  | 9 => opRow9 c (b.toNat % 16)
  | 10 => opRowA c (b.toNat % 16)
  | 11 => opRowB c (b.toNat % 16)
  | 12 => opRowC c (b.toNat % 16)
  | 13 => opRowD c (b.toNat % 16)
  | 14 => opRowE c (b.toNat % 16)
  | _ => opRowF c (b.toNat % 16)

/-- Two-byte 0F opcodes 0xh. -/
def op0FRow0 (c : DecodeCtx) : Nat → Entry
  | 0 => .since 2 c <| .modrm fun r => match r.toNat with | 0 => .rmv .sldtRm16 | 1 => .rmv .strRm16 | 2 => .rmv .lldtRm16 | 3 => .rmv .ltrRm16 | 4 => .rmv .verrRm16 | 5 => .rmv .verwRm16 | _ => .undef
  | 1 => .since 2 c <| .modrm fun r => match r.toNat with | 0 => .mem .sgdtM | 1 => .mem .sidtM | 2 => .mem .lgdtM | 3 => .mem .lidtM | 4 => .rmv .smswRm16 | 6 => .rmv .lmswRm16 | 7 => if 4 ≤ c.cpu.level then .mem .invlpgM else .undef | _ => .undef
  | 2 => .since 2 c <| .modrm fun r => .rmv (.larRvRmv (Reg.ofNum r))
  | 3 => .since 2 c <| .modrm fun r => .rmv (.lslRvRmv (Reg.ofNum r))
  | 6 => .since 2 c <| .done .clts
  | 8 => .since 4 c <| .done .invd
  | 9 => .since 4 c <| .done .wbinvd
  | _ => .undef

/-- Two-byte 0F opcodes 2xh. -/
def op0FRow2 (c : DecodeCtx) : Nat → Entry
  | 0 => .since 3 c <| .modrm fun r => .reg (fun g => .movR32CRn g r)
  | 1 => .since 3 c <| .modrm fun r => .reg (fun g => .movR32DRn g r)
  | 2 => .since 3 c <| .modrm fun r => .reg (.movCRnR32 r)
  | 3 => .since 3 c <| .modrm fun r => .reg (.movDRnR32 r)
  | 4 => .since 3 c <| .modrm fun r => .reg (fun g => .movR32TRn g r)
  | 6 => .since 3 c <| .modrm fun r => .reg (.movTRnR32 r)
  | _ => .undef

/-- Two-byte 0F opcodes 8xh. -/
def op0FRow8 (c : DecodeCtx) : Nat → Entry
  | 0 => .since 3 c <| .immv .joRelv
  | 1 => .since 3 c <| .immv .jnoRelv
  | 2 => .since 3 c <| .immv .jbRelv
  | 3 => .since 3 c <| .immv .jaeRelv
  | 4 => .since 3 c <| .immv .jeRelv
  | 5 => .since 3 c <| .immv .jneRelv
  | 6 => .since 3 c <| .immv .jbeRelv
  | 7 => .since 3 c <| .immv .jaRelv
  | 8 => .since 3 c <| .immv .jsRelv
  | 9 => .since 3 c <| .immv .jnsRelv
  | 10 => .since 3 c <| .immv .jpRelv
  | 11 => .since 3 c <| .immv .jnpRelv
  | 12 => .since 3 c <| .immv .jlRelv
  | 13 => .since 3 c <| .immv .jgeRelv
  | 14 => .since 3 c <| .immv .jleRelv
  | _ => .since 3 c <| .immv .jgRelv

/-- Two-byte 0F opcodes 9xh. -/
def op0FRow9 (c : DecodeCtx) : Nat → Entry
  | 0 => .since 3 c <| .modrm fun _ => .rm8 .setoRm8
  | 1 => .since 3 c <| .modrm fun _ => .rm8 .setnoRm8
  | 2 => .since 3 c <| .modrm fun _ => .rm8 .setbRm8
  | 3 => .since 3 c <| .modrm fun _ => .rm8 .setaeRm8
  | 4 => .since 3 c <| .modrm fun _ => .rm8 .seteRm8
  | 5 => .since 3 c <| .modrm fun _ => .rm8 .setneRm8
  | 6 => .since 3 c <| .modrm fun _ => .rm8 .setbeRm8
  | 7 => .since 3 c <| .modrm fun _ => .rm8 .setaRm8
  | 8 => .since 3 c <| .modrm fun _ => .rm8 .setsRm8
  | 9 => .since 3 c <| .modrm fun _ => .rm8 .setnsRm8
  | 10 => .since 3 c <| .modrm fun _ => .rm8 .setpRm8
  | 11 => .since 3 c <| .modrm fun _ => .rm8 .setnpRm8
  | 12 => .since 3 c <| .modrm fun _ => .rm8 .setlRm8
  | 13 => .since 3 c <| .modrm fun _ => .rm8 .setgeRm8
  | 14 => .since 3 c <| .modrm fun _ => .rm8 .setleRm8
  | _ => .since 3 c <| .modrm fun _ => .rm8 .setgRm8

/-- Two-byte 0F opcodes Axh. -/
def op0FRowA (c : DecodeCtx) : Nat → Entry
  | 0 => .since 3 c <| .done .pushFs
  | 1 => .since 3 c <| .done .popFs
  | 3 => .since 3 c <| .modrm fun r => .rmv (fun d => .btRmvRv d (Reg.ofNum r))
  | 4 => .since 3 c <| .modrm fun r => .rmvImm8 (fun d v => .shldRmvRvImm8 d (Reg.ofNum r) v)
  | 5 => .since 3 c <| .modrm fun r => .rmv (fun d => .shldRmvRvCl d (Reg.ofNum r))
  | 8 => .since 3 c <| .done .pushGs
  | 9 => .since 3 c <| .done .popGs
  | 11 => .since 3 c <| .modrm fun r => .rmv (fun d => .btsRmvRv d (Reg.ofNum r))
  | 12 => .since 3 c <| .modrm fun r => .rmvImm8 (fun d v => .shrdRmvRvImm8 d (Reg.ofNum r) v)
  | 13 => .since 3 c <| .modrm fun r => .rmv (fun d => .shrdRmvRvCl d (Reg.ofNum r))
  | 15 => .since 3 c <| .modrm fun r => .rmv (.imulRvRmv (Reg.ofNum r))
  | _ => .undef

/-- Two-byte 0F opcodes Bxh. -/
def op0FRowB (c : DecodeCtx) : Nat → Entry
  | 0 => .since 4 c <| .modrm fun r => .rm8 (fun d => .cmpxchgRm8R8 d (Reg8.ofNum r))
  | 1 => .since 4 c <| .modrm fun r => .rmv (fun d => .cmpxchgRmvRv d (Reg.ofNum r))
  | 2 => .since 3 c <| .modrm fun r => .mem (.lssRvM16v (Reg.ofNum r))
  | 3 => .since 3 c <| .modrm fun r => .rmv (fun d => .btrRmvRv d (Reg.ofNum r))
  | 4 => .since 3 c <| .modrm fun r => .mem (.lfsRvM16v (Reg.ofNum r))
  | 5 => .since 3 c <| .modrm fun r => .mem (.lgsRvM16v (Reg.ofNum r))
  | 6 => .since 3 c <| .modrm fun r => .rm8 (.movzxRvRm8 (Reg.ofNum r))
  | 7 => .since 3 c <| .modrm fun r => .rmv (.movzxR32Rm16 (Reg.ofNum r))
  | 10 => .since 3 c <| .modrm fun r => match r.toNat with | 4 => .rmvImm8 .btRmvImm8 | 5 => .rmvImm8 .btsRmvImm8 | 6 => .rmvImm8 .btrRmvImm8 | 7 => .rmvImm8 .btcRmvImm8 | _ => .undef
  | 11 => .since 3 c <| .modrm fun r => .rmv (fun d => .btcRmvRv d (Reg.ofNum r))
  | 12 => .since 3 c <| .modrm fun r => .rmv (.bsfRvRmv (Reg.ofNum r))
  | 13 => .since 3 c <| .modrm fun r => .rmv (.bsrRvRmv (Reg.ofNum r))
  | 14 => .since 3 c <| .modrm fun r => .rm8 (.movsxRvRm8 (Reg.ofNum r))
  | 15 => .since 3 c <| .modrm fun r => .rmv (.movsxR32Rm16 (Reg.ofNum r))
  | _ => .undef

/-- Two-byte 0F opcodes Cxh. -/
def op0FRowC (c : DecodeCtx) : Nat → Entry
  | 0 => .since 4 c <| .modrm fun r => .rm8 (fun d => .xaddRm8R8 d (Reg8.ofNum r))
  | 1 => .since 4 c <| .modrm fun r => .rmv (fun d => .xaddRmvRv d (Reg.ofNum r))
  | 8 => .since 4 c <| .done (.bswapR32 .eax)
  | 9 => .since 4 c <| .done (.bswapR32 .ecx)
  | 10 => .since 4 c <| .done (.bswapR32 .edx)
  | 11 => .since 4 c <| .done (.bswapR32 .ebx)
  | 12 => .since 4 c <| .done (.bswapR32 .esp)
  | 13 => .since 4 c <| .done (.bswapR32 .ebp)
  | 14 => .since 4 c <| .done (.bswapR32 .esi)
  | 15 => .since 4 c <| .done (.bswapR32 .edi)
  | _ => .undef

/-- What follows 0Fh and a second opcode byte (R278). -/
def opcode0F (c : DecodeCtx) (b : Byte) : Entry :=
  match b.toNat / 16 with
  | 0 => op0FRow0 c (b.toNat % 16)
  | 2 => op0FRow2 c (b.toNat % 16)
  | 8 => op0FRow8 c (b.toNat % 16)
  | 9 => op0FRow9 c (b.toNat % 16)
  | 10 => op0FRowA c (b.toNat % 16)
  | 11 => op0FRowB c (b.toNat % 16)
  | 12 => op0FRowC c (b.toNat % 16)
  | _ => .undef

/-- The decoder: one instruction (or one prefix byte, which is an instruction of its own here) from the front of the
bytes; `more` when they end too early, `undef` for an undefined opcode (R249). -/
def decode (c : DecodeCtx) (bs : List Byte) : Parsed Instr :=
  (readByte bs).andThen fun b rest =>
    match opcode c b with
    | .escape => (readByte rest).andThen fun b2 rest => (opcode0F c b2).read c rest
    | e => e.read c rest

/-! ## The encoder -/

/-- A constant of the operand or address size. -/
def encSized (wide : Bool) (v : Dword) : List Byte := if wide then dwordBytes v else wordBytes (v.setWidth 16)

def encDisp16 : Disp16 → List Byte
  | .none => []
  | .d8 d => [d]
  | .d16 d => wordBytes d

def encDisp32 : Disp32 → List Byte
  | .none => []
  | .d8 d => [d]
  | .d32 d => dwordBytes d

def Disp16.mod : Disp16 → BitVec 2
  | .none => 0 | .d8 _ => 1 | .d16 _ => 2

def Disp32.mod : Disp32 → BitVec 2
  | .none => 0 | .d8 _ => 1 | .d32 _ => 2

/-- ModRM, SIB and displacement of a memory operand. -/
def encMem (reg : BitVec 3) : Mem → List Byte
  | .based16 b d => modrmByte d.mod reg b.num :: encDisp16 d
  | .direct16 d => modrmByte 0 reg 6 :: wordBytes d
  | .based32 b d => modrmByte d.mod reg b.num :: encDisp32 d
  | .direct32 d => modrmByte 0 reg 5 :: dwordBytes d
  | .sib s i b d => modrmByte d.mod reg 4 :: modrmByte s i.num b.num :: encDisp32 d
  | .sibNoBase s i d => modrmByte 0 reg 4 :: modrmByte s i.num 5 :: dwordBytes d

def encRm8 (reg : BitVec 3) : Rm8 → List Byte
  | .reg r => [modrmByte 3 reg r.num]
  | .mem m => encMem reg m

def encRmv (reg : BitVec 3) : Rmv → List Byte
  | .reg r => [modrmByte 3 reg r.num]
  | .mem m => encMem reg m

def encEsc (reg : BitVec 3) : EscRm → List Byte
  | .reg n => [modrmByte 3 reg n]
  | .mem m => encMem reg m

/-- An opcode byte with a register number in its low three bits. -/
def plusNum (op : Byte) (n : BitVec 3) : Byte := op ||| n.setWidth 8

/-- The bytes of a well-formed instruction. -/
def encode (c : DecodeCtx) : Instr → List Byte
  | .addRm8R8 d r => 0x00 :: encRm8 r.num d
  | .addRmvRv d r => 0x01 :: encRmv r.num d
  | .addR8Rm8 r m => 0x02 :: encRm8 r.num m
  | .addRvRmv r m => 0x03 :: encRmv r.num m
  | .addAlImm8 imm => 0x04 :: [imm]
  | .addEaxImmv imm => 0x05 :: encSized c.op32 imm
  | .addRm8Imm8 d imm => 0x80 :: (encRm8 0 d ++ [imm])
  | .addRm8Imm8Alias82 d imm => 0x82 :: (encRm8 0 d ++ [imm])
  | .addRmvImmv d imm => 0x81 :: (encRmv 0 d ++ encSized c.op32 imm)
  | .addRmvImm8s d imm => 0x83 :: (encRmv 0 d ++ [imm])
  | .orRm8R8 d r => 0x08 :: encRm8 r.num d
  | .orRmvRv d r => 0x09 :: encRmv r.num d
  | .orR8Rm8 r m => 0x0A :: encRm8 r.num m
  | .orRvRmv r m => 0x0B :: encRmv r.num m
  | .orAlImm8 imm => 0x0C :: [imm]
  | .orEaxImmv imm => 0x0D :: encSized c.op32 imm
  | .orRm8Imm8 d imm => 0x80 :: (encRm8 1 d ++ [imm])
  | .orRm8Imm8Alias82 d imm => 0x82 :: (encRm8 1 d ++ [imm])
  | .orRmvImmv d imm => 0x81 :: (encRmv 1 d ++ encSized c.op32 imm)
  | .orRmvImm8s d imm => 0x83 :: (encRmv 1 d ++ [imm])
  | .adcRm8R8 d r => 0x10 :: encRm8 r.num d
  | .adcRmvRv d r => 0x11 :: encRmv r.num d
  | .adcR8Rm8 r m => 0x12 :: encRm8 r.num m
  | .adcRvRmv r m => 0x13 :: encRmv r.num m
  | .adcAlImm8 imm => 0x14 :: [imm]
  | .adcEaxImmv imm => 0x15 :: encSized c.op32 imm
  | .adcRm8Imm8 d imm => 0x80 :: (encRm8 2 d ++ [imm])
  | .adcRm8Imm8Alias82 d imm => 0x82 :: (encRm8 2 d ++ [imm])
  | .adcRmvImmv d imm => 0x81 :: (encRmv 2 d ++ encSized c.op32 imm)
  | .adcRmvImm8s d imm => 0x83 :: (encRmv 2 d ++ [imm])
  | .sbbRm8R8 d r => 0x18 :: encRm8 r.num d
  | .sbbRmvRv d r => 0x19 :: encRmv r.num d
  | .sbbR8Rm8 r m => 0x1A :: encRm8 r.num m
  | .sbbRvRmv r m => 0x1B :: encRmv r.num m
  | .sbbAlImm8 imm => 0x1C :: [imm]
  | .sbbEaxImmv imm => 0x1D :: encSized c.op32 imm
  | .sbbRm8Imm8 d imm => 0x80 :: (encRm8 3 d ++ [imm])
  | .sbbRm8Imm8Alias82 d imm => 0x82 :: (encRm8 3 d ++ [imm])
  | .sbbRmvImmv d imm => 0x81 :: (encRmv 3 d ++ encSized c.op32 imm)
  | .sbbRmvImm8s d imm => 0x83 :: (encRmv 3 d ++ [imm])
  | .andRm8R8 d r => 0x20 :: encRm8 r.num d
  | .andRmvRv d r => 0x21 :: encRmv r.num d
  | .andR8Rm8 r m => 0x22 :: encRm8 r.num m
  | .andRvRmv r m => 0x23 :: encRmv r.num m
  | .andAlImm8 imm => 0x24 :: [imm]
  | .andEaxImmv imm => 0x25 :: encSized c.op32 imm
  | .andRm8Imm8 d imm => 0x80 :: (encRm8 4 d ++ [imm])
  | .andRm8Imm8Alias82 d imm => 0x82 :: (encRm8 4 d ++ [imm])
  | .andRmvImmv d imm => 0x81 :: (encRmv 4 d ++ encSized c.op32 imm)
  | .andRmvImm8s d imm => 0x83 :: (encRmv 4 d ++ [imm])
  | .subRm8R8 d r => 0x28 :: encRm8 r.num d
  | .subRmvRv d r => 0x29 :: encRmv r.num d
  | .subR8Rm8 r m => 0x2A :: encRm8 r.num m
  | .subRvRmv r m => 0x2B :: encRmv r.num m
  | .subAlImm8 imm => 0x2C :: [imm]
  | .subEaxImmv imm => 0x2D :: encSized c.op32 imm
  | .subRm8Imm8 d imm => 0x80 :: (encRm8 5 d ++ [imm])
  | .subRm8Imm8Alias82 d imm => 0x82 :: (encRm8 5 d ++ [imm])
  | .subRmvImmv d imm => 0x81 :: (encRmv 5 d ++ encSized c.op32 imm)
  | .subRmvImm8s d imm => 0x83 :: (encRmv 5 d ++ [imm])
  | .xorRm8R8 d r => 0x30 :: encRm8 r.num d
  | .xorRmvRv d r => 0x31 :: encRmv r.num d
  | .xorR8Rm8 r m => 0x32 :: encRm8 r.num m
  | .xorRvRmv r m => 0x33 :: encRmv r.num m
  | .xorAlImm8 imm => 0x34 :: [imm]
  | .xorEaxImmv imm => 0x35 :: encSized c.op32 imm
  | .xorRm8Imm8 d imm => 0x80 :: (encRm8 6 d ++ [imm])
  | .xorRm8Imm8Alias82 d imm => 0x82 :: (encRm8 6 d ++ [imm])
  | .xorRmvImmv d imm => 0x81 :: (encRmv 6 d ++ encSized c.op32 imm)
  | .xorRmvImm8s d imm => 0x83 :: (encRmv 6 d ++ [imm])
  | .cmpRm8R8 d r => 0x38 :: encRm8 r.num d
  | .cmpRmvRv d r => 0x39 :: encRmv r.num d
  | .cmpR8Rm8 r m => 0x3A :: encRm8 r.num m
  | .cmpRvRmv r m => 0x3B :: encRmv r.num m
  | .cmpAlImm8 imm => 0x3C :: [imm]
  | .cmpEaxImmv imm => 0x3D :: encSized c.op32 imm
  | .cmpRm8Imm8 d imm => 0x80 :: (encRm8 7 d ++ [imm])
  | .cmpRm8Imm8Alias82 d imm => 0x82 :: (encRm8 7 d ++ [imm])
  | .cmpRmvImmv d imm => 0x81 :: (encRmv 7 d ++ encSized c.op32 imm)
  | .cmpRmvImm8s d imm => 0x83 :: (encRmv 7 d ++ [imm])
  | .pushEs => 0x06 :: []
  | .pushCs => 0x0E :: []
  | .pushSs => 0x16 :: []
  | .pushDs => 0x1E :: []
  | .popEs => 0x07 :: []
  | .popSs => 0x17 :: []
  | .popDs => 0x1F :: []
  | .prefixEs => 0x26 :: []
  | .prefixCs => 0x2E :: []
  | .prefixSs => 0x36 :: []
  | .prefixDs => 0x3E :: []
  | .prefixFs => 0x64 :: []
  | .prefixGs => 0x65 :: []
  | .prefixOperandSize => 0x66 :: []
  | .prefixAddressSize => 0x67 :: []
  | .prefixLock => 0xF0 :: []
  | .prefixRepne => 0xF2 :: []
  | .prefixRep => 0xF3 :: []
  | .daa => 0x27 :: []
  | .das => 0x2F :: []
  | .aaa => 0x37 :: []
  | .aas => 0x3F :: []
  | .incRv r => plusNum 0x40 r.num :: []
  | .decRv r => plusNum 0x48 r.num :: []
  | .pushRv r => plusNum 0x50 r.num :: []
  | .popRv r => plusNum 0x58 r.num :: []
  | .pusha => 0x60 :: []
  | .popa => 0x61 :: []
  | .boundRvM r m => 0x62 :: encMem r.num m
  | .arplRm16R16 d r => 0x63 :: encRmv r.num d
  | .pushImmv imm => 0x68 :: encSized c.op32 imm
  | .pushImm8s imm => 0x6A :: [imm]
  | .imulRvRmvImmv r m imm => 0x69 :: (encRmv r.num m ++ encSized c.op32 imm)
  | .imulRvRmvImm8s r m imm => 0x6B :: (encRmv r.num m ++ [imm])
  | .insb => 0x6C :: []
  | .insv => 0x6D :: []
  | .outsb => 0x6E :: []
  | .outsv => 0x6F :: []
  | .joRel8 rel => 0x70 :: [rel]
  | .jnoRel8 rel => 0x71 :: [rel]
  | .jbRel8 rel => 0x72 :: [rel]
  | .jaeRel8 rel => 0x73 :: [rel]
  | .jeRel8 rel => 0x74 :: [rel]
  | .jneRel8 rel => 0x75 :: [rel]
  | .jbeRel8 rel => 0x76 :: [rel]
  | .jaRel8 rel => 0x77 :: [rel]
  | .jsRel8 rel => 0x78 :: [rel]
  | .jnsRel8 rel => 0x79 :: [rel]
  | .jpRel8 rel => 0x7A :: [rel]
  | .jnpRel8 rel => 0x7B :: [rel]
  | .jlRel8 rel => 0x7C :: [rel]
  | .jgeRel8 rel => 0x7D :: [rel]
  | .jleRel8 rel => 0x7E :: [rel]
  | .jgRel8 rel => 0x7F :: [rel]
  | .testRm8R8 d r => 0x84 :: encRm8 r.num d
  | .testRmvRv d r => 0x85 :: encRmv r.num d
  | .xchgRm8R8 d r => 0x86 :: encRm8 r.num d
  | .xchgRmvRv d r => 0x87 :: encRmv r.num d
  | .movRm8R8 d r => 0x88 :: encRm8 r.num d
  | .movRmvRv d r => 0x89 :: encRmv r.num d
  | .movR8Rm8 r m => 0x8A :: encRm8 r.num m
  | .movRvRmv r m => 0x8B :: encRmv r.num m
  | .movRm16Sreg d s => 0x8C :: encRmv s.num d
  | .leaRvM r m => 0x8D :: encMem r.num m
  | .movSregRm16 s m => 0x8E :: encRmv s.num m
  | .popMv d => 0x8F :: encRmv 0 d
  | .nop => 0x90 :: []
  | .xchgEaxRv r => plusNum 0x90 r.num :: []
  | .cbw => 0x98 :: []
  | .cwd => 0x99 :: []
  | .callPtr16v off sel => 0x9A :: (encSized c.op32 off ++ wordBytes sel)
  | .wait => 0x9B :: []
  | .pushf => 0x9C :: []
  | .popf => 0x9D :: []
  | .sahf => 0x9E :: []
  | .lahf => 0x9F :: []
  | .movAlMoffs8 off => 0xA0 :: encSized c.addr32 off
  | .movEaxMoffsv off => 0xA1 :: encSized c.addr32 off
  | .movMoffs8Al off => 0xA2 :: encSized c.addr32 off
  | .movMoffsvEax off => 0xA3 :: encSized c.addr32 off
  | .movsb => 0xA4 :: []
  | .movsv => 0xA5 :: []
  | .cmpsb => 0xA6 :: []
  | .cmpsv => 0xA7 :: []
  | .testAlImm8 imm => 0xA8 :: [imm]
  | .testEaxImmv imm => 0xA9 :: encSized c.op32 imm
  | .stosb => 0xAA :: []
  | .stosv => 0xAB :: []
  | .lodsb => 0xAC :: []
  | .lodsv => 0xAD :: []
  | .scasb => 0xAE :: []
  | .scasv => 0xAF :: []
  | .movR8Imm8 r imm => plusNum 0xB0 r.num :: [imm]
  | .movRvImmv r imm => plusNum 0xB8 r.num :: encSized c.op32 imm
  | .rolRm8Imm8 d imm => 0xC0 :: (encRm8 0 d ++ [imm])
  | .rolRmvImm8 d imm => 0xC1 :: (encRmv 0 d ++ [imm])
  | .rolRm8One d => 0xD0 :: encRm8 0 d
  | .rolRmvOne d => 0xD1 :: encRmv 0 d
  | .rolRm8Cl d => 0xD2 :: encRm8 0 d
  | .rolRmvCl d => 0xD3 :: encRmv 0 d
  | .rorRm8Imm8 d imm => 0xC0 :: (encRm8 1 d ++ [imm])
  | .rorRmvImm8 d imm => 0xC1 :: (encRmv 1 d ++ [imm])
  | .rorRm8One d => 0xD0 :: encRm8 1 d
  | .rorRmvOne d => 0xD1 :: encRmv 1 d
  | .rorRm8Cl d => 0xD2 :: encRm8 1 d
  | .rorRmvCl d => 0xD3 :: encRmv 1 d
  | .rclRm8Imm8 d imm => 0xC0 :: (encRm8 2 d ++ [imm])
  | .rclRmvImm8 d imm => 0xC1 :: (encRmv 2 d ++ [imm])
  | .rclRm8One d => 0xD0 :: encRm8 2 d
  | .rclRmvOne d => 0xD1 :: encRmv 2 d
  | .rclRm8Cl d => 0xD2 :: encRm8 2 d
  | .rclRmvCl d => 0xD3 :: encRmv 2 d
  | .rcrRm8Imm8 d imm => 0xC0 :: (encRm8 3 d ++ [imm])
  | .rcrRmvImm8 d imm => 0xC1 :: (encRmv 3 d ++ [imm])
  | .rcrRm8One d => 0xD0 :: encRm8 3 d
  | .rcrRmvOne d => 0xD1 :: encRmv 3 d
  | .rcrRm8Cl d => 0xD2 :: encRm8 3 d
  | .rcrRmvCl d => 0xD3 :: encRmv 3 d
  | .shlRm8Imm8 d imm => 0xC0 :: (encRm8 4 d ++ [imm])
  | .shlRmvImm8 d imm => 0xC1 :: (encRmv 4 d ++ [imm])
  | .shlRm8One d => 0xD0 :: encRm8 4 d
  | .shlRmvOne d => 0xD1 :: encRmv 4 d
  | .shlRm8Cl d => 0xD2 :: encRm8 4 d
  | .shlRmvCl d => 0xD3 :: encRmv 4 d
  | .shrRm8Imm8 d imm => 0xC0 :: (encRm8 5 d ++ [imm])
  | .shrRmvImm8 d imm => 0xC1 :: (encRmv 5 d ++ [imm])
  | .shrRm8One d => 0xD0 :: encRm8 5 d
  | .shrRmvOne d => 0xD1 :: encRmv 5 d
  | .shrRm8Cl d => 0xD2 :: encRm8 5 d
  | .shrRmvCl d => 0xD3 :: encRmv 5 d
  | .sarRm8Imm8 d imm => 0xC0 :: (encRm8 7 d ++ [imm])
  | .sarRmvImm8 d imm => 0xC1 :: (encRmv 7 d ++ [imm])
  | .sarRm8One d => 0xD0 :: encRm8 7 d
  | .sarRmvOne d => 0xD1 :: encRmv 7 d
  | .sarRm8Cl d => 0xD2 :: encRm8 7 d
  | .sarRmvCl d => 0xD3 :: encRmv 7 d
  | .retImm16 imm => 0xC2 :: wordBytes imm
  | .ret => 0xC3 :: []
  | .lesRvM16v r m => 0xC4 :: encMem r.num m
  | .ldsRvM16v r m => 0xC5 :: encMem r.num m
  | .movRm8Imm8 d imm => 0xC6 :: (encRm8 0 d ++ [imm])
  | .movRmvImmv d imm => 0xC7 :: (encRmv 0 d ++ encSized c.op32 imm)
  | .enterImm16Imm8 size level => 0xC8 :: (wordBytes size ++ [level])
  | .leave => 0xC9 :: []
  | .retfImm16 imm => 0xCA :: wordBytes imm
  | .retf => 0xCB :: []
  | .int3 => 0xCC :: []
  | .intImm8 imm => 0xCD :: [imm]
  | .into => 0xCE :: []
  | .iret => 0xCF :: []
  | .aam base => [0xD4, base]
  | .aad base => [0xD5, base]
  | .xlat => 0xD7 :: []
  | .esc op reg rm => plusNum 0xD8 op :: encEsc reg rm
  | .fninit => [0xDB, 0xE3]
  | .fnstswAx => [0xDF, 0xE0]
  | .fnstswM16 m => 0xDD :: encMem 7 m
  | .fnstcwM16 m => 0xD9 :: encMem 7 m
  | .fldcwM16 m => 0xD9 :: encMem 5 m
  | .loopneRel8 rel => 0xE0 :: [rel]
  | .loopeRel8 rel => 0xE1 :: [rel]
  | .loopRel8 rel => 0xE2 :: [rel]
  | .jcxzRel8 rel => 0xE3 :: [rel]
  | .inAlImm8 imm => 0xE4 :: [imm]
  | .inEaxImm8 imm => 0xE5 :: [imm]
  | .outImm8Al imm => 0xE6 :: [imm]
  | .outImm8Eax imm => 0xE7 :: [imm]
  | .callRelv rel => 0xE8 :: encSized c.op32 rel
  | .jmpRelv rel => 0xE9 :: encSized c.op32 rel
  | .jmpPtr16v off sel => 0xEA :: (encSized c.op32 off ++ wordBytes sel)
  | .jmpRel8 rel => 0xEB :: [rel]
  | .inAlDx => 0xEC :: []
  | .inEaxDx => 0xED :: []
  | .outDxAl => 0xEE :: []
  | .outDxEax => 0xEF :: []
  | .hlt => 0xF4 :: []
  | .cmc => 0xF5 :: []
  | .testRm8Imm8 d imm => 0xF6 :: (encRm8 0 d ++ [imm])
  | .testRmvImmv d imm => 0xF7 :: (encRmv 0 d ++ encSized c.op32 imm)
  | .notRm8 d => 0xF6 :: encRm8 2 d
  | .notRmv d => 0xF7 :: encRmv 2 d
  | .negRm8 d => 0xF6 :: encRm8 3 d
  | .negRmv d => 0xF7 :: encRmv 3 d
  | .mulRm8 d => 0xF6 :: encRm8 4 d
  | .mulRmv d => 0xF7 :: encRmv 4 d
  | .imulRm8 d => 0xF6 :: encRm8 5 d
  | .imulRmv d => 0xF7 :: encRmv 5 d
  | .divRm8 d => 0xF6 :: encRm8 6 d
  | .divRmv d => 0xF7 :: encRmv 6 d
  | .idivRm8 d => 0xF6 :: encRm8 7 d
  | .idivRmv d => 0xF7 :: encRmv 7 d
  | .clc => 0xF8 :: []
  | .stc => 0xF9 :: []
  | .cli => 0xFA :: []
  | .sti => 0xFB :: []
  | .cld => 0xFC :: []
  | .std => 0xFD :: []
  | .incRm8 d => 0xFE :: encRm8 0 d
  | .decRm8 d => 0xFE :: encRm8 1 d
  | .incRmv d => 0xFF :: encRmv 0 d
  | .decRmv d => 0xFF :: encRmv 1 d
  | .callRmv d => 0xFF :: encRmv 2 d
  | .callM16v m => 0xFF :: encMem 3 m
  | .jmpRmv d => 0xFF :: encRmv 4 d
  | .jmpM16v m => 0xFF :: encMem 5 m
  | .pushMv d => 0xFF :: encRmv 6 d
  | .sldtRm16 d => 0x0F :: 0x00 :: encRmv 0 d
  | .strRm16 d => 0x0F :: 0x00 :: encRmv 1 d
  | .lldtRm16 d => 0x0F :: 0x00 :: encRmv 2 d
  | .ltrRm16 d => 0x0F :: 0x00 :: encRmv 3 d
  | .verrRm16 d => 0x0F :: 0x00 :: encRmv 4 d
  | .verwRm16 d => 0x0F :: 0x00 :: encRmv 5 d
  | .sgdtM m => 0x0F :: 0x01 :: encMem 0 m
  | .sidtM m => 0x0F :: 0x01 :: encMem 1 m
  | .lgdtM m => 0x0F :: 0x01 :: encMem 2 m
  | .lidtM m => 0x0F :: 0x01 :: encMem 3 m
  | .smswRm16 d => 0x0F :: 0x01 :: encRmv 4 d
  | .lmswRm16 d => 0x0F :: 0x01 :: encRmv 6 d
  | .invlpgM m => 0x0F :: 0x01 :: encMem 7 m
  | .larRvRmv r m => 0x0F :: 0x02 :: encRmv r.num m
  | .lslRvRmv r m => 0x0F :: 0x03 :: encRmv r.num m
  | .clts => 0x0F :: 0x06 :: []
  | .invd => 0x0F :: 0x08 :: []
  | .wbinvd => 0x0F :: 0x09 :: []
  | .movR32CRn r n => 0x0F :: 0x20 :: [modrmByte 3 n r.num]
  | .movR32DRn r n => 0x0F :: 0x21 :: [modrmByte 3 n r.num]
  | .movCRnR32 n r => 0x0F :: 0x22 :: [modrmByte 3 n r.num]
  | .movDRnR32 n r => 0x0F :: 0x23 :: [modrmByte 3 n r.num]
  | .movR32TRn r n => 0x0F :: 0x24 :: [modrmByte 3 n r.num]
  | .movTRnR32 n r => 0x0F :: 0x26 :: [modrmByte 3 n r.num]
  | .joRelv rel => 0x0F :: 0x80 :: encSized c.op32 rel
  | .jnoRelv rel => 0x0F :: 0x81 :: encSized c.op32 rel
  | .jbRelv rel => 0x0F :: 0x82 :: encSized c.op32 rel
  | .jaeRelv rel => 0x0F :: 0x83 :: encSized c.op32 rel
  | .jeRelv rel => 0x0F :: 0x84 :: encSized c.op32 rel
  | .jneRelv rel => 0x0F :: 0x85 :: encSized c.op32 rel
  | .jbeRelv rel => 0x0F :: 0x86 :: encSized c.op32 rel
  | .jaRelv rel => 0x0F :: 0x87 :: encSized c.op32 rel
  | .jsRelv rel => 0x0F :: 0x88 :: encSized c.op32 rel
  | .jnsRelv rel => 0x0F :: 0x89 :: encSized c.op32 rel
  | .jpRelv rel => 0x0F :: 0x8A :: encSized c.op32 rel
  | .jnpRelv rel => 0x0F :: 0x8B :: encSized c.op32 rel
  | .jlRelv rel => 0x0F :: 0x8C :: encSized c.op32 rel
  | .jgeRelv rel => 0x0F :: 0x8D :: encSized c.op32 rel
  | .jleRelv rel => 0x0F :: 0x8E :: encSized c.op32 rel
  | .jgRelv rel => 0x0F :: 0x8F :: encSized c.op32 rel
  | .setoRm8 d => 0x0F :: 0x90 :: encRm8 0 d
  | .setnoRm8 d => 0x0F :: 0x91 :: encRm8 0 d
  | .setbRm8 d => 0x0F :: 0x92 :: encRm8 0 d
  | .setaeRm8 d => 0x0F :: 0x93 :: encRm8 0 d
  | .seteRm8 d => 0x0F :: 0x94 :: encRm8 0 d
  | .setneRm8 d => 0x0F :: 0x95 :: encRm8 0 d
  | .setbeRm8 d => 0x0F :: 0x96 :: encRm8 0 d
  | .setaRm8 d => 0x0F :: 0x97 :: encRm8 0 d
  | .setsRm8 d => 0x0F :: 0x98 :: encRm8 0 d
  | .setnsRm8 d => 0x0F :: 0x99 :: encRm8 0 d
  | .setpRm8 d => 0x0F :: 0x9A :: encRm8 0 d
  | .setnpRm8 d => 0x0F :: 0x9B :: encRm8 0 d
  | .setlRm8 d => 0x0F :: 0x9C :: encRm8 0 d
  | .setgeRm8 d => 0x0F :: 0x9D :: encRm8 0 d
  | .setleRm8 d => 0x0F :: 0x9E :: encRm8 0 d
  | .setgRm8 d => 0x0F :: 0x9F :: encRm8 0 d
  | .pushFs => 0x0F :: 0xA0 :: []
  | .popFs => 0x0F :: 0xA1 :: []
  | .pushGs => 0x0F :: 0xA8 :: []
  | .popGs => 0x0F :: 0xA9 :: []
  | .btRmvRv d r => 0x0F :: 0xA3 :: encRmv r.num d
  | .btsRmvRv d r => 0x0F :: 0xAB :: encRmv r.num d
  | .btrRmvRv d r => 0x0F :: 0xB3 :: encRmv r.num d
  | .btcRmvRv d r => 0x0F :: 0xBB :: encRmv r.num d
  | .btRmvImm8 d imm => 0x0F :: 0xBA :: (encRmv 4 d ++ [imm])
  | .btsRmvImm8 d imm => 0x0F :: 0xBA :: (encRmv 5 d ++ [imm])
  | .btrRmvImm8 d imm => 0x0F :: 0xBA :: (encRmv 6 d ++ [imm])
  | .btcRmvImm8 d imm => 0x0F :: 0xBA :: (encRmv 7 d ++ [imm])
  | .shldRmvRvImm8 d r imm => 0x0F :: 0xA4 :: (encRmv r.num d ++ [imm])
  | .shldRmvRvCl d r => 0x0F :: 0xA5 :: encRmv r.num d
  | .shrdRmvRvImm8 d r imm => 0x0F :: 0xAC :: (encRmv r.num d ++ [imm])
  | .shrdRmvRvCl d r => 0x0F :: 0xAD :: encRmv r.num d
  | .imulRvRmv r m => 0x0F :: 0xAF :: encRmv r.num m
  | .lssRvM16v r m => 0x0F :: 0xB2 :: encMem r.num m
  | .lfsRvM16v r m => 0x0F :: 0xB4 :: encMem r.num m
  | .lgsRvM16v r m => 0x0F :: 0xB5 :: encMem r.num m
  | .movzxRvRm8 r m => 0x0F :: 0xB6 :: encRm8 r.num m
  | .movzxR32Rm16 r m => 0x0F :: 0xB7 :: encRmv r.num m
  | .movsxRvRm8 r m => 0x0F :: 0xBE :: encRm8 r.num m
  | .movsxR32Rm16 r m => 0x0F :: 0xBF :: encRmv r.num m
  | .bsfRvRmv r m => 0x0F :: 0xBC :: encRmv r.num m
  | .bsrRvRmv r m => 0x0F :: 0xBD :: encRmv r.num m
  | .cmpxchgRm8R8 d r => 0x0F :: 0xB0 :: encRm8 r.num d
  | .cmpxchgRmvRv d r => 0x0F :: 0xB1 :: encRmv r.num d
  | .xaddRm8R8 d r => 0x0F :: 0xC0 :: encRm8 r.num d
  | .xaddRmvRv d r => 0x0F :: 0xC1 :: encRmv r.num d
  | .bswapR32 r => 0x0F :: plusNum 0xC8 r.num :: []

/-! ## The host's entry points -/

/-- The size attributes after reset: real mode, 16 bits. -/
def resetCtx : DecodeCtx := { cpu := Config.default.cpu, op32 := false, addr32 := false }

/-- `n` bytes of a number, low byte first. -/
def natBytes : Nat → Nat → List Byte
  | 0, _ => []
  | n + 1, w => BitVec.ofNat 8 w :: natBytes n (w / 256)

/-- The instruction bytes of a table word: `nbits` bits of it, and zeros up to the longest instruction. -/
def tableBytes (nbits w : Nat) : List Byte := natBytes (nbits / 8) w ++ List.replicate (15 - nbits / 8) 0

/-- The instruction the decoder reads from the bits of a table word, in the state after reset. -/
def decodeTableWord (nbits w : Nat) : Option Instr :=
  match decode resetCtx (tableBytes nbits w) with
  | .ok i _ => some i
  | _ => none

end

end Sys2Proof
end

