-- ==== Sys2Proof/Machine/State.lean ====
section
/-! DEFINITION. The state of the machine as plain data, everything the spec gives it (INVENTORY.md, State), the reasons a
step can stop, and the state after reset (spec/10_state.md R70 to R74, spec/70_reset_and_hazards.md R810). -/
namespace Sys2Proof.Machine

/-- The eight general registers, 32 bits wide; the 8086 to 80286 use the low halves (spec/10_state.md R10 to R12). -/
structure Gpr where
  eax : Dword
  ecx : Dword
  edx : Dword
  ebx : Dword
  esp : Dword
  ebp : Dword
  esi : Dword
  edi : Dword
deriving DecidableEq, Repr

/-- The named bits of F or EFLAGS (spec/10_state.md R20): `intf` is IF, `ovf` is OF. Unnamed bits are no state
(spec/92_eei_decisions.md D4). -/
structure Flags where
  cf : Bool
  pf : Bool
  af : Bool
  zf : Bool
  sf : Bool
  tf : Bool
  intf : Bool
  df : Bool
  ovf : Bool
  iopl : BitVec 2
  nt : Bool
  rf : Bool
  vm : Bool
  ac : Bool
deriving DecidableEq, Repr

/-- The named bits of CR0, or of the MSW (spec/10_state.md R36 to R38). -/
structure Cr0 where
  pe : Bool
  mp : Bool
  em : Bool
  ts : Bool
  et : Bool
  ne : Bool
  wp : Bool
  am : Bool
  nw : Bool
  cd : Bool
  pg : Bool
deriving DecidableEq, Repr

/-- A segment register: the visible selector and the hidden part (spec/10_state.md R16 to R19). -/
structure SegReg where
  sel : Word
  /-- False when the register holds the null selector of protected mode (spec/21_protection.md R138). -/
  valid : Bool
  base : Dword
  /-- Byte-granular limit (spec/21_protection.md R131). -/
  limit : Dword
  /-- The access-rights byte (spec/21_protection.md R126, R128). -/
  access : Byte
  /-- Bit B or D of the descriptor. -/
  big : Bool
  gran : Bool
  avl : Bool
  /-- The hidden part is a real-mode or V86 one: readable, writable and executable (spec/10_state.md R19). -/
  realKind : Bool
deriving DecidableEq, Repr

/-- GDTR or IDTR (spec/10_state.md R44, R45). -/
structure TableReg where
  base : Dword
  limit : Word
deriving DecidableEq, Repr

/-- LDTR (spec/10_state.md R46); `valid` is false when it holds a null selector. -/
structure LdtReg where
  sel : Word
  valid : Bool
  base : Dword
  limit : Word
deriving DecidableEq, Repr

/-- TR (spec/10_state.md R47) with the format of the TSS it names. -/
structure TaskReg where
  sel : Word
  base : Dword
  limit : Word
  is386 : Bool
deriving DecidableEq, Repr

/-- The three pseudo-LRU bits of a set (spec/22_paging_cache.md R203, R214). -/
structure Lru where
  r0 : Bool
  r1 : Bool
  r2 : Bool
deriving DecidableEq, Repr

/-- One TLB entry (spec/22_paging_cache.md R203): the key is linear bits 31..15 with V, D, U, W. -/
structure TlbEntry where
  valid : Bool
  tag : BitVec 17
  dirty : Bool
  user : Bool
  write : Bool
  pcd : Bool
  pwt : Bool
  frame : BitVec 20
  /-- The directory and table entry as memory held them when this entry was made, none when there were none: the model's
  own, to tell an entry that the tables have been changed under (spec/93_implementation_defined.md V18). -/
  seen : Option (Dword × Dword)
deriving DecidableEq, Repr

/-- One of the eight sets of the TLB. -/
structure TlbSet where
  ways : Vector TlbEntry 4
  lru : Lru
deriving DecidableEq, Repr

/-- One line of the internal cache (spec/22_paging_cache.md R214); `data` holds byte k in bits 8k+7..8k. -/
structure CacheLine where
  valid : Bool
  tag : BitVec 21
  data : BitVec 128
deriving DecidableEq, Repr

/-- One of the 128 sets of the cache. -/
structure CacheSet where
  ways : Vector CacheLine 4
  lru : Lru
deriving DecidableEq, Repr

/-- Which repeat prefix was given (spec/30_encoding.md R244). -/
inductive Rep where
  | rep | repne
deriving DecidableEq, Repr

/-- What the decode loop of spec/30_encoding.md R283 has recorded of the instruction at `eip`: its prefixes and how many
of its bytes are fetched. The model's own record: a prefix byte is a step of its own. -/
structure Prefixes where
  seg : Option SReg
  op : Bool
  addr : Bool
  lock : Bool
  rep : Option Rep
  /-- Bytes fetched so far. -/
  len : Nat
  /-- Offset of the last prefix from the first byte (the 8086 resumes there, spec/46_string_bcd_control.md R481). -/
  last : Nat
  /-- The bytes fetched so far. -/
  code : List Byte
deriving DecidableEq, Repr

/-- No prefix recorded: an instruction boundary. -/
def Prefixes.start : Prefixes where
  seg := none
  op := false
  addr := false
  lock := false
  rep := none
  len := 0
  last := 0
  code := []

/-- A repeated string instruction between two of its iterations (spec/46_string_bcd_control.md R480). The model's own
record: an iteration is a step of its own, and the instruction runs from the bytes it was first fetched as. -/
structure RepRecord where
  /-- Where the 8086 resumes it after an interrupt (R481). -/
  restart : Dword
  /-- Its bytes, prefixes included. -/
  code : List Byte
deriving DecidableEq, Repr

/-- Run state (spec/10_state.md R65). -/
inductive RunState where
  | running | halted | shutdown
deriving DecidableEq, Repr

/-- The interrupt-inhibit shadow (spec/10_state.md R61): after a load of SS all interrupts, after STI the maskable one. -/
inductive Shadow where
  | none | ss | sti
deriving DecidableEq, Repr

/-- Debug causes recorded for the trap after the instruction (spec/61_tasks_v86_debug.md R790, R793, R799). -/
structure TrapRecord where
  singleStep : Bool
  taskSwitch : Bool
  /-- Breakpoints that matched and are enabled. -/
  enabled : BitVec 4
  /-- Breakpoints that matched and are not enabled. -/
  disabled : BitVec 4
deriving DecidableEq, Repr

/-- Nothing recorded. -/
def TrapRecord.clear : TrapRecord where
  singleStep := false
  taskSwitch := false
  enabled := 0
  disabled := 0

/-- A byte stored where the prefetch queue may still hold its old value; `ahead` is how many bytes past the instruction
pointer it lies (spec/20_memory.md R110, spec/92_eei_decisions.md D14). -/
structure StaleByte where
  addr : Nat
  old : Byte
  ahead : Nat
deriving DecidableEq, Repr

/-- The input pins a host drives (spec/60_exceptions.md R676, spec/70_reset_and_hazards.md R852). -/
structure Pins where
  /-- INTR with the vector the controller will supply. -/
  intr : Option Byte
  reset : Bool
  /-- BUSY, or TEST not asserted on the 8086: WAIT waits. -/
  busy : Bool
  error : Bool
  ignne : Bool
  flush : Bool
  /-- KEN active: cache fills allowed. -/
  ken : Bool
deriving DecidableEq, Repr

/-- The machine. -/
structure State where
  /-- The parameters; no step changes them. -/
  cfg : Config
  regs : Gpr
  /-- IP or EIP; between steps the offset of the first byte, prefixes included, of the instruction to run. -/
  eip : Dword
  cs : SegReg
  ss : SegReg
  ds : SegReg
  es : SegReg
  fs : SegReg
  gs : SegReg
  flags : Flags
  cr0 : Cr0
  cr2 : Dword
  cr3 : Dword
  gdtr : TableReg
  idtr : TableReg
  ldtr : LdtReg
  tr : TaskReg
  dr0 : Dword
  dr1 : Dword
  dr2 : Dword
  dr3 : Dword
  dr6 : Dword
  dr7 : Dword
  tr3 : Dword
  tr4 : Dword
  tr5 : Dword
  tr6 : Dword
  tr7 : Dword
  fpu : Fpu
  tlb : Vector TlbSet 8
  /-- Sets of the internal cache that are not empty, by set number. -/
  cache : List (Nat × CacheSet)
  /-- The auxiliary data register behind TR3 (spec/22_paging_cache.md R225). -/
  cacheBuf : BitVec 128
  cur : Prefixes
  /-- The repeated string instruction that is between two iterations, if one is. -/
  repeating : Option RepRecord
  run : RunState
  /-- The reset address latch (spec/10_state.md R66). -/
  resetLatch : Bool
  shadow : Shadow
  nmiPending : Bool
  nmiBlocked : Bool
  int9Pending : Bool
  trap : TrapRecord
  stale : List StaleByte
  pins : Pins
  /-- Bytes the devices will supply: the first entry of a port is its next byte. -/
  portIn : List (Nat × Byte)
  /-- Bytes written to ports, newest first. -/
  portOut : List (Nat × Byte)
  /-- Which free value comes next (the model's own). -/
  oracle : Nat
  mem : List Host.Cell
deriving DecidableEq, Repr

/-- Why the machine stops with a fault. -/
inductive Fault where
  /-- Raised on the 8086 and 8088 only, by the decoder and by the checks of forms these members lack: an undefined opcode,
  of which spec/30_encoding.md R249 says that what these processors do is not stated (93 U25: refuse). Safe: the hardware
  goes on in some way, the model does not. -/
  | undefinedOpcode
deriving DecidableEq, Repr

/-- Why the model gives no meaning. -/
inductive Refusal where
  /-- Raised by an arm of `exec` whose instruction has no meaning yet. Safe: nothing is claimed of it. -/
  | notModelled (mnemonic : String)
deriving DecidableEq, Repr

/-! ## Reset -/

/-- The hidden part of a segment register after reset with a selector and base: a 64 KB real-mode segment (spec/10_state.md
R19, R70 to R72; access byte and attribute bits DESIGN CHOICE: the spec lists none). -/
def SegReg.real (sel : Word) (base : Dword) : SegReg where
  sel := sel
  valid := true
  base := base
  limit := 0xFFFF
  access := 0x93
  big := false
  gran := false
  avl := false
  realKind := true

/-- The general registers after reset (spec/10_state.md R70 to R73, spec/70_reset_and_hazards.md R814, R815). -/
def Gpr.afterReset (c : Config) : Gpr where
  eax := if c.selftest = .failed ∧ 3 ≤ c.cpu.level then 1 else 0
  ecx := 0
  edx :=
    match c.cpu with
    | .i80386 => (3 : Byte).setWidth 32 <<< 8 ||| c.stepping.setWidth 32
    | .i80386sx => (0x23 : Byte).setWidth 32 <<< 8 ||| c.stepping.setWidth 32
    | .i80486 => (4 : Byte).setWidth 32 <<< 8 ||| c.stepping.setWidth 32
    | .i80486sx => c.stepping.setWidth 32
    | .i8086 | .i8088 | .i80286 => 0
  ebx := 0
  esp := 0
  ebp := 0
  esi := 0
  edi := 0

/-- All flags 0 (R70 to R72). -/
def Flags.afterReset : Flags where
  cf := false
  pf := false
  af := false
  zf := false
  sf := false
  tf := false
  intf := false
  df := false
  ovf := false
  iopl := 0
  nt := false
  rf := false
  vm := false
  ac := false

/-- CR0 or MSW after reset (R71 to R73): ET from the coprocessor on the 80386, fixed on the 80486, which also has
CD = NW = 1. -/
def Cr0.afterReset (c : Config) : Cr0 where
  pe := false
  mp := false
  em := false
  ts := false
  et := decide (c.cpu.level = 4) || (decide (c.cpu.level = 3) && decide (c.coprocessor = .i80387))
  ne := false
  wp := false
  am := false
  nw := decide (c.cpu.level = 4)
  cd := decide (c.cpu.level = 4)
  pg := false

/-- Base of CS after reset (spec/20_memory.md R89). -/
def resetCsBase (c : Cpu) : Dword :=
  match c.level with
  | 0 => 0xFFFF0
  | 2 => 0xFF0000
  | _ => 0xFFFF0000

/-- An empty TLB set. -/
def TlbSet.empty : TlbSet where
  ways := Vector.replicate 4
    { valid := false, tag := 0, dirty := false, user := false, write := false, pcd := false, pwt := false, frame := 0
      seen := none }
  lru := { r0 := false, r1 := false, r2 := false }

/-- An empty cache set. DESIGN CHOICE: the LRU bits, and tag and data of the invalid lines, are 0 (log 9). -/
def CacheSet.empty : CacheSet where
  ways := Vector.replicate 4 { valid := false, tag := 0, data := 0 }
  lru := { r0 := false, r1 := false, r2 := false }

/-- The floating-point unit after reset. DESIGN CHOICE but for PC = 11 and RC = 00 (spec/10_state.md R74): the state
FNINIT leaves (spec/49_486_fpu_instructions.md R652). -/
def Fpu.afterReset : Fpu where
  regs := Vector.replicate 8 0
  control := 0x037F
  status := 0
  tags := 0xFFFF

/-- The machine right after power-on or RESET, with nothing in memory, for given parameters (spec/10_state.md R70 to R74,
spec/70_reset_and_hazards.md R810). Where the spec gives no value the value is a DESIGN CHOICE, listed in INVENTORY.md. -/
def State.powerOn (c : Config) : State where
  cfg := c
  regs := Gpr.afterReset c
  eip := if c.cpu.level = 0 then 0 else 0xFFF0
  cs := SegReg.real (if c.cpu.level = 0 then 0xFFFF else 0xF000) (resetCsBase c.cpu)
  ss := SegReg.real 0 0
  ds := SegReg.real 0 0
  es := SegReg.real 0 0
  fs := SegReg.real 0 0
  gs := SegReg.real 0 0
  flags := Flags.afterReset
  cr0 := Cr0.afterReset c
  cr2 := 0
  cr3 := 0
  gdtr := { base := 0, limit := 0 }
  idtr := { base := 0, limit := if c.cpu.level = 2 then 0xFFFF else 0x3FF }
  ldtr := { sel := 0, valid := false, base := 0, limit := 0 }
  tr := { sel := 0, base := 0, limit := 0xFFFF, is386 := decide (3 ≤ c.cpu.level) }
  dr0 := 0
  dr1 := 0
  dr2 := 0
  dr3 := 0
  dr6 := 0
  dr7 := 0
  tr3 := 0
  tr4 := 0
  tr5 := 0
  tr6 := 0
  tr7 := 0
  fpu := Fpu.afterReset
  tlb := Vector.replicate 8 TlbSet.empty
  cache := []
  cacheBuf := 0
  cur := .start
  repeating := none
  run := .running
  resetLatch := decide (2 ≤ c.cpu.level)
  shadow := .none
  nmiPending := false
  nmiBlocked := false
  int9Pending := false
  trap := .clear
  stale := []
  pins := { intr := none, reset := false, busy := false, error := false, ignne := false, flush := false, ken := true }
  portIn := []
  portOut := []
  oracle := 0
  mem := []

/-- The machine right after reset: an 80486 (DESIGN CHOICE: `Config.default`). -/
def State.reset : State := State.powerOn Config.default

end Sys2Proof.Machine
end

