-- ==== Sys2Proof/Machine/Base.lean ====
section
/-! DEFINITION. What every operation rests on: the computation type with its exceptions, register access, the modes and
sizes, free values. -/
namespace Sys2Proof.Machine

/-! ## Exceptions and the computation type -/

/-- Classes of processor interrupts (spec/60_exceptions.md R690). -/
inductive ExnClass where
  | fault | trap | abort
deriving DecidableEq, Repr

/-- A processor-detected interrupt: its vector, error word, class, the address for CR2 (page fault), the causes for DR6
(debug), when it is raised in the context of a task just switched to, the state of that task, and how far the free
values were used when it was raised. -/
structure Exn where
  vec : Byte
  err : Option Word
  cls : ExnClass
  cr2 : Option Dword
  dr6 : Dword
  newTask : Option State
  oracle : Nat
deriving DecidableEq, Repr

/-- How an operation ends early. -/
inductive Abort where
  /-- A processor-detected interrupt (spec/60_exceptions.md R680). -/
  | exn (e : Exn)
  /-- The processor shuts down (R711). -/
  | shutdown
  /-- The model stops. -/
  | stop (f : Fault)
deriving DecidableEq, Repr

/-- A computation on the state that may end early. -/
abbrev M (α : Type) := StateT State (Except Abort) α

/-- Ends early with an interrupt. -/
def raise {α : Type} (e : Exn) : M α := fun s => .error (.exn { e with oracle := s.oracle })

/-- A fault with an optional error word. -/
def Exn.fault (vec : Byte) (err : Option Word) : Exn where
  vec := vec
  err := err
  cls := .fault
  cr2 := none
  dr6 := 0
  newTask := none
  oracle := 0

/-- General protection, error word 0 (spec/60_exceptions.md R735). -/
def gp0 {α : Type} : M α := raise (.fault 13 (some 0))

/-- General protection naming a selector (R723: the two low bits hold EX and I). -/
def gpSel {α : Type} (sel : Word) : M α := raise (.fault 13 (some (sel &&& 0xFFFC)))

/-- A fault naming a selector. -/
def faultSel {α : Type} (vec : Byte) (sel : Word) : M α := raise (.fault vec (some (sel &&& 0xFFFC)))

/-- Invalid opcode (R708); the 8086 and 8088 have no such interrupt and the model stops (spec/30_encoding.md R249). -/
def undefinedOpcode {α : Type} : M α := fun s =>
  if s.cfg.cpu.level = 0 then .error (.stop .undefinedOpcode) else raise (.fault 6 none) s

/-- Raises an interrupt unless a condition holds. -/
def check (ok : Bool) (e : M Unit) : M Unit := if ok then pure () else e

/-! ## Modes (spec/10_state.md R33, R36, R64) -/

/-- The generation of the processor. -/
def State.level (s : State) : Nat := s.cfg.cpu.level

/-- Real mode. -/
def State.real (s : State) : Bool := !s.cr0.pe

/-- Virtual-8086 mode (spec/61_tasks_v86_debug.md R770). -/
def State.v86 (s : State) : Bool := s.cr0.pe && s.flags.vm

/-- Protected mode, not V86. -/
def State.prot (s : State) : Bool := s.cr0.pe && !s.flags.vm

/-- Current privilege level (spec/10_state.md R64). -/
def State.cpl (s : State) : Nat :=
  if s.cr0.pe then if s.flags.vm then 3 else (s.cs.sel &&& 3).toNat else 0

/-- The default operand and address size is 32: bit D of CS, in protected mode only (spec/30_encoding.md R246). -/
def State.default32 (s : State) : Bool := decide (3 ≤ s.level) && s.prot && s.cs.big

/-- Operand size 32 for the current instruction (R246). -/
def State.op32 (s : State) : Bool := decide (3 ≤ s.level) && (s.default32 != s.cur.op)

/-- Address size 32 for the current instruction (R246). -/
def State.addr32 (s : State) : Bool := decide (3 ≤ s.level) && (s.default32 != s.cur.addr)

/-- StackSize is 32 and the stack pointer ESP: bit B of SS, in protected mode only (spec/44_stack_flags_interrupt.md R400,
spec/21_protection.md R132). -/
def State.stack32 (s : State) : Bool := decide (3 ≤ s.level) && s.prot && s.ss.big

/-- What the decoder needs to know of the state. -/
def State.decodeCtx (s : State) : DecodeCtx := { cpu := s.cfg.cpu, op32 := s.op32, addr32 := s.addr32 }

/-- The width of the current operand size. -/
def State.opWidth (s : State) : Nat := if s.op32 then 32 else 16

/-! ## General registers (spec/10_state.md R10 to R12) -/

def Gpr.get (g : Gpr) : Reg → Dword
  | .eax => g.eax | .ecx => g.ecx | .edx => g.edx | .ebx => g.ebx
  | .esp => g.esp | .ebp => g.ebp | .esi => g.esi | .edi => g.edi

def Gpr.set (g : Gpr) (r : Reg) (v : Dword) : Gpr :=
  match r with
  | .eax => { g with eax := v }
  | .ecx => { g with ecx := v }
  | .edx => { g with edx := v }
  | .ebx => { g with ebx := v }
  | .esp => { g with esp := v }
  | .ebp => { g with ebp := v }
  | .esi => { g with esi := v }
  | .edi => { g with edi := v }

/-- The low `w` bits replaced, the others kept (R12). -/
def mergeLow {w : Nat} (old : Dword) (v : BitVec w) : Dword := (old >>> w) <<< w ||| v.setWidth 32

/-- The low `w` bits of a general register. -/
def State.reg (s : State) (w : Nat) (r : Reg) : BitVec w := (s.regs.get r).setWidth w

/-- A write to the low `w` bits of a general register. -/
def State.setReg {w : Nat} (s : State) (r : Reg) (v : BitVec w) : State :=
  { s with regs := s.regs.set r (mergeLow (s.regs.get r) v) }

/-- The register a byte register is part of, and whether it is the high byte (R11). -/
def reg8Home : Reg8 → Reg × Bool
  | .al => (.eax, false) | .cl => (.ecx, false) | .dl => (.edx, false) | .bl => (.ebx, false)
  | .ah => (.eax, true) | .ch => (.ecx, true) | .dh => (.edx, true) | .bh => (.ebx, true)

/-- A byte register (R11). -/
def State.reg8 (s : State) (r : Reg8) : Byte :=
  let v := s.regs.get (reg8Home r).1
  if (reg8Home r).2 then v.extractLsb' 8 8 else v.extractLsb' 0 8

/-- A write to a byte register leaves the other bits (R11). -/
def State.setReg8 (s : State) (r : Reg8) (v : Byte) : State :=
  let old := s.regs.get (reg8Home r).1
  let new := if (reg8Home r).2 then (old &&& 0xFFFF00FF) ||| (v.setWidth 32 <<< 8) else mergeLow old v
  { s with regs := s.regs.set (reg8Home r).1 new }

/-- Reads the low `w` bits of a register. -/
def getReg (w : Nat) (r : Reg) : M (BitVec w) := do return (← get).reg w r

/-- Writes the low `w` bits of a register. -/
def putReg {w : Nat} (r : Reg) (v : BitVec w) : M Unit := modify fun s => s.setReg r v

def getReg8 (r : Reg8) : M Byte := do return (← get).reg8 r

def putReg8 (r : Reg8) (v : Byte) : M Unit := modify fun s => s.setReg8 r v

/-! ## Segment registers -/

def State.seg (s : State) : SReg → SegReg
  | .es => s.es | .cs => s.cs | .ss => s.ss | .ds => s.ds | .fs => s.fs | .gs => s.gs

def State.setSeg (s : State) (r : SReg) (v : SegReg) : State :=
  match r with
  | .es => { s with es := v }
  | .cs => { s with cs := v }
  | .ss => { s with ss := v }
  | .ds => { s with ds := v }
  | .fs => { s with fs := v }
  | .gs => { s with gs := v }

/-! ## Free values (spec/93_implementation_defined.md, `any value`) -/

/-- Fresh bits the spec leaves open. -/
def freeBits (w : Nat) : M (BitVec w) := fun s =>
  .ok ((Config.free s.oracle).setWidth w, { s with oracle := s.oracle + 1 })

/-- A fresh bit. -/
def freeBool : M Bool := do return (← freeBits 1) == 1

/-- A fresh choice among `n` (none when `n` is 0). -/
def freeBelow (n : Nat) : M Nat := do return (← freeBits 64).toNat % n

/-! ## Little-endian data (spec/20_memory.md R81) -/

/-- The number the bytes stand for, the first byte lowest. -/
def leNat : List Byte → Nat
  | [] => 0
  | b :: rest => b.toNat + 256 * leNat rest

/-- The value of `w` bits in bytes, the first byte lowest. -/
def leValue (w : Nat) (bs : List Byte) : BitVec w := BitVec.ofNat w (leNat bs)

/-- The bytes of a value. -/
def valueBytes {w : Nat} (v : BitVec w) : List Byte := natBytes (w / 8) v.toNat

end Sys2Proof.Machine
end

