-- ==== Sys2Proof/Machine/Mem.lean ====
section
/-! DEFINITION. Physical memory, the internal cache in front of it, and the I/O ports (spec/20_memory.md R80, R95 to R99,
R110; spec/22_paging_cache.md section 3). -/
namespace Sys2Proof.Machine

/-! ## Memory as sorted cells -/

/-- Physical memory: cells at strictly rising addresses, none holding what an unlisted address reads as. -/
abbrev Memory := List Host.Cell

/-- What a byte nothing has written reads as. DESIGN CHOICE: the spec gives memory no contents after power-on. -/
def Memory.blank : Byte := 0

/-- One byte of memory. -/
def Memory.read : Memory → Nat → Byte
  | [], _ => Memory.blank
  | (k, v) :: rest, a => if k = a then v else Memory.read rest a

/-- Stores one byte, keeping the canonical form. -/
def Memory.write : Memory → Nat → Byte → Memory
  | [], a, v => if v = Memory.blank then [] else [(a, v)]
  | (k, w) :: rest, a, v =>
    if a < k then (if v = Memory.blank then (k, w) :: rest else (a, v) :: (k, w) :: rest)
    else if a = k then (if v = Memory.blank then rest else (a, v) :: rest)
    else (k, w) :: Memory.write rest a v

/-- The addresses rise strictly and lie above a bound, and no cell holds the blank value. -/
def Memory.wfFrom : Option Nat → Memory → Bool
  | _, [] => true
  | lo, (k, v) :: rest =>
    (match lo with | none => true | some b => decide (b < k)) && !(v == Memory.blank) && Memory.wfFrom (some k) rest

/-- The canonical form. -/
def Memory.wf (m : Memory) : Bool := Memory.wfFrom none m

/-! ## The physical bus -/

/-- The address lines an access drives: those the processor has, on the 80286 in real mode only 20 once CS has changed after
reset (spec/20_memory.md R80, R83; spec/92_eei_decisions.md D7: "the four upper lines are zero for every real-mode access").
DEDUCED: so for its own reads of the vector table too (log 95). -/
def State.addressLines (s : State) : Nat :=
  if s.level = 2 ∧ s.real = true ∧ s.resetLatch = false then 20 else s.cfg.cpu.addressBits

/-- The physical address of a linear one with paging off: the address lines driven, bit 20 forced to 0 when A20M is active
(R80, R88, D9). -/
def State.physical (s : State) (a : Nat) : Nat :=
  let p := a % 2 ^ s.addressLines
  if s.cfg.a20m && decide (s.level = 4) && decide (p / 0x100000 % 2 = 1) then p - 0x100000 else p

/-- Reads a byte from memory proper: an absent address reads as free bits (R99, D12). -/
def readMemory (a : Nat) : M Byte := do
  let s ← get
  match s.cfg.regionKind a with
  | .absent => freeBits 8
  | .ram | .rom => return Memory.read s.mem a

/-- How many bytes past the instruction pointer a physical address can lie, judged by the position inside a page, which
linear and physical addresses share. -/
def State.bytesAhead (s : State) (a : Nat) : Nat :=
  (a % 4096 + 4096 - (s.cs.base.toNat + s.eip.toNat) % 4096) % 4096

/-- Remembers the old value of a byte that the prefetch queue may hold: one of the bytes, as many as the queue has, that
follow the instruction pointer (R110, D14). -/
def State.noteStore (s : State) (a : Nat) (new : Byte) : State :=
  let old := Memory.read s.mem a
  if s.bytesAhead a < s.cfg.cpu.queueBytes ∧ old ≠ new then
    { s with stale := s.stale ++ [{ addr := a, old := old, ahead := s.bytesAhead a }] }
  else s

/-- Writes a byte to memory proper: discarded in ROM and where nothing is (R99, D12). -/
def writeMemory (a : Nat) (v : Byte) : M Unit := modify fun s =>
  match s.cfg.regionKind a with
  | .ram => let s := s.noteStore a v; { s with mem := Memory.write s.mem a v }
  | .rom | .absent => s

/-! ## Pseudo-LRU (spec/22_paging_cache.md R219, R220), shared by the cache and the TLB -/

/-- The set's bits after a way was used (R219). -/
def Lru.touch (l : Lru) (way : Fin 4) : Lru :=
  match way.val with
  | 0 => { l with r0 := true, r1 := true }
  | 1 => { l with r0 := true, r1 := false }
  | 2 => { l with r0 := false, r2 := true }
  | _ => { l with r0 := false, r2 := false }

/-- The way to evict when all are valid (R220). -/
def Lru.victim (l : Lru) : Fin 4 :=
  if !l.r0 then (if !l.r1 then 0 else 1) else (if !l.r2 then 2 else 3)

/-- The bits r2 r1 r0 as a number, r2 highest. -/
def Lru.bits (l : Lru) : BitVec 3 := BitVec.ofBool l.r2 ++ BitVec.ofBool l.r1 ++ BitVec.ofBool l.r0

/-- The lowest of the four ways a test picks. That the lowest is taken where several have V = 0 is a DESIGN CHOICE: R218
and R220 do not say which of them is filled (log 25). -/
def findWay (p : Fin 4 → Bool) : Option (Fin 4) :=
  if p 0 then some 0 else if p 1 then some 1 else if p 2 then some 2 else if p 3 then some 3 else none

/-! ## The internal cache (R214 to R221) -/

/-- The cache takes part: an 80486 with CACHE_MODEL = full (spec/92_eei_decisions.md D17). -/
def State.cacheOn (s : State) : Bool := decide (s.level = 4) && decide (s.cfg.cacheModel = .full)

/-- A set of the cache. -/
def cacheGet : List (Nat × CacheSet) → Nat → CacheSet
  | [], _ => CacheSet.empty
  | (k, v) :: rest, a => if k = a then v else cacheGet rest a

/-- Replaces a set, keeping the numbers rising. -/
def cachePut : List (Nat × CacheSet) → Nat → CacheSet → List (Nat × CacheSet)
  | [], a, v => [(a, v)]
  | (k, w) :: rest, a, v =>
    if a < k then (a, v) :: (k, w) :: rest
    else if a = k then (a, v) :: rest
    else (k, w) :: cachePut rest a v

/-- Set number and tag of a physical address (R214). -/
def cacheSetOf (a : Nat) : Nat := a / 16 % 128
def cacheTagOf (a : Nat) : BitVec 21 := BitVec.ofNat 21 (a / 2048)

/-- The way of a set that holds an address (R215). DESIGN CHOICE: of several valid ways with its tag, which only test writes
can make, the lowest (log 101). -/
def CacheSet.find (c : CacheSet) (a : Nat) : Option (Fin 4) :=
  findWay fun w => c.ways[w].valid && (c.ways[w].tag == cacheTagOf a)

/-- A byte of a line. -/
def CacheLine.byte (l : CacheLine) (a : Nat) : Byte := (l.data >>> (8 * (a % 16))).setWidth 8

/-- A byte of a line replaced. -/
def CacheLine.setByte (l : CacheLine) (a : Nat) (v : Byte) : CacheLine :=
  let sh := 8 * (a % 16)
  { l with data := (l.data &&& ~~~((0xFF : BitVec 128) <<< sh)) ||| (v.setWidth 128 <<< sh) }

/-- Reads the bytes of memory from an address on. -/
def readBlock : Nat → Nat → M (List Byte)
  | 0, _ => pure []
  | n + 1, a => do
    let b ← readMemory a
    let rest ← readBlock n (a + 1)
    return b :: rest

/-- Puts a line into a set: into a way with V = 0 if there is one, else the pseudo-LRU one (R218). -/
def CacheSet.fill (c : CacheSet) (l : CacheLine) : CacheSet :=
  let way := (findWay fun w => !c.ways[w].valid).getD c.lru.victim
  { ways := c.ways.set way l, lru := c.lru.touch way }

/-- Reads a byte at a physical address through the cache (R215 to R217); `pcd` is the page's cache-disable bit. -/
def readPhys (pcd : Bool) (a : Nat) : M Byte := do
  let s ← get
  if !s.cacheOn then readMemory a
  else
    let n := cacheSetOf a
    let c := cacheGet s.cache n
    match c.find a with
    | some way =>
      set { s with cache := cachePut s.cache n { c with lru := c.lru.touch way } }
      return c.ways[way].byte a
    | none =>
      if !s.cr0.cd && s.pins.ken && !pcd then
        let bytes ← readBlock 16 (a / 16 * 16)
        let line : CacheLine := { valid := true, tag := cacheTagOf a, data := leValue 128 bytes }
        modify fun s => { s with cache := cachePut s.cache n (c.fill line) }
        return line.byte a
      else readMemory a

/-- Writes a byte at a physical address: always to memory, and to the cache line that holds it unless CD = NW = 1
(R215, R216). DESIGN CHOICE: a write that memory discards (ROM, R99) still changes a cached line of that address, which
later reads then see (log 23); a write that hits with CD = NW = 1 leaves the entry, and is then no use of it for the LRU
bits of R219 either (log 101). -/
def writePhys (a : Nat) (v : Byte) : M Unit := do
  writeMemory a v
  modify fun s =>
    if s.cacheOn && !(s.cr0.cd && s.cr0.nw) then
      let n := cacheSetOf a
      let c := cacheGet s.cache n
      match c.find a with
      | some way =>
        let c' : CacheSet := { ways := c.ways.set way (c.ways[way].setByte a v), lru := c.lru.touch way }
        { s with cache := cachePut s.cache n c' }
      | none => s
    else s

/-- Empties the cache (R221): V bits cleared. -/
def State.flushCache (s : State) : State :=
  let off (l : CacheLine) : CacheLine := { l with valid := false }
  let empty (c : CacheSet) : CacheSet := { c with ways := c.ways.map off }
  { s with cache := s.cache.map fun p => (p.1, empty p.2) }

/-- A physical address an access has been translated to, with the page's cache-disable bit. -/
structure Place where
  addr : Nat
  pcd : Bool
deriving DecidableEq, Repr

/-- Reads the bytes at places, in order. -/
def readPlaces : List Place → M (List Byte)
  | [] => pure []
  | p :: rest => do
    let b ← readPhys p.pcd p.addr
    let bs ← readPlaces rest
    return b :: bs

/-- Writes bytes at places, in order. -/
def writePlaces : List Place → List Byte → M Unit
  | p :: rest, b :: bs => do
    writePhys p.addr b
    writePlaces rest bs
  | _, _ => pure ()

/-! ## Ports (spec/20_memory.md R95, spec/92_eei_decisions.md D11) -/

/-- Takes the next byte a port will supply. -/
def takePort : List (Nat × Byte) → Nat → Option (Byte × List (Nat × Byte))
  | [], _ => none
  | (q, v) :: rest, p =>
    if q = p then some (v, rest)
    else match takePort rest p with
      | some (w, rest) => some (w, (q, v) :: rest)
      | none => none

/-- Reads one 8-bit port: what the host supplies, else an open value of the device. -/
def portIn8 (p : Nat) : M Byte := do
  let s ← get
  match takePort s.portIn p with
  | some (v, rest) =>
    set { s with portIn := rest }
    return v
  | none =>
    set { s with oracle := s.oracle + 1 }
    return Config.portRead s.oracle p

/-- Writes one 8-bit port. -/
def portOut8 (p : Nat) (v : Byte) : M Unit := modify fun s => { s with portOut := (p, v) :: s.portOut }

/-- `IoRead(port, n)`: adjacent ports, the lowest first. -/
def ioRead : Nat → Nat → M (List Byte)
  | 0, _ => pure []
  | n + 1, p => do
    let b ← portIn8 p
    let bs ← ioRead n (p + 1)
    return b :: bs

/-- `IoWrite(port, n, v)`. -/
def ioWrite : List Byte → Nat → M Unit
  | [], _ => pure ()
  | b :: rest, p => do
    portOut8 p b
    ioWrite rest (p + 1)

end Sys2Proof.Machine
end

