-- ==== Sys2Proof/Machine/Paging.lean ====
section
/-! DEFINITION. Linear to physical: the page walk, page protection and the TLB (spec/22_paging_cache.md sections 1 and
2). -/
namespace Sys2Proof.Machine

/-- A page-directory or page-table entry (spec/22_paging_cache.md R194). -/
abbrev PageEntry := Dword

def pePresent (e : PageEntry) : Bool := e.getLsbD 0
def peWrite (e : PageEntry) : Bool := e.getLsbD 1
def peUser (e : PageEntry) : Bool := e.getLsbD 2
def pePwt (e : PageEntry) : Bool := e.getLsbD 3
def pePcd (e : PageEntry) : Bool := e.getLsbD 4
def peAccessed (e : PageEntry) : Bool := e.getLsbD 5
def peDirty (e : PageEntry) : Bool := e.getLsbD 6
/-- The frame address, a multiple of 4096. -/
def peFrame (e : PageEntry) : Nat := e.toNat / 4096 * 4096

/-- The 2-bit number UW of an entry (R195). -/
def peUW (e : PageEntry) : Nat := (peUser e).toNat * 2 + (peWrite e).toNat

/-- The numerically lower of the two protections (R195), as U and W. -/
def combineUW (pde pte : PageEntry) : Bool × Bool :=
  let m := min (peUW pde) (peUW pte)
  (decide (2 ≤ m), decide (m % 2 = 1))

/-- Whether an access is allowed by U, W and WP (R195, R197). -/
def pageAllows (wp user write : Bool) (uw : Bool × Bool) : Bool :=
  if user then uw.1 && (!write || uw.2) else !write || !wp || uw.2

/-- CR0.WP takes part on the 80486 (R197). -/
def State.wpOn (s : State) : Bool := decide (s.level = 4) && s.cr0.wp

/-- PCD and PWT exist on the 80486 (R199). -/
def State.pcdOf (s : State) (e : Dword) : Bool := decide (s.level = 4) && pePcd e

/-- The page fault of an access (R200, spec/60_exceptions.md R737): `lin` goes to CR2. -/
def pageFault {α : Type} (lin : Nat) (present write user : Bool) : M α :=
  raise { Exn.fault 14 (some (BitVec.ofNat 16 (present.toNat + 2 * write.toNat + 4 * user.toNat))) with
    cr2 := some (BitVec.ofNat 32 lin) }

/-- Physical addresses of the directory and table entries of a page (R192). -/
def pdeAddr (cr3 : Dword) (lin : Nat) : Nat := cr3.toNat / 4096 * 4096 + lin / 0x400000 % 1024 * 4
def pteAddr (pde : PageEntry) (lin : Nat) : Nat := peFrame pde + lin / 4096 % 1024 * 4

/-- Reads a doubleword at a physical address. -/
def readEntry (pcd : Bool) (a : Nat) : M PageEntry := do
  let s ← get
  let bs ← readPlaces ((List.range 4).map fun i => { addr := s.physical (a + i), pcd := pcd })
  return leValue 32 bs

/-- Stores the byte of an entry that holds A and D, if they are not yet as wanted (R198). -/
def markEntry (a : Nat) (e : PageEntry) (dirty : Bool) : M Unit := do
  if !peAccessed e || (dirty && !peDirty e) then
    let s ← get
    writePhys (s.physical a) (e.setWidth 8 ||| (if dirty then 0x60 else 0x20))

/-! ## The TLB -/

/-- Set and tag of a linear address (R203). -/
def tlbSetOf (lin : Nat) : Fin 8 := ⟨lin / 4096 % 8, Nat.mod_lt _ (by decide)⟩
def tlbTagOf (lin : Nat) : BitVec 17 := BitVec.ofNat 17 (lin / 32768)

/-- A valid entry of a page (the linear part of the key of R203). -/
def TlbEntry.holds (e : TlbEntry) (lin : Nat) : Bool := e.valid && (e.tag == tlbTagOf lin)

/-- An entry that answers an access (R204): V, the linear address and the attributes D, U, W take part in the match. -/
def TlbEntry.hits (e : TlbEntry) (wp : Bool) (lin : Nat) (write user : Bool) : Bool :=
  e.holds lin && pageAllows wp user write (e.user, e.write) && (!write || e.dirty)

/-- The way that answers an access. DESIGN CHOICE: the lowest, where several match (log 24). -/
def TlbSet.find (t : TlbSet) (wp : Bool) (lin : Nat) (write user : Bool) : Option (Fin 4) :=
  findWay fun w => t.ways[w].hits wp lin write user

/-- Replaces one set. -/
def State.setTlb (s : State) (i : Fin 8) (t : TlbSet) : State := { s with tlb := s.tlb.set i t }

/-- All entries invalid (R206). -/
def State.flushTlb (s : State) : State :=
  let off (e : TlbEntry) : TlbEntry := { e with valid := false }
  let empty (t : TlbSet) : TlbSet := { t with ways := t.ways.map off }
  { s with tlb := s.tlb.map empty }

/-- The entry of one page made invalid (R207): in every way that holds the page (DESIGN CHOICE, log 78). -/
def State.flushPage (s : State) (lin : Nat) : State :=
  let i := tlbSetOf lin
  let t := s.tlb[i]
  s.setTlb i { t with ways := t.ways.map fun e => { e with valid := e.valid && !e.holds lin } }

/-- Loads CR3, which empties the TLB (R206); bits the processor does not have are not kept (spec/10_state.md R41). -/
def State.loadCr3 (s : State) (v : Dword) : State :=
  { s with cr3 := v &&& (if s.level = 4 then 0xFFFFF018 else 0xFFFFF000) }.flushTlb

/-- The way a new entry goes to (R204, R205): one with V = 0, else the victim, which the spec leaves open on the 80386
(93 V19). -/
def chooseWay (t : TlbSet) : M (Fin 4) := do
  match findWay fun w => !t.ways[w].valid with
  | some w => return w
  | none =>
    let s ← get
    if s.level = 4 then return t.lru.victim
    else
      let k ← freeBelow 4
      return ⟨k % 4, Nat.mod_lt _ (by decide)⟩

/-- Writes an entry into the TLB. -/
def tlbInsert (lin : Nat) (e : TlbEntry) : M Unit := do
  let s ← get
  let i := tlbSetOf lin
  let w ← chooseWay s.tlb[i]
  modify fun s =>
    let t := s.tlb[i]
    s.setTlb i { ways := t.ways.set w e, lru := t.lru.touch w }

/-- An entry as memory holds it now, without any effect; none where nothing is mapped in the address map. -/
def State.peekEntry (s : State) (a : Nat) : Option PageEntry :=
  let as := (List.range 4).map fun i => s.physical (a + i)
  let byte (a : Nat) : Byte :=
    match s.cacheOn, (cacheGet s.cache (cacheSetOf a)).find a with
    | true, some w => (cacheGet s.cache (cacheSetOf a)).ways[w].byte a
    | _, _ => Memory.read s.mem a
  if as.any fun a => decide (s.cfg.regionKind a = .absent) then none
  else some (leValue 32 (as.map byte))

/-- The directory and table entry of a page as memory holds them now. -/
def State.peekTables (s : State) (lin : Nat) : Option (PageEntry × PageEntry) :=
  (s.peekEntry (pdeAddr s.cr3 lin)).bind fun pde =>
    if pePresent pde then (s.peekEntry (pteAddr pde lin)).map fun pte => (pde, pte) else some (pde, 0)

/-- A table entry says what it said: the bits the processor of a generation uses, but for A and D going from 0 to 1, which
the processor itself does (R198). -/
def sameEntry (level : Nat) (old new : PageEntry) : Bool :=
  let used : Dword := (if level = 4 then 0xFFFFF07F else 0xFFFFF067) &&& (old ||| 0xFFFFFF9F)
  old &&& used == new &&& used

/-- The walk of R192 with its effects: A and D set, the TLB filled. -/
def walk (lin : Nat) (write user : Bool) : M Place := do
  let s ← get
  let da := pdeAddr s.cr3 lin
  let pde ← readEntry (s.pcdOf s.cr3) da
  check (pePresent pde) (pageFault lin false write user)
  let ta := pteAddr pde lin
  let pte ← readEntry (s.pcdOf pde) ta
  check (pePresent pte) (pageFault lin false write user)
  let uw := combineUW pde pte
  check (pageAllows s.wpOn user write uw) (pageFault lin true write user)
  markEntry da pde false
  markEntry ta pte write
  let seen := (← get).peekTables lin
  tlbInsert lin
    { valid := true, tag := tlbTagOf lin, dirty := peDirty pte || write, user := uw.1, write := uw.2
      pcd := s.pcdOf pte, pwt := decide (s.level = 4) && pePwt pte, frame := BitVec.ofNat 20 (pte.toNat / 4096), seen := seen }
  return { addr := peFrame pte + lin % 4096, pcd := s.pcdOf pte }

/-- The tables of a page hold what they held when a TLB entry was made, by a walk or a test write. When they do not, they
were changed without a flush (R206). -/
def State.entryFresh (s : State) (lin : Nat) (e : TlbEntry) : Bool :=
  match e.seen, s.peekTables lin with
  | none, none => true
  | some (pde, pte), some (pde', pte') => sameEntry s.level pde pde' && sameEntry s.level pte pte'
  | _, _ => false

/-- Translates one address with paging on (R192, R204): a TLB entry that matches and allows the access is used; a stale one
may be used or not (93 V18); otherwise the tables are walked. -/
def translatePage (lin : Nat) (write user : Bool) : M Place := do
  let s ← get
  let i := tlbSetOf lin
  let t := s.tlb[i]
  match t.find s.wpOn lin write user with
  | none => walk lin write user
  | some w =>
    let e := t.ways[w]
    let useEntry ← if s.entryFresh lin e then pure true else freeBool
    if useEntry then
      modify fun s => s.setTlb i { t with lru := t.lru.touch w }
      return { addr := e.frame.toNat * 4096 + lin % 4096, pcd := e.pcd }
    else walk lin write user

/-- The places of `n` consecutive linear addresses, each page translated by itself (R201, spec/20_memory.md R90): with
paging off the linear addresses themselves. -/
def translate (lin n : Nat) (write user : Bool) : M (List Place) := do
  let s ← get
  if !s.cr0.pg then
    return (List.range n).map fun i => { addr := s.physical ((lin + i) % 2 ^ 32), pcd := s.pcdOf s.cr3 }
  else
    let first ← translatePage lin write user
    let room := 4096 - lin % 4096
    if n ≤ room then
      return (List.range n).map fun i => { addr := s.physical (first.addr + i), pcd := first.pcd }
    else
      let second ← translatePage ((lin + room) % 2 ^ 32) write user
      return (List.range n).map fun i =>
        if i < room then { addr := s.physical (first.addr + i), pcd := first.pcd }
        else { addr := s.physical (second.addr + (i - room)), pcd := second.pcd }

/-! ## The processor's own accesses (spec/22_paging_cache.md R196, spec/92_eei_decisions.md D16) -/

/-- Width of a linear address: 24 bits on the 80286, whose segmentation unit gives a physical address (R134). -/
def State.linearMod (s : State) : Nat := if s.level ≤ 2 then 2 ^ 24 else 2 ^ 32

/-- Reads a system table at a linear address, at supervisor level. -/
def sysRead (lin n : Nat) : M (List Byte) := do
  let s ← get
  let ps ← translate (lin % s.linearMod) n false false
  readPlaces ps

/-- Writes a system table at a linear address, at supervisor level. -/
def sysWrite (lin : Nat) (bs : List Byte) : M Unit := do
  let s ← get
  let ps ← translate (lin % s.linearMod) bs.length true false
  writePlaces ps bs

/-- Reads a word of a system table. -/
def sysRead16 (lin : Nat) : M Word := do return leValue 16 (← sysRead lin 2)

/-- Reads a doubleword of a system table. -/
def sysRead32 (lin : Nat) : M Dword := do return leValue 32 (← sysRead lin 4)

end Sys2Proof.Machine
end

