-- ==== Sys2Proof/Machine/Access.lean ====
section
/-! DEFINITION. Memory access through a segment register (spec/20_memory.md R90: segment checks, alignment, debug match,
paging, bytes) and the stack (spec/44_stack_flags_interrupt.md R400, R401). -/
namespace Sys2Proof.Machine

/-! ## Rights and limits of the hidden part (spec/21_protection.md R126 to R128, R135) -/

/-- A code segment: S = 1 and bit 3 = 1 (R128). -/
def accIsCode (a : Byte) : Bool := a.getLsbD 4 && a.getLsbD 3
/-- A data segment: S = 1 and bit 3 = 0 (R126). -/
def accIsData (a : Byte) : Bool := a.getLsbD 4 && !a.getLsbD 3
/-- Bit W of a data segment, R of a code segment. -/
def accBit1 (a : Byte) : Bool := a.getLsbD 1
/-- Bit ED of a data segment, C of a code segment. -/
def accBit2 (a : Byte) : Bool := a.getLsbD 2
def accPresent (a : Byte) : Bool := a.getLsbD 7
def accDpl (a : Byte) : Nat := (a.extractLsb' 5 2).toNat
/-- Type of a system descriptor (R137). -/
def accType (a : Byte) : Nat := (a.extractLsb' 0 4).toNat
def accIsSystem (a : Byte) : Bool := !a.getLsbD 4

/-- What an access does. -/
inductive AccessKind where
  | read | write
  /-- Read and then written at the same place: both permissions are checked first (R135). -/
  | update
deriving DecidableEq, Repr

def AccessKind.writes : AccessKind → Bool
  | .read => false
  | .write | .update => true

def AccessKind.reads : AccessKind → Bool
  | .write => false
  | .read | .update => true

/-- The cached rights allow the access (R135 step 2); a real-mode segment allows everything. -/
def SegReg.allows (g : SegReg) (k : AccessKind) : Bool :=
  g.realKind ||
    ((!k.writes || (accIsData g.access && accBit1 g.access)) &&
      (!k.reads || accIsData g.access || (accIsCode g.access && accBit1 g.access)))

/-- An instruction fetch needs a code segment (R135 step 2). -/
def SegReg.executable (g : SegReg) : Bool := g.realKind || accIsCode g.access

/-- Expand-down data segment (R127). -/
def SegReg.expandDown (g : SegReg) : Bool := !g.realKind && accIsData g.access && accBit2 g.access

/-- The bytes at offsets `off` to `off + n - 1` all lie within the limit (R127). -/
def SegReg.inLimit (g : SegReg) (off n : Nat) : Bool :=
  if g.expandDown then
    decide (g.limit.toNat < off) && decide (off + n ≤ if g.big then 2 ^ 32 else 2 ^ 16)
  else decide (off + n ≤ g.limit.toNat + 1)

/-- The interrupt of a limit violation: INT 12 through SS, else INT 13; the 80286 in real mode has only INT 13
(spec/20_memory.md R86 b, spec/60_exceptions.md R712; spec/40_mov.md R308 reads R712 otherwise: log 51). -/
def limitFault {α : Type} (r : SReg) : M α := fun s =>
  if r = .ss ∧ ¬(s.level = 2 ∧ s.real = true) then raise (.fault 12 (some 0)) s else raise (.fault 13 (some 0)) s

/-- The segment-level check of R135 (none on the 8086 and 8088). -/
def segCheck (r : SReg) (k : AccessKind) (off n : Nat) : M Unit := do
  let s ← get
  if s.level = 0 then pure ()
  else
    let g := s.seg r
    check g.valid gp0
    check (g.allows k) gp0
    check (g.inLimit off n) (limitFault r)

/-- The linear address of an offset (spec/20_memory.md R82, R83, R89; spec/21_protection.md R134). -/
def State.linear (s : State) (r : SReg) (off : Nat) : Nat :=
  let a := (s.seg r).base.toNat + off
  match s.level with
  | 0 => a % 2 ^ 20
  | 2 => if s.real && !(decide (r = .cs) && s.resetLatch) then a % 2 ^ 20 else a % 2 ^ 24
  | _ => a % 2 ^ 32

/-! ## Alignment (spec/20_memory.md R92) -/

/-- INT 17 when alignment checking is on and the address is not a multiple of the boundary. -/
def alignCheck (lin boundary : Nat) : M Unit := do
  let s ← get
  check (!(decide (s.level = 4) && s.cr0.am && s.flags.ac && decide (s.cpl = 3) && decide (lin % boundary ≠ 0)))
    (raise (.fault 17 (some 0)))

/-! ## Data breakpoints (spec/61_tasks_v86_debug.md R792, R793) -/

/-- The address of breakpoint `i`. -/
def State.breakAddr (s : State) (i : Nat) : Nat :=
  match i with
  | 0 => s.dr0.toNat
  | 1 => s.dr1.toNat
  | 2 => s.dr2.toNat
  | _ => s.dr3.toNat

/-- Fields RW and LN of breakpoint `i` in DR7 (spec/10_state.md R50). -/
def State.breakRw (s : State) (i : Nat) : Nat := s.dr7.toNat / 2 ^ (16 + 4 * i) % 4
def State.breakLn (s : State) (i : Nat) : Nat := s.dr7.toNat / 2 ^ (18 + 4 * i) % 4

/-- Li or Gi is set. -/
def State.breakEnabled (s : State) (i : Nat) : Bool := s.dr7.getLsbD (2 * i) || s.dr7.getLsbD (2 * i + 1)

/-- Breakpoint `i` matches a data access of `n` bytes (R792); the unused codes never match. -/
def State.dataMatch (s : State) (i : Nat) (lin n : Nat) (k : AccessKind) : Bool :=
  let len := s.breakLn i + 1
  let base := s.breakAddr i / len * len
  let kind := match s.breakRw i with
    | 1 => k.writes
    | 3 => true
    | _ => false
  decide (s.breakLn i ≠ 2) && kind && decide (lin < base + len) && decide (base < lin + n)

/-- The breakpoints a predicate picks, bit `i` for breakpoint `i`. -/
def pickBreaks (p : Nat → Bool) : BitVec 4 :=
  BitVec.ofBool (p 3) ++ BitVec.ofBool (p 2) ++ BitVec.ofBool (p 1) ++ BitVec.ofBool (p 0)

/-- Breakpoint `i` watches the instruction at a linear address (R792, R795). -/
def State.instrMatch (s : State) (i : Nat) (lin : Nat) : Bool :=
  decide (s.breakRw i = 0) && decide (s.breakLn i = 0) && decide (s.breakAddr i = lin)

/-- The breakpoints, enabled or not, that watch the instruction at an offset of the code segment. -/
def State.instrHits (s : State) (ip : Dword) (on : Bool) : BitVec 4 :=
  if s.level < 3 then 0
  else pickBreaks fun i => s.instrMatch i (s.linear .cs ip.toNat) && (s.breakEnabled i == on)

/-- Records the matches of a data access (R793). -/
def State.recordMatches (s : State) (lin n : Nat) (k : AccessKind) : State :=
  if s.level < 3 then s
  else
    let hit (on : Bool) : BitVec 4 := pickBreaks fun i => s.dataMatch i lin n k && (s.breakEnabled i == on)
    { s with trap := { s.trap with enabled := s.trap.enabled ||| hit true, disabled := s.trap.disabled ||| hit false } }

/-! ## The access primitives (spec/20_memory.md R90) -/

/-- The places of an access: on the 8086 each byte's offset wraps at 2^16 (D8), from the 80386 through paging. -/
def placesOf (r : SReg) (k : AccessKind) (off n : Nat) : M (List Place) := do
  let s ← get
  if s.level < 3 then
    return (List.range n).map fun i =>
      let o := if s.level = 0 then (off + i) % 65536 else off + i
      { addr := s.physical (s.linear r o), pcd := false }
  else translate (s.linear r off) n k.writes (decide (s.cpl = 3))

/-- With the internal cache modelled, a memory operand changes the auxiliary data register and TR4
(spec/22_paging_cache.md R228), in a way the spec leaves open. -/
def disturbCacheTest : M Unit := do
  let s ← get
  if s.cacheOn then
    let buf ← freeBits 128
    let status ← freeBits 32
    modify fun s => { s with cacheBuf := buf, tr4 := status }

/-- All checks of an access, in the order of R90, and the places of its bytes. `boundary` is the alignment of the object
(R92). -/
def access (r : SReg) (k : AccessKind) (off : Dword) (n boundary : Nat) : M (List Place) := do
  segCheck r k off.toNat n
  let s ← get
  let lin := s.linear r off.toNat
  alignCheck lin boundary
  modify fun s => s.recordMatches lin n k
  disturbCacheTest
  placesOf r k off.toNat n

/-- `MemRead` of bytes. -/
def readBytes (r : SReg) (off : Dword) (n boundary : Nat) : M (List Byte) := do
  let ps ← access r .read off n boundary
  readPlaces ps

/-- `MemWrite` of bytes. -/
def writeBytes (r : SReg) (off : Dword) (bs : List Byte) (boundary : Nat) : M Unit := do
  let ps ← access r .write off bs.length boundary
  writePlaces ps bs

/-- `MemRead` of a value whose object has the alignment `boundary`. -/
def readItem (w boundary : Nat) (r : SReg) (off : Dword) : M (BitVec w) := do
  return leValue w (← readBytes r off (w / 8) boundary)

/-- `MemRead(seg, off, w/8)` of a value, aligned to its own size. -/
def readMem (w : Nat) (r : SReg) (off : Dword) : M (BitVec w) := readItem w (w / 8) r off

/-- `MemWrite(seg, off, w/8, v)` of a value. -/
def writeMem {w : Nat} (r : SReg) (off : Dword) (v : BitVec w) : M Unit :=
  writeBytes r off (valueBytes v) (w / 8)

/-! ## The stack (spec/44_stack_flags_interrupt.md R400, R401) -/

/-- The stack pointer: SP, or ESP when StackSize is 32. -/
def State.sp (s : State) : Dword := if s.stack32 then s.regs.esp else (s.regs.esp.setWidth 16).setWidth 32

/-- Sets SP (upper half kept) or ESP. -/
def State.setSp (s : State) (v : Dword) : State :=
  if s.stack32 then s.setReg .esp v else s.setReg .esp (v.setWidth 16)

/-- An offset on the stack: modulo 2^16 when StackSize is 16. -/
def State.stackOff (s : State) (v : Dword) : Dword := if s.stack32 then v else (v.setWidth 16).setWidth 32

/-- `Push` of an item whose object has the alignment `boundary` (R400). -/
def pushItem {w : Nat} (boundary : Nat) (v : BitVec w) : M Unit := do
  let s ← get
  let t := s.stackOff (s.sp - BitVec.ofNat 32 (w / 8))
  writeBytes .ss t (valueBytes v) boundary
  modify fun s => s.setSp t

/-- `Push(v)` (R400). -/
def push {w : Nat} (v : BitVec w) : M Unit := pushItem (w / 8) v

/-- `Pop` of an item whose object has the alignment `boundary` (R401). -/
def popItem (w boundary : Nat) : M (BitVec w) := do
  let s ← get
  let v ← readItem w boundary .ss s.sp
  modify fun s => s.setSp (s.stackOff (s.sp + BitVec.ofNat 32 (w / 8)))
  return v

/-- `Pop()` (R401). -/
def pop (w : Nat) : M (BitVec w) := popItem w (w / 8)

/-- Reads the item at a distance above the top of the stack, without moving SP. -/
def peekItem (w boundary dist : Nat) : M (BitVec w) := do
  let s ← get
  readItem w boundary .ss (s.stackOff (s.sp + BitVec.ofNat 32 dist))

def peekStack (w : Nat) (dist : Nat) : M (BitVec w) := peekItem w (w / 8) dist

/-- Adds to SP or ESP (RET imm16). -/
def addSp (n : Dword) : M Unit := modify fun s => s.setSp (s.stackOff (s.sp + n))

/-- A 16-bit value in a slot of `w` bits whose upper half the spec leaves open (93 V8). -/
def slotOf (w : Nat) (v : Word) : M (BitVec w) := do
  if w = 32 then
    let up ← freeBits 16
    return ((up ++ v : BitVec 32)).setWidth w
  else return v.setWidth w

/-- Boundary of a selector in a slot of any size (R92: a selector, and a segment in 32-bit form). -/
def selectorBoundary : Nat := 2

/-- Pushes a selector in a slot of `w` bits. -/
def pushSelector (w : Nat) (v : Word) : M Unit := do
  let x ← slotOf w v
  pushItem selectorBoundary x

/-- Pops a selector from a slot of `w` bits; the upper half is ignored (93 V8). -/
def popSelector (w : Nat) : M Word := do return (← popItem w selectorBoundary).setWidth 16

/-- Reads a selector in a slot of `w` bits at a distance above the top of the stack. -/
def peekSelector (w dist : Nat) : M Word := do return (← peekItem w selectorBoundary dist).setWidth 16

end Sys2Proof.Machine
end

