-- ==== Sys2Proof/Machine/Flags.lean ====
section
/-! DEFINITION. The flags register: its images (spec/10_state.md R20, spec/92_eei_decisions.md D4), loading it, and what
each kind of operation sets (spec/41_arithmetic.md R311, R312; spec/42_logic_rotate_shift.md R341, R349 to R356). -/
namespace Sys2Proof.Machine

/-! ## Images -/

/-- A bit at a position. -/
def bitAt (b : Bool) (n : Nat) : Dword := if b then (1 : Dword) <<< n else 0

/-- EFLAGS as stored by a processor of a generation: bit 1 is 1, bits it does not have are 0 (D4). -/
def Flags.image (f : Flags) (level : Nat) : Dword :=
  bitAt f.cf 0 ||| 2 ||| bitAt f.pf 2 ||| bitAt f.af 4 ||| bitAt f.zf 6 ||| bitAt f.sf 7 ||| bitAt f.tf 8 |||
    bitAt f.intf 9 ||| bitAt f.df 10 ||| bitAt f.ovf 11 |||
    (if 2 ≤ level then f.iopl.setWidth 32 <<< 12 ||| bitAt f.nt 14 else 0) |||
    (if 3 ≤ level then bitAt f.rf 16 ||| bitAt f.vm 17 else 0) ||| (if 4 ≤ level then bitAt f.ac 18 else 0)

/-- The nine flags of the 8086 from an image, the others kept. -/
def Flags.loadNine (f : Flags) (v : Dword) : Flags :=
  { f with
    cf := v.getLsbD 0, pf := v.getLsbD 2, af := v.getLsbD 4, zf := v.getLsbD 6, sf := v.getLsbD 7, tf := v.getLsbD 8
    intf := v.getLsbD 9, df := v.getLsbD 10, ovf := v.getLsbD 11 }

/-- All flags a processor has from an image, as a task switch loads them (spec/61_tasks_v86_debug.md R757 b). -/
def Flags.ofImage (v : Dword) (level : Nat) : Flags :=
  { Flags.afterReset.loadNine v with
    iopl := if 2 ≤ level then v.extractLsb' 12 2 else 0
    nt := decide (2 ≤ level) && v.getLsbD 14
    rf := decide (3 ≤ level) && v.getLsbD 16
    vm := decide (3 ≤ level) && v.getLsbD 17
    ac := decide (4 ≤ level) && v.getLsbD 18 }

/-- Loading the flags from a stack image with the protections of spec/44_stack_flags_interrupt.md R411: IOPL only at CPL 0,
IF only when CPL ≤ IOPL, VM and RF never, AC only from a 32-bit image. -/
def State.popFlags (s : State) (v : Dword) (wide : Bool) : Flags :=
  let f := s.flags
  let g := f.loadNine v
  if s.level = 0 then g
  else
    { g with
      intf := if s.cpl ≤ f.iopl.toNat then v.getLsbD 9 else f.intf
      nt := v.getLsbD 14
      iopl := if s.cpl = 0 then v.extractLsb' 12 2 else f.iopl
      ac := if wide ∧ 4 ≤ s.level then v.getLsbD 18 else f.ac }

/-- Loading the flags by IRET (R424 step 5): as POPF, and RF from a 32-bit image. -/
def State.iretFlags (s : State) (v : Dword) (wide : Bool) : Flags :=
  let f := s.popFlags v wide
  if wide ∧ 3 ≤ s.level then { f with rf := v.getLsbD 16 } else f

/-! ## Result flags -/

/-- PF: even number of ones in the low byte (spec/10_state.md R22). -/
def parityFlag (b : Byte) : Bool :=
  !(b.getLsbD 0 ^^ b.getLsbD 1 ^^ b.getLsbD 2 ^^ b.getLsbD 3 ^^ b.getLsbD 4 ^^ b.getLsbD 5 ^^ b.getLsbD 6 ^^ b.getLsbD 7)

/-- SF, ZF and PF of a result (R22, R24, R25). -/
def Flags.result {w : Nat} (f : Flags) (r : BitVec w) : Flags :=
  { f with sf := r.msb, zf := decide (r = 0), pf := parityFlag (r.setWidth 8) }

/-- The sum `a + b + c` and its flags (spec/41_arithmetic.md R311). -/
def addOp {w : Nat} (f : Flags) (a b : BitVec w) (c : Bool) : BitVec w × Flags :=
  let r := a + b + BitVec.ofNat w c.toNat
  (r, { f.result r with
    cf := decide (2 ^ w ≤ a.toNat + b.toNat + c.toNat)
    af := decide (16 ≤ a.toNat % 16 + b.toNat % 16 + c.toNat)
    ovf := (a.msb == b.msb) && (r.msb != a.msb) })

/-- The difference `a - b - c` and its flags (R312). -/
def subOp {w : Nat} (f : Flags) (a b : BitVec w) (c : Bool) : BitVec w × Flags :=
  let r := a - b - BitVec.ofNat w c.toNat
  (r, { f.result r with
    cf := decide (a.toNat < b.toNat + c.toNat)
    af := decide (a.toNat % 16 < b.toNat % 16 + c.toNat)
    ovf := (a.msb != b.msb) && (r.msb != a.msb) })

/-- Flags of AND, OR, XOR and TEST on a result (spec/42_logic_rotate_shift.md R341); `af` is the open AF. -/
def logicFlags {w : Nat} (f : Flags) (r : BitVec w) (af : Bool) : Flags :=
  { f.result r with ovf := false, cf := false, af := af }

/-! ## Shifts and rotates -/

/-- The seven shifts and rotates. -/
inductive ShiftKind where
  | rol | ror | rcl | rcr | shl | shr | sar
deriving DecidableEq, Repr

/-- Rotates leave SF, ZF, AF and PF alone (R350). -/
def ShiftKind.isRotate : ShiftKind → Bool
  | .rol | .ror | .rcl | .rcr => true
  | .shl | .shr | .sar => false

/-- The bit at the top position. -/
def topBit {w : Nat} (b : Bool) : BitVec w := (BitVec.ofNat w b.toNat) <<< (w - 1)

/-- One position of a shift or rotate: the operand and CF (R350 to R356). -/
def ShiftKind.one {w : Nat} (k : ShiftKind) (x : BitVec w × Bool) : BitVec w × Bool :=
  let d := x.1
  match k with
  | .rol => (d <<< 1 ||| BitVec.ofNat w d.msb.toNat, d.msb)
  | .ror => (d >>> 1 ||| topBit (d.getLsbD 0), d.getLsbD 0)
  | .rcl => (d <<< 1 ||| BitVec.ofNat w x.2.toNat, d.msb)
  | .rcr => (d >>> 1 ||| topBit x.2, d.getLsbD 0)
  | .shl => (d <<< 1, d.msb)
  | .shr => (d >>> 1, d.getLsbD 0)
  | .sar => (d >>> 1 ||| topBit d.msb, d.getLsbD 0)

/-- The operation repeated. -/
def ShiftKind.times {w : Nat} (k : ShiftKind) : Nat → BitVec w × Bool → BitVec w × Bool
  | 0, x => x
  | n + 1, x => k.times n (k.one x)

/-- OF after one position (R349 to R356): `d` is the operand before, `r` the result, `c` the new CF. -/
def ShiftKind.overflow {w : Nat} (k : ShiftKind) (d r : BitVec w) (c : Bool) : Bool :=
  match k with
  | .rol | .rcl | .shl => c ^^ r.msb
  | .ror | .rcr => r.msb ^^ r.getLsbD (w - 2)
  | .sar => false
  | .shr => d.msb

/-- A shift or rotate by `n` positions and its flags: nothing changes for 0 (R348); `ovf` and `af` are the open values of
OF (count above 1) and of AF (shifts). -/
def shiftOp {w : Nat} (k : ShiftKind) (f : Flags) (d : BitVec w) (n : Nat) (ovf af : Bool) : BitVec w × Flags :=
  if n = 0 then (d, f)
  else
    let x := k.times n (d, f.cf)
    let f := { f with cf := x.2, ovf := if n = 1 then k.overflow d x.1 x.2 else ovf }
    (x.1, if k.isRotate then f else { f.result x.1 with af := af })

end Sys2Proof.Machine
end

