-- ==== Sys2Proof/Machine/Desc.lean ====
section
/-! DEFINITION. Selectors, descriptors and the loading of segment registers (spec/21_protection.md sections 1 to 3;
spec/61_tasks_v86_debug.md R778 for V86 mode, spec/10_state.md R19 for real mode). -/
namespace Sys2Proof.Machine

/-! ## Selectors (spec/21_protection.md R121, R122) -/

/-- The null selector: index 0 in the GDT. -/
def selNull (sel : Word) : Bool := decide (sel &&& 0xFFFC = 0)
def selRpl (sel : Word) : Nat := (sel.extractLsb' 0 2).toNat
def selIndex (sel : Word) : Nat := sel.toNat / 8
/-- TI: the selector names the LDT. -/
def selLocal (sel : Word) : Bool := sel.getLsbD 2
/-- The selector with another RPL. -/
def selWithRpl (sel : Word) (rpl : Nat) : Word := (sel &&& 0xFFFC) ||| BitVec.ofNat 16 (rpl % 4)

/-! ## Descriptors (R125, R130, R146, R161) -/

/-- The eight bytes of a descriptor, byte 0 lowest. -/
abbrev Descriptor := BitVec 64

def dAccess (d : Descriptor) : Byte := d.extractLsb' 40 8
/-- The segment base: 24 bits on the 80286 (U8), 32 from the 80386. -/
def dBase (level : Nat) (d : Descriptor) : Dword :=
  if level ≤ 2 then (d.extractLsb' 16 24).setWidth 32 else d.extractLsb' 56 8 ++ d.extractLsb' 16 24
def dGran (level : Nat) (d : Descriptor) : Bool := decide (3 ≤ level) && d.getLsbD 55
def dBig (level : Nat) (d : Descriptor) : Bool := decide (3 ≤ level) && d.getLsbD 54
def dAvl (level : Nat) (d : Descriptor) : Bool := decide (3 ≤ level) && d.getLsbD 52
/-- The byte-granular limit (R131). -/
def dLimit (level : Nat) (d : Descriptor) : Dword :=
  let raw : Dword :=
    if level ≤ 2 then (d.extractLsb' 0 16).setWidth 32
    else (d.extractLsb' 48 4 ++ d.extractLsb' 0 16 : BitVec 20).setWidth 32
  if dGran level d then raw <<< 12 ||| 0xFFF else raw

/-- The limit as LDTR and TR hold it, in 16 bits (spec/10_state.md R46, R47). DESIGN CHOICE: a larger limit of the
descriptor is held as FFFFh (log 96). -/
def dLimitWord (level : Nat) (d : Descriptor) : Word :=
  if dLimit level d ≤ 0xFFFF then (dLimit level d).setWidth 16 else 0xFFFF

def dPresent (d : Descriptor) : Bool := accPresent (dAccess d)
def dDpl (d : Descriptor) : Nat := accDpl (dAccess d)
def dIsCode (d : Descriptor) : Bool := accIsCode (dAccess d)
def dConforming (d : Descriptor) : Bool := dIsCode d && accBit2 (dAccess d)
/-- A data segment or a readable code segment. -/
def dIsReadable (d : Descriptor) : Bool :=
  accIsData (dAccess d) || (accIsCode (dAccess d) && accBit1 (dAccess d))
def dIsWritableData (d : Descriptor) : Bool := accIsData (dAccess d) && accBit1 (dAccess d)
def dIsSystem (d : Descriptor) : Bool := accIsSystem (dAccess d)
def dType (d : Descriptor) : Nat := accType (dAccess d)
/-- Parts of a gate (R146, R161, R162). -/
def gateSel (d : Descriptor) : Word := d.extractLsb' 16 16
def gateCount (d : Descriptor) : Nat := (d.extractLsb' 32 5).toNat
/-- The 80386 gate types carry offset bits 31..16 in bytes 6 and 7. -/
def gateIs386 (d : Descriptor) : Bool := decide (8 ≤ dType d)
def gateOffset (d : Descriptor) : Dword :=
  if gateIs386 d then d.extractLsb' 48 16 ++ d.extractLsb' 0 16 else (d.extractLsb' 0 16).setWidth 32

/-- A system descriptor of one of the types a processor knows: 80386 types only from the 80386 (R129, R137). -/
def dHasType (level : Nat) (d : Descriptor) (types286 types386 : List Nat) : Bool :=
  dIsSystem d && (types286.contains (dType d) || (decide (3 ≤ level) && types386.contains (dType d)))

/-- The linear address of a selector's descriptor, none when it lies outside its table (R123). -/
def State.descAddr (s : State) (sel : Word) : Option Nat :=
  let off := selIndex sel * 8
  if selLocal sel then
    if s.ldtr.valid ∧ off + 7 ≤ s.ldtr.limit.toNat then some (s.ldtr.base.toNat + off) else none
  else if off + 7 ≤ s.gdtr.limit.toNat then some (s.gdtr.base.toNat + off) else none

/-- `ReadDescriptor(sel)`: the descriptor and its address; `bad` when it lies outside the table (R123). -/
def readDescriptor (sel : Word) (bad : M Unit) : M (Descriptor × Nat) := do
  let s ← get
  match s.descAddr sel with
  | some a => return (leValue 64 (← sysRead a 8), a)
  | none =>
    bad
    gpSel sel

/-- Sets the A bit of a segment descriptor in memory (R183). DESIGN CHOICE: memory is not written when A is 1 already
(log 88). -/
def markAccessed (d : Descriptor) (a : Nat) : M Unit :=
  if (dAccess d).getLsbD 0 then pure () else sysWrite (a + 5) [dAccess d ||| 1]

/-- The hidden part a descriptor gives (R138). -/
def SegReg.ofDescriptor (level : Nat) (sel : Word) (d : Descriptor) : SegReg where
  sel := sel
  valid := true
  base := dBase level d
  limit := dLimit level d
  access := dAccess d ||| 1
  big := dBig level d
  gran := dGran level d
  avl := dAvl level d
  realKind := false

/-! ## Loading segment registers -/

/-- A real-mode load: selector and base; limit and rights stay (spec/10_state.md R19, spec/70_reset_and_hazards.md R826). -/
def SegReg.loadReal (g : SegReg) (sel : Word) : SegReg :=
  { g with sel := sel, valid := true, base := sel.setWidth 32 <<< 4 }

/-- A V86-mode load (spec/61_tasks_v86_debug.md R778). -/
def SegReg.v86 (sel : Word) : SegReg where
  sel := sel
  valid := true
  base := sel.setWidth 32 <<< 4
  limit := 0xFFFF
  access := 0xF3
  big := false
  gran := false
  avl := false
  realKind := true

/-- A protected-mode load of a null selector: the hidden part becomes unusable (R138). -/
def SegReg.loadNull (g : SegReg) (sel : Word) : SegReg := { g with sel := sel, valid := false }

/-- Loading DS, ES, FS or GS in protected mode (R138); faults carry vector `vec` (13, or 10 in a task switch). -/
def loadDataSeg (vec : Byte) (r : SReg) (sel : Word) : M Unit := do
  if selNull sel then modify fun s => s.setSeg r ((s.seg r).loadNull sel)
  else
    let (d, a) ← readDescriptor sel (faultSel vec sel)
    let s ← get
    check (dIsReadable d) (faultSel vec sel)
    check (dConforming d || decide (max s.cpl (selRpl sel) ≤ dDpl d)) (faultSel vec sel)
    check (dPresent d) (faultSel 11 sel)
    markAccessed d a
    modify fun s => s.setSeg r (SegReg.ofDescriptor s.level sel d)

/-- Loading SS in protected mode for a privilege level (R139); faults carry vector `vec` (13, or 10). -/
def loadStackSeg (vec : Byte) (cpl : Nat) (sel : Word) : M Unit := do
  check (!selNull sel) (faultSel vec sel)
  let (d, a) ← readDescriptor sel (faultSel vec sel)
  check (decide (selRpl sel = cpl) && dIsWritableData d && decide (dDpl d = cpl)) (faultSel vec sel)
  check (dPresent d) (faultSel 12 sel)
  markAccessed d a
  modify fun s => { s with ss := SegReg.ofDescriptor s.level sel d }

/-- A load of a data segment register or SS by an instruction, in any mode (spec/40_mov.md R301). -/
def loadSeg (r : SReg) (sel : Word) : M Unit := do
  let s ← get
  if s.real then set (s.setSeg r ((s.seg r).loadReal sel))
  else if s.v86 then set (s.setSeg r (SegReg.v86 sel))
  else if r = .ss then loadStackSeg 13 s.cpl sel
  else loadDataSeg 13 r sel

/-- The real-mode or V86-mode load of CS; like every change of CS it ends the reset address latch (spec/10_state.md R66). -/
def State.loadCs86 (s : State) (sel : Word) : State :=
  { s with cs := if s.real then s.cs.loadReal sel else SegReg.v86 sel, resetLatch := false }

/-- The protected-mode load of CS after its checks, with RPL `cpl` in the selector. -/
def loadCs (sel : Word) (cpl : Nat) (d : Descriptor) (a : Nat) : M Unit := do
  markAccessed d a
  modify fun s =>
    { s with cs := SegReg.ofDescriptor s.level (selWithRpl sel cpl) d, resetLatch := false }

/-! ## Writing the instruction pointer (spec/43_control_transfer.md R370) -/

/-- The value IP or EIP takes for a target: 16 bits unless the operand size is 32. -/
def targetOf (wide : Bool) (v : Dword) : Dword := if wide then v else (v.setWidth 16).setWidth 32

/-- The target lies in the code segment: in protected mode within the limit, in real and V86 mode of the 80386 and later
at most FFFFh; earlier processors check nothing outside protected mode. -/
def State.targetOk (s : State) (v : Dword) : Bool :=
  if s.prot then decide (v.toNat ≤ s.cs.limit.toNat)
  else decide (s.level < 3) || decide (v.toNat ≤ 0xFFFF)

/-- A taken transfer to an offset of the (new) code segment: the limit check, the new pointer, and the prefetch queue
discarded (R370, R389 a). -/
def jumpTo (wide : Bool) (v : Dword) : M Unit := do
  let s ← get
  let t := targetOf wide v
  check (s.targetOk t) gp0
  set { s with eip := t, stale := [] }

end Sys2Proof.Machine
end

