-- ==== Sys2Proof/Machine/Tasks.lean ====
section
/-! DEFINITION. Task switching (spec/61_tasks_v86_debug.md R750 to R760) and the stack pointers a TSS holds for the inner
levels (R751, R752). -/
namespace Sys2Proof.Machine

/-- What starts a task switch (R755): far JMP, a nesting transfer (far CALL, interrupt), or IRET with NT = 1. -/
inductive SwitchKind where
  | jump | nest | iret
deriving DecidableEq, Repr

/-- Offsets of the register fields of a TSS (R751, R752). -/
def tssRegsAt (is386 : Bool) : Nat := if is386 then 32 else 14

/-- Words or doublewords, one after the other, as bytes. -/
def packFields (size : Nat) : List Dword → List Byte
  | [] => []
  | v :: rest => natBytes size v.toNat ++ packFields size rest

/-- The `i`-th field of `size` bytes. -/
def fieldOf (size : Nat) (bs : List Byte) (i : Nat) : Dword := leValue 32 ((bs.drop (size * i)).take size)

/-- The registers a TSS holds, in its order: instruction pointer, flags, general registers, segment selectors (R751,
R752; FS and GS only in the 80386 format). -/
def State.taskFields (s : State) (is386 : Bool) : List Dword :=
  [s.eip, s.flags.image s.level, s.regs.eax, s.regs.ecx, s.regs.edx, s.regs.ebx, s.regs.esp, s.regs.ebp, s.regs.esi,
    s.regs.edi, s.es.sel.setWidth 32, s.cs.sel.setWidth 32, s.ss.sel.setWidth 32, s.ds.sel.setWidth 32] ++
    if is386 then [s.fs.sel.setWidth 32, s.gs.sel.setWidth 32] else []

/-- Step 6 of R755: the outgoing state goes into the TSS that TR names, in its own format (R756). -/
def saveTask : M Unit := do
  let s ← get
  sysWrite (s.tr.base.toNat + tssRegsAt s.tr.is386)
    (packFields (if s.tr.is386 then 4 else 2) (s.taskFields s.tr.is386))

/-- Writes the busy mark of a TSS descriptor in the GDT (R755 steps 5, 7, 9). The null descriptor is never used
(spec/21_protection.md R122): DESIGN CHOICE, a TR that holds the null selector has no mark to change (log 83). -/
def setBusy (sel : Word) (busy : Bool) : M Unit := do
  if selNull sel then pure ()
  else
    let s ← get
    let a := s.gdtr.base.toNat + selIndex sel * 8 + 5
    let bs ← sysRead a 1
    let acc := leValue 8 bs
    sysWrite a [if busy then acc ||| 2 else acc &&& 0xFD]

/-- Runs a check of the new task: an interrupt it raises is raised in the new task's context (R757). -/
def inNewTask (m : M Unit) : M Unit := fun s =>
  match m s with
  | .error (.exn e) => .error (.exn { e with newTask := some s })
  | r => r

/-- A general register from a TSS field: all 32 bits from the 80386 format; from the 80286 format the upper half is open
on a 32-bit processor (93 U19). -/
def loadTaskReg (is386 : Bool) (r : Reg) (v : Dword) : M Unit := do
  if is386 then putReg r v
  else
    let s ← get
    if 3 ≤ s.level then
      let up ← freeBits 16
      putReg r ((up ++ v.setWidth 16 : BitVec 32))
    else putReg r (v.setWidth 16)

/-- Step (d) of R757: LDTR from its selector. -/
def loadTaskLdt (sel : Word) : M Unit := do
  if selNull sel then modify fun s => { s with ldtr := { s.ldtr with sel := sel, valid := false } }
  else
    check (!selLocal sel) (faultSel 10 sel)
    let (d, _) ← readDescriptor sel (faultSel 10 sel)
    check (dIsSystem d && decide (dType d = 2) && dPresent d) (faultSel 10 sel)
    modify fun s =>
      { s with ldtr := { sel := sel, valid := true, base := dBase s.level d, limit := dLimitWord s.level d } }

/-- Step (f): CS of the new task. -/
def loadTaskCs (sel : Word) : M Unit := do
  check (!selNull sel) (faultSel 10 sel)
  let (d, a) ← readDescriptor sel (faultSel 10 sel)
  check (dIsCode d) (faultSel 10 sel)
  check (if dConforming d then decide (dDpl d ≤ selRpl sel) else decide (dDpl d = selRpl sel)) (faultSel 10 sel)
  check (dPresent d) (faultSel 11 sel)
  loadCs sel (selRpl sel) d a

/-- Steps (e) to (h): the segment registers of the new task, from the selectors they already show. -/
def loadTaskSegs (is386 : Bool) : M Unit := do
  let s ← get
  if s.flags.vm then
    set { s with
      es := SegReg.v86 s.es.sel, cs := SegReg.v86 s.cs.sel, ss := SegReg.v86 s.ss.sel
      ds := SegReg.v86 s.ds.sel, fs := SegReg.v86 s.fs.sel, gs := SegReg.v86 s.gs.sel, resetLatch := false }
  else
    inNewTask (loadTaskCs s.cs.sel)
    inNewTask (loadStackSeg 10 (selRpl s.cs.sel) s.ss.sel)
    inNewTask (loadDataSeg 10 .ds s.ds.sel)
    inNewTask (loadDataSeg 10 .es s.es.sel)
    if is386 then
      inNewTask (loadDataSeg 10 .fs s.fs.sel)
      inNewTask (loadDataSeg 10 .gs s.gs.sel)

/-- `TaskSwitch(kind, sel)` (R755): the outgoing task is to resume at the current `eip`; `err` is the error word an
interrupt pushes in the new task (spec/60_exceptions.md R687 step 3). -/
def taskSwitch (kind : SwitchKind) (sel : Word) (err : Option Word) : M Unit := do
  let bad : Byte := match kind with
    | .iret => 10
    | .jump | .nest => 13
  -- steps 1 to 4
  check (!selNull sel && !selLocal sel) (faultSel bad sel)
  let (d, _) ← readDescriptor sel (faultSel bad sel)
  let s ← get
  let free := dHasType s.level d [1] [9]
  let busy := dHasType s.level d [3] [11]
  check (match kind with | .iret => busy | .jump | .nest => free) (faultSel bad sel)
  check (dPresent d) (faultSel 11 sel)
  let is386 := decide (8 ≤ dType d)
  check (decide ((if is386 then 103 else 43) ≤ (dLimit s.level d).toNat)) (faultSel 10 sel)
  -- steps 5 to 7
  let oldTr := s.tr
  if kind = .iret then
    setBusy oldTr.sel false
    modify fun s => { s with flags := { s.flags with nt := false } }
  saveTask
  if kind = .jump then setBusy oldTr.sel false
  -- steps 8 and 9
  modify fun s =>
    { s with
      tr := { sel := sel, base := dBase s.level d, limit := dLimitWord s.level d, is386 := is386 }
      cr0 := { s.cr0 with ts := true } }
  if kind ≠ .iret then setBusy sel true
  -- step 10
  let base := (dBase s.level d).toNat
  if is386 && s.cr0.pg then
    let cr3 ← sysRead32 (base + 28)
    modify fun s => s.loadCr3 cr3
  let size := if is386 then 4 else 2
  let bs ← sysRead (base + tssRegsAt is386) (size * (if is386 then 17 else 15))
  let f := fieldOf size bs
  modify fun s =>
    let fl := Flags.ofImage (f 1) s.level
    { s with
      eip := f 0
      flags := { fl with nt := match kind with | .jump => false | .nest => true | .iret => fl.nt } }
  loadTaskReg is386 .eax (f 2)
  loadTaskReg is386 .ecx (f 3)
  loadTaskReg is386 .edx (f 4)
  loadTaskReg is386 .ebx (f 5)
  loadTaskReg is386 .esp (f 6)
  loadTaskReg is386 .ebp (f 7)
  loadTaskReg is386 .esi (f 8)
  loadTaskReg is386 .edi (f 9)
  -- step 11
  if kind = .nest then sysWrite base (natBytes size oldTr.sel.toNat)
  -- step 12
  modify fun s => { s with dr7 := s.dr7 &&& ~~~(0x155 : Dword) }
  -- step 13: visible parts first (R757 c), then the checks, which fault in the new task
  let shown (g : SegReg) (v : Dword) : SegReg :=
    { g with sel := v.setWidth 16, valid := false, realKind := false }
  modify fun s =>
    { s with
      ldtr := { s.ldtr with sel := (f (if is386 then 16 else 14)).setWidth 16, valid := false }
      es := shown s.es (f 10), cs := shown s.cs (f 11), ss := shown s.ss (f 12), ds := shown s.ds (f 13)
      fs := shown s.fs (if is386 then f 14 else 0), gs := shown s.gs (if is386 then f 15 else 0) }
  inNewTask (loadTaskLdt ((f (if is386 then 16 else 14)).setWidth 16))
  loadTaskSegs is386
  match err with
  | some e => inNewTask (if is386 then push (e.setWidth 32 : BitVec 32) else push e)
  | none => pure ()
  inNewTask do
    let s ← get
    check (s.targetOk s.eip) gp0
  -- step 14
  if is386 then
    let t ← sysRead (base + 100) 1
    if (leValue 8 t).getLsbD 0 then
      modify fun s => { s with trap := { s.trap with taskSwitch := true } }
  -- control passes to the new task: its code is fetched after every store of the switch (R754, spec/20_memory.md R110 a)
  modify fun s => { s with stale := [] }

/-- IRET with NT = 1 (R760): back through the back link of the current TSS. -/
def returnToTask : M Unit := do
  let s ← get
  let link ← sysRead16 s.tr.base.toNat
  taskSwitch .iret link none

/-- The stack the current TSS holds for a privilege level: SS and SP (R751, R752). DESIGN CHOICE: the fields are read where
they lie, whatever the limit in TR (log 84). -/
def innerStack (level : Nat) : M (Word × Dword) := do
  let s ← get
  let base := s.tr.base.toNat
  if s.tr.is386 then
    let sp ← sysRead32 (base + 4 + 8 * level)
    let ss ← sysRead16 (base + 8 + 8 * level)
    return (ss, sp)
  else
    let sp ← sysRead16 (base + 2 + 4 * level)
    let ss ← sysRead16 (base + 4 + 4 * level)
    return (ss, sp.setWidth 32)

end Sys2Proof.Machine
end

