-- ==== Sys2Proof/Machine/Ops.lean ====
section
/-! DEFINITION. Taking an interrupt or exception and returning from one, far transfers, permission checks, and how one
instruction is run: what comes before and after its own effect. -/
namespace Sys2Proof.Machine

/-! ## Reset (spec/70_reset_and_hazards.md R810) -/

/-- What the RESET signal does to a running machine: registers as after power-on, memory and the outside world unchanged
(R810, spec/92_eei_decisions.md D33). -/
def State.applyReset (s : State) : State :=
  { State.powerOn s.cfg with
    mem := s.mem
    pins := { s.pins with reset := false }
    portIn := s.portIn
    portOut := s.portOut
    oracle := s.oracle }

/-! ## Taking an interrupt (spec/60_exceptions.md section 3) -/

/-- What an interrupt comes from: an instruction (INT n, INT 3, INTO), an external event, or the processor. -/
inductive IntSource where
  | soft | ext | proc
deriving DecidableEq, Repr

/-- Runs a computation whose memory accesses no data breakpoint watches (spec/92_eei_decisions.md D30); the mark a task
switch leaves in it stays (spec/61_tasks_v86_debug.md R755 step 14, R798). -/
def untracked {α : Type} (m : M α) : M α := do
  let t := (← get).trap
  let a ← m
  modify fun s => { s with trap := { t with taskSwitch := s.trap.taskSwitch } }
  return a

/-- Sets EX in the error word of an interrupt raised while an external one is delivered (R678, R723). -/
def withEx {α : Type} (src : IntSource) (m : M α) : M α := fun s =>
  match m s with
  | .error (.exn e) =>
    .error (.exn (if src = .ext ∧ e.vec ≠ 14 ∧ e.vec ≠ 17 then { e with err := e.err.map (· ||| 1) } else e))
  | r => r

/-- Real-mode delivery through the vector table (R681): `ret` is the saved IP. On the 80286 a table whose base
lies above FFFFFh is read with address lines A20 to A23 cleared (`State.addressLines`). -/
def deliverReal (n : Byte) (ret : Dword) : M Unit := do
  let s ← get
  push ((s.flags.image s.level).setWidth 16 : Word)
  modify fun s => { s with flags := { s.flags with intf := false, tf := false, rf := false } }
  push s.cs.sel
  let at_ := (if s.level = 0 then 0 else s.idtr.base.toNat) + n.toNat * 4
  let sel ← sysRead16 (at_ + 2)
  push (ret.setWidth 16 : Word)
  let off ← sysRead16 at_
  modify fun s => { s.loadCs86 sel with eip := off.setWidth 32, stale := [] }

/-- Real-mode interrupt: a vector outside the table gives INT 8, at the interrupted instruction `start`; INT 8 outside it
shuts the processor down (R682, R711, R712). -/
def interruptReal (n : Byte) (ret start : Dword) : M Unit := do
  let s ← get
  let inside (k : Byte) : Bool := decide (s.level = 0) || decide (k.toNat * 4 + 3 ≤ s.idtr.limit.toNat)
  if inside n then deliverReal n ret
  else if inside 8 then deliverReal 8 start
  else fun _ => .error .shutdown

/-- The room for `k` items of `w` bits below the top of the stack lies in the stack segment, else INT 12 with an error
word (R687, 93 V13). -/
def checkRoom (w k : Nat) (err : Word) : M Unit := do
  let s ← get
  let ok := (List.range k).all fun i =>
    s.ss.inLimit (s.stackOff (s.sp - BitVec.ofNat 32 (w / 8 * (i + 1)))).toNat (w / 8)
  check ok (raise (.fault 12 (some err)))

/-- Loads SS:SP for an inner privilege level from the current TSS (R687 step 10): faults are INT 10, or INT 12 for a
segment not present. DESIGN CHOICE: a 16-bit SP of an 80286 TSS leaves the upper half of ESP (log 97). -/
def switchToInner (level : Nat) : M Word := do
  let (ss, sp) ← innerStack level
  let s ← get
  loadStackSeg 10 level ss
  if s.tr.is386 then putReg .esp sp else putReg .esp (sp.setWidth 16 : Word)
  return ss

/-- The error word of a fault at an entry of the IDT (R686, R723). -/
def idtError (n : Byte) : Word := n.setWidth 16 <<< 3 ||| 2

/-- Protected-mode delivery through an interrupt or trap gate (R687 steps 4 to 13; from V86 mode with the additions of
spec/61_tasks_v86_debug.md R776). `img` is the flags image to push. DESIGN CHOICE: the stack of an inner level is written
at that level (log 102); an 80386 gate pushes the whole of ESP, from a 16-bit stack too (log 97). -/
def enterGate (n : Byte) (gate : Descriptor) (err : Option Word) (ret img : Dword) : M Unit := do
  let s0 ← get
  let sel := gateSel gate
  check (!selNull sel) (raise (.fault 13 (some 0)))
  let (d, a) ← readDescriptor sel (gpSel sel)
  check (dIsCode d) (gpSel sel)
  check (if s0.v86 then !dConforming d else decide (dDpl d ≤ s0.cpl)) (gpSel sel)
  -- from V86 mode: a handler of level 0, an 80386 gate and an 80386 TSS (93 V15)
  check (!s0.v86 || decide (dDpl d = 0)) (raise (.fault 13 (some (idtError n))))
  check (dPresent d) (faultSel 11 sel)
  check (!s0.v86 || (gateIs386 gate && s0.tr.is386)) (raise (.fault 13 (some (idtError n))))
  let w := if gateIs386 gate then 32 else 16
  let inner := !dConforming d && decide (dDpl d < s0.cpl)
  let cpl := if inner then dDpl d else s0.cpl
  let items := 3 + (if err.isSome then 1 else 0)
  if inner then
    -- the new stack is used at the new level
    modify fun s => { s with flags := { s.flags with vm := false }, cs := { s.cs with sel := selWithRpl s.cs.sel cpl } }
    let ss ← switchToInner cpl
    checkRoom w (items + 2 + (if s0.v86 then 4 else 0)) (ss &&& 0xFFFC)
    if s0.v86 then
      pushSelector w s0.gs.sel
      pushSelector w s0.fs.sel
      pushSelector w s0.ds.sel
      pushSelector w s0.es.sel
      modify fun s =>
        { s with gs := s.gs.loadNull 0, fs := s.fs.loadNull 0, ds := s.ds.loadNull 0, es := s.es.loadNull 0 }
    pushSelector w s0.ss.sel
    push (s0.regs.esp.setWidth w)
  else checkRoom w items 0
  push (img.setWidth w)
  pushSelector w s0.cs.sel
  push (ret.setWidth w)
  match err with
  | some e => push (e.setWidth w)
  | none => pure ()
  loadCs sel cpl d a
  modify fun s =>
    { s with flags := { s.flags with
        vm := false, tf := false, nt := false, rf := false
        intf := if dType gate % 2 = 0 then false else s.flags.intf } }
  jumpTo true (gateOffset gate)

/-- Protected-mode and V86-mode interrupt (R687): the IDT entry, its checks, then a task switch or a gate. -/
def interruptProt (n : Byte) (err : Option Word) (src : IntSource) (ret img : Dword) : M Unit := do
  let s ← get
  let bad : M Unit := raise (.fault 13 (some (idtError n)))
  check (decide (n.toNat * 8 + 7 ≤ s.idtr.limit.toNat)) bad
  let gate : Descriptor := leValue 64 (← sysRead (s.idtr.base.toNat + n.toNat * 8) 8)
  check (dHasType s.level gate [5, 6, 7] [14, 15]) bad
  check (dPresent gate) (raise (.fault 11 (some (idtError n))))
  check (!decide (src = .soft) || decide (s.cpl ≤ dDpl gate)) bad
  if dType gate = 5 then
    modify fun s => { s with eip := ret }
    taskSwitch .nest (gateSel gate) err
  else enterGate n gate err ret img

/-- TAKING AN INTERRUPT OR EXCEPTION (R680): saves the flags and the return address `ret`, and goes to the handler of
vector `n`, as the mode says. `start` is the interrupted instruction, `rf` the RF bit of the saved image
(spec/61_tasks_v86_debug.md R796 a). The machine runs afterwards, at an instruction boundary. DESIGN CHOICE: the delivery
ends an interrupt shadow, also when the instruction after a load of SS faults and so never completes (spec/40_mov.md R304,
spec/10_state.md R61 speak of its completion): the next boundary accepts events before the handler's first instruction
(log 48). -/
def interrupt (n : Byte) (err : Option Word) (src : IntSource) (ret start : Dword) (rf : Bool) : M Unit :=
  withEx src <| untracked do
    let s ← get
    if s.real then interruptReal n ret start
    else interruptProt n err src ret (({ s.flags with rf := rf } : Flags).image s.level)
    modify fun s => { s with cur := .start, run := .running, shadow := .none, repeating := none }

/-! ## Delivering what an instruction raised (R680, R690, R710, R711) -/

/-- The machine stopped by a shutdown (R711). -/
def State.shutDown (s : State) : State := { s with run := .shutdown, cur := .start, repeating := none }

/-- Writes what an exception leaves in CR2 and DR6 (R737, spec/61_tasks_v86_debug.md R790); one for an access to a debug
register (BD) clears DR7.GD (R797). The free values it used stay used. -/
def State.noteExn (s : State) (e : Exn) : State :=
  { s with
    cr2 := match e.cr2 with | some a => a | none => s.cr2
    dr6 := s.dr6 ||| e.dr6
    dr7 := if e.dr6.getLsbD 13 then s.dr7 &&& ~~~(0x2000 : Dword) else s.dr7
    oracle := max s.oracle e.oracle }

/-- The state an exception is delivered in: the interrupted one, or that of a task just switched to, in which the breakpoint
matches of the faulting instruction are discarded too (spec/61_tasks_v86_debug.md R793). -/
def State.exnContext (s : State) (e : Exn) : State :=
  ((e.newTask.map fun t => { t with trap := s.trap }).getD s).noteExn e

/-- The address an exception saves: that of the instruction for a fault, of the next one for a trap; the 8086 saves the
next one always (R683, R690). -/
def exnReturn (s c : State) (e : Exn) (next : Dword) : Dword :=
  match e.newTask with
  | some _ => c.eip
  | none => if e.cls = .trap ∨ s.level = 0 then next else s.eip

/-- Delivers an exception in a context, with the addresses to save; `again` says what one raised meanwhile does. -/
def State.enterExn (c : State) (e : Exn) (ret start : Dword) (again : Exn → Host.Outcome State Fault Refusal) :
    Host.Outcome State Fault Refusal :=
  match interrupt e.vec e.err .proc ret start (decide (e.cls = .fault) || c.flags.rf) c with
  | .ok (_, t) => .next t
  | .error (.stop f) => .fault f
  | .error .shutdown => .next c.shutDown
  | .error (.exn e2) => again e2

/-- INT 8 takes the place of an exception raised while one of these is delivered (R710): the class INT 10 to INT 13 (93
V9). -/
def Exn.escalates (e : Exn) : Bool := decide (10 ≤ e.vec.toNat) && decide (e.vec.toNat ≤ 13)

/-- INT 8, an abort; an exception meanwhile shuts the processor down (R711). -/
def State.doubleFault (c : State) (ret : Dword) : Host.Outcome State Fault Refusal :=
  c.enterExn { Exn.fault 8 (some 0) with cls := .abort } ret ret fun e => .next (c.exnContext e).shutDown

/-- The address saved for an exception raised while another with saved address `ret` was delivered. -/
def nestedReturn (c : State) (e : Exn) (ret : Dword) : Dword :=
  match e.newTask with
  | some _ => c.eip
  | none => ret

/-- An exception of the instruction that `s` is about to run is delivered; `next` is the address after it. One raised
meanwhile becomes INT 8 when the first is of the class of 93 V9, else it is delivered in its place; a third becomes INT 8
when the second is of that class, else it shuts the processor down (R710, R711, R747; log 34). -/
def State.deliverExn (s : State) (next : Dword) (e : Exn) : Host.Outcome State Fault Refusal :=
  let c := s.exnContext e
  let ret := exnReturn s c e next
  c.enterExn e ret (nestedReturn c e s.eip) fun e2 =>
    let c2 := c.exnContext e2
    let ret2 := nestedReturn c2 e2 ret
    if e.escalates then c2.doubleFault ret2
    else c2.enterExn e2 ret2 ret2 fun e3 =>
      let c3 := c2.exnContext e3
      if e2.escalates then c3.doubleFault (nestedReturn c3 e3 ret2) else .next c3.shutDown

/-! ## Running one instruction -/

/-- How an instruction ended, for what follows every instruction. -/
inductive Ending where
  /-- Completed. -/
  | done
  /-- Completed; no single-step trap after it (a MOV or POP that loads SS, on the 8086 any segment register,
  spec/60_exceptions.md R701). -/
  | noStep
  /-- Completed; RF stays as the instruction loaded it (IRETD, a task switch: spec/61_tasks_v86_debug.md R796 d). -/
  | loadedRf
  /-- A software interrupt was taken: no single-step trap (spec/60_exceptions.md R701). -/
  | interrupted
  /-- One iteration of a repeated string instruction is done and more follow (spec/46_string_bcd_control.md R480). -/
  | again
  /-- Nothing was done yet: the instruction waits. -/
  | waiting
deriving DecidableEq, Repr

/-- Offset of the byte after the instruction (spec/10_state.md R15): modulo 2^16 on the 8086 (spec/92_eei_decisions.md
D3). -/
def State.nextIp (s : State) : Dword :=
  let n := s.eip + BitVec.ofNat 32 s.cur.len
  if s.level = 0 then (n.setWidth 16).setWidth 32 else n

/-- LOCK may precede: always before the 80386 (there the 80286 checks IOPL in protected mode), else only the listed
instructions with a memory destination; in V86 mode it needs IOPL 3 (spec/20_memory.md R103,
spec/61_tasks_v86_debug.md R775, spec/21_protection.md R176). -/
def lockCheck (lockable : Bool) : M Unit := do
  let s ← get
  if !s.cur.lock || decide (s.level = 0) then pure ()
  else if s.level = 2 then check (s.real || decide (s.cpl ≤ s.flags.iopl.toNat)) gp0
  else
    check (!s.v86 || decide (s.flags.iopl = 3)) gp0
    check lockable undefinedOpcode

/-- What the state keeps of debug causes after an instruction: with RF = 1 its own are dropped (R796 c); without a cause
that traps, the matches of breakpoints not enabled are forgotten (R790). -/
def settleTrap (before after : TrapRecord) (rf step : Bool) : TrapRecord :=
  let t : TrapRecord :=
    if rf then { before with taskSwitch := after.taskSwitch }
    else { after with singleStep := after.singleStep || step }
  if t.singleStep || t.taskSwitch || decide (t.enabled ≠ 0) then t else .clear

/-- The debug causes of an instruction that started in `s`: those its effect left, and the breakpoint on it, if that is not
enabled (93 U20). -/
def State.withOwnMatch (s : State) (r : TrapRecord) : TrapRecord :=
  { r with disabled := r.disabled ||| s.instrHits s.eip false }

/-- What follows the instruction's own effect: the prefixes are forgotten, RF is cleared, the traps recorded. `s` is the
state the instruction started in, `t` the one its effect left. The interrupt shadow before it is over when it completes
(spec/10_state.md R61). -/
def finish (s t : State) (e : Ending) : State :=
  match e with
  | .waiting => { s with cur := .start, oracle := t.oracle }
  | .again =>
    { t with
      eip := s.eip, cur := .start, shadow := s.shadow
      repeating := some
        { restart := ((s.eip + BitVec.ofNat 32 s.cur.last).setWidth 16).setWidth 32, code := s.cur.code }
      trap := settleTrap s.trap (s.withOwnMatch t.trap) s.flags.rf s.flags.tf }
  | _ =>
    { t with
      cur := .start, repeating := none
      flags := if e = .loadedRf ∨ e = .interrupted then t.flags else { t.flags with rf := false }
      trap := settleTrap s.trap (s.withOwnMatch t.trap) s.flags.rf
        (s.flags.tf && decide (e ≠ .noStep) && decide (e ≠ .interrupted)) }

/-- Old values the prefetch queue may hold, after the instruction pointer moved past `n` bytes (spec/92_eei_decisions.md
D14). -/
def ageStale (n : Nat) (l : List StaleByte) : List StaleByte :=
  (l.filter fun e => decide (n ≤ e.ahead)).map fun e => { e with ahead := e.ahead - n }

/-- The state an instruction's effect starts in: `eip` is the next instruction's address, the shadow is its own to set, its
bytes have left the prefetch queue (at the first iteration of a repeated one). -/
def State.begin (s : State) : State :=
  { s with
    eip := s.nextIp, shadow := .none
    stale := if s.repeating.isSome then s.stale else ageStale s.cur.len s.stale }

/-- RUNS ONE INSTRUCTION whose effect also says how it ended. -/
def runEnding (lockable : Bool) (body : M Ending) (s : State) : Host.Outcome State Fault Refusal :=
  match (do lockCheck lockable; body) s.begin with
  | .ok (e, t) => .next (finish s t e)
  | .error (.exn e) => s.deliverExn s.nextIp e
  | .error .shutdown => .next s.shutDown
  | .error (.stop f) => .fault f

/-- Runs one instruction that simply completes. -/
def run (lockable : Bool) (body : M Unit) (s : State) : Host.Outcome State Fault Refusal :=
  runEnding lockable (do body; return .done) s

/-! ## Permission checks (spec/21_protection.md section 7) -/

/-- A privileged instruction needs CPL 0 (R175). -/
def privileged : M Unit := do
  let s ← get
  check (decide (s.cpl = 0)) gp0

/-- CLI, STI and, on the 80286, I/O need CPL ≤ IOPL (R176; in V86 mode CPL is 3: R775). -/
def ioplSensitive : M Unit := do
  let s ← get
  check (s.real || decide (s.cpl ≤ s.flags.iopl.toNat)) gp0

/-- The instructions that are IOPL-sensitive in V86 mode only (spec/61_tasks_v86_debug.md R775). -/
def v86Sensitive : M Unit := do
  let s ← get
  check (!s.v86 || decide (s.flags.iopl = 3)) gp0

/-- Not recognised in real and V86 mode (R180). -/
def protectedOnly : M Unit := do
  let s ← get
  check s.prot undefinedOpcode

/-- Bit of a port in the I/O permission map; outside the map it counts as 1 (R178, R179). -/
def portForbidden (map : Nat) (p : Nat) : M Bool := do
  let s ← get
  let off := map + p / 8
  if s.tr.limit.toNat < off then return true
  else
    let b ← sysRead (s.tr.base.toNat + off) 1
    return (leValue 8 b).getLsbD (p % 8)

/-- `BitmapCheck(port, n)` (R178). -/
def bitmapCheck (map : Nat) : Nat → Nat → M Unit
  | 0, _ => pure ()
  | n + 1, p => do
    let no ← portForbidden map p
    check (!no) gp0
    bitmapCheck map n (p + 1)

/-- `IoCheck(port, n)` (R178). DESIGN CHOICE: the map-offset word at TSS + 102 is read whatever the limit in TR, and the
offset is used as it stands, also outside 104 to DFFFh (log 90). -/
def ioCheck (p n : Nat) : M Unit := do
  let s ← get
  if s.real then pure ()
  else if s.level = 2 then check (decide (s.cpl ≤ s.flags.iopl.toNat)) gp0
  else if s.prot && decide (s.cpl ≤ s.flags.iopl.toNat) then pure ()
  else
    check s.tr.is386 gp0
    let map ← sysRead16 (s.tr.base.toNat + 102)
    bitmapCheck map.toNat n p

/-! ## Far transfers (spec/43_control_transfer.md R374, R382, R386, R387) -/

/-- A far transfer is a jump or a call. -/
inductive FarKind where
  | jmp | call
deriving DecidableEq, Repr

/-- The call pushes CS and the return address, `w` bits each. -/
def pushReturn (w : Nat) (cs : Word) (ret : Dword) : M Unit := do
  checkRoomIf w
  pushSelector w cs
  push (ret.setWidth w)
where
  /-- In protected mode the room is checked first (93 V13). -/
  checkRoomIf (w : Nat) : M Unit := do
    let s ← get
    if s.prot then checkRoom w 2 0 else pure ()

/-- Far transfer in real and V86 mode (R374, R382). -/
def far86 (kind : FarKind) (sel : Word) (off : Dword) : M Ending := do
  let s ← get
  let wide := s.op32
  check (s.targetOk (targetOf wide off)) gp0
  if kind = .call then pushReturn s.opWidth s.cs.sel s.eip
  modify fun s => s.loadCs86 sel
  jumpTo wide off
  return .done

/-- Checks of a direct transfer to a code segment (R387 a, spec/21_protection.md R143). -/
def codeReachable (s : State) (sel : Word) (d : Descriptor) : Bool :=
  if dConforming d then decide (dDpl d ≤ s.cpl) else decide (dDpl d = s.cpl) && decide (selRpl sel ≤ s.cpl)

/-- Runs a computation with the stack and the privilege level of an earlier state: the page and alignment checks of what it
reads are made at that level (DESIGN CHOICE, log 102). -/
def onStackOf {α : Type} (s0 : State) (m : M α) : M α := do
  let s ← get
  set { s with ss := s0.ss, regs := s0.regs, cs := s0.cs }
  let a ← m
  modify fun t => { t with ss := s.ss, regs := s.regs, cs := s.cs }
  return a

/-- Inter-level call through a gate (spec/21_protection.md R147): the stack of the new level, the old stack pointer, the
parameters read from the old stack and the return address on it. DESIGN CHOICE: the new stack is written at the new
level and the parameters are read at the caller's (log 102); an 80386 gate pushes the whole of ESP, from a 16-bit stack
too (log 97). -/
def callInner (gate : Descriptor) (sel : Word) (d : Descriptor) (a : Nat) : M Unit := do
  let s0 ← get
  let w := if gateIs386 gate then 32 else 16
  let cpl := dDpl d
  modify fun s => { s with cs := { s.cs with sel := selWithRpl s.cs.sel cpl } }
  let ss ← switchToInner cpl
  checkRoom w (4 + gateCount gate) (ss &&& 0xFFFC)
  pushSelector w s0.ss.sel
  push (s0.regs.esp.setWidth w)
  let params ← onStackOf s0 (readParams w (gateCount gate) 0)
  pushAll w params.reverse
  pushSelector w s0.cs.sel
  push (s0.eip.setWidth w)
  loadCs sel cpl d a
  jumpTo true (gateOffset gate)
where
  /-- The parameters on the caller's stack, the last pushed first. -/
  readParams (w : Nat) : Nat → Nat → M (List Dword)
    | 0, _ => pure []
    | n + 1, i => do
      let v ← peekStack w (w / 8 * i)
      let rest ← readParams w n (i + 1)
      return v.setWidth 32 :: rest
  /-- Pushes items of `w` bits in turn. -/
  pushAll (w : Nat) : List Dword → M Unit
    | [] => pure ()
    | v :: rest => do
      push (v.setWidth w)
      pushAll w rest

/-- A transfer through a call gate (R387 b). -/
def throughGate (kind : FarKind) (sel : Word) (gate : Descriptor) : M Ending := do
  let s ← get
  check (decide (max s.cpl (selRpl sel) ≤ dDpl gate)) (gpSel sel)
  check (dPresent gate) (faultSel 11 sel)
  let sel2 := gateSel gate
  check (!selNull sel2) gp0
  let (d, a) ← readDescriptor sel2 (gpSel sel2)
  check (dIsCode d && decide (dDpl d ≤ s.cpl)) (gpSel sel2)
  check (dPresent d) (faultSel 11 sel2)
  if kind = .call ∧ dConforming d = false ∧ dDpl d < s.cpl then callInner gate sel2 d a
  else
    check (decide (kind = .call) || dConforming d || decide (dDpl d = s.cpl)) (gpSel sel2)
    if kind = .call then pushReturn (if gateIs386 gate then 32 else 16) s.cs.sel s.eip
    loadCs sel2 s.cpl d a
    jumpTo true (gateOffset gate)
  return .done

/-- `FarTransfer(kind, sel, off)` in protected mode (R387). -/
def farProt (kind : FarKind) (sel : Word) (off : Dword) : M Ending := do
  let s ← get
  check (!selNull sel) gp0
  let (d, a) ← readDescriptor sel (gpSel sel)
  if dIsCode d then
    check (codeReachable s sel d) (gpSel sel)
    check (dPresent d) (faultSel 11 sel)
    let t := targetOf s.op32 off
    check (decide (t.toNat ≤ (dLimit s.level d).toNat)) gp0
    if kind = .call then pushReturn s.opWidth s.cs.sel s.eip
    loadCs sel s.cpl d a
    jumpTo s.op32 off
    return .done
  else if dHasType s.level d [4] [12] then throughGate kind sel d
  else if dHasType s.level d [1, 3] [9, 11] then
    check (decide (max s.cpl (selRpl sel) ≤ dDpl d)) (gpSel sel)
    taskSwitch (if kind = .call then .nest else .jump) sel none
    return .loadedRf
  else if dHasType s.level d [5] [] then
    check (decide (max s.cpl (selRpl sel) ≤ dDpl d)) (gpSel sel)
    check (dPresent d) (faultSel 11 sel)
    taskSwitch (if kind = .call then .nest else .jump) (gateSel d) none
    return .loadedRf
  else
    gpSel sel

/-- Far JMP or CALL in any mode. -/
def farTransfer (kind : FarKind) (sel : Word) (off : Dword) : M Ending := do
  let s ← get
  if s.prot then farProt kind sel off else far86 kind sel off

/-- The segment registers an outer level may not use are loaded with the null selector (R386 step 6). DESIGN CHOICE: one
that still holds its real-mode hidden part has the rights that part has, a data segment of DPL 0 (log 8). -/
def dropInner (r : SReg) : M Unit := modify fun s =>
  let g := s.seg r
  let usable := !g.valid ||
    (accIsCode g.access && accBit2 g.access) || decide (s.cpl ≤ accDpl g.access)
  if usable then s else s.setSeg r (g.loadNull 0)

/-- All four data segment registers (FS and GS do not exist before the 80386 and hold nothing then). -/
def dropInnerAll : M Unit := do
  dropInner .ds
  dropInner .es
  dropInner .fs
  dropInner .gs

/-- The checks of a return address popped in protected mode (R386 steps 2 and 3). -/
def returnTarget (sel : Word) (t : Dword) : M (Descriptor × Nat) := do
  let s ← get
  check (!selNull sel) gp0
  check (decide (s.cpl ≤ selRpl sel)) (gpSel sel)
  let (d, a) ← readDescriptor sel (gpSel sel)
  check (dIsCode d) (gpSel sel)
  check (if dConforming d then decide (dDpl d ≤ selRpl sel) else decide (dDpl d = selRpl sel)) (gpSel sel)
  check (dPresent d) (faultSel 11 sel)
  check (decide (t.toNat ≤ (dLimit s.level d).toNat)) gp0
  return (d, a)

/-- The return to an outer level: SS:SP from above `dist` bytes of the stack, then CS, and the data segment registers
checked (R386 steps 5 and 6); `extra` is added to the outer SP. DESIGN CHOICE: ESP takes the item with zeros above when the
outer stack is a 32-bit one, only SP when it is a 16-bit one (log 97). -/
def returnOuter (w dist : Nat) (extra : Dword) (sel : Word) (d : Descriptor) (a : Nat) : M Unit := do
  let sp ← peekStack w dist
  let ss ← peekSelector w (dist + w / 8)
  loadStackSeg 13 (selRpl sel) ss
  loadCs sel (selRpl sel) d a
  modify fun s => s.setSp (s.stackOff (sp.setWidth 32 + extra))
  dropInnerAll

/-- RETF in protected mode (R386): `n` parameter bytes are removed. -/
def retfProt (n : Word) : M Unit := do
  let s ← get
  let w := s.opWidth
  let off ← peekStack w 0
  let sel ← peekSelector w (w / 8)
  let t : Dword := off.setWidth 32
  let (d, a) ← returnTarget sel t
  if selRpl sel = s.cpl then
    addSp (BitVec.ofNat 32 (2 * (w / 8)) + n.setWidth 32)
    loadCs sel (selRpl sel) d a
  else returnOuter w (2 * (w / 8) + n.toNat) (n.setWidth 32) sel d a
  jumpTo true t

/-- RETF in real and V86 mode (R385). -/
def retf86 (n : Word) : M Unit := do
  let s ← get
  let w := s.opWidth
  let off ← pop w
  let sel ← popSelector w
  modify fun s => s.loadCs86 sel
  jumpTo s.op32 (off.setWidth 32)
  addSp (n.setWidth 32)

/-! ## Returning from an interrupt (spec/44_stack_flags_interrupt.md R423 to R425) -/

/-- Any IRET ends the blocking of NMI (spec/60_exceptions.md R677). -/
def unblockNmi : M Unit := modify fun s => { s with nmiBlocked := false }

/-- IRET in real mode, and in V86 mode with IOPL 3 (R423, R425, spec/61_tasks_v86_debug.md R774, R775). -/
def iret86 : M Unit := do
  v86Sensitive
  let s ← get
  let w := s.opWidth
  let off ← pop w
  let sel ← popSelector w
  let fl ← pop w
  modify fun s => s.loadCs86 sel
  jumpTo s.op32 (off.setWidth 32)
  modify fun t => { t with flags := s.iretFlags (fl.setWidth 32) s.op32 }

/-- IRET from level 0 into V86 mode (spec/61_tasks_v86_debug.md R771): nine doublewords are popped. -/
def iretToV86 : M Unit := do
  let s ← get
  check ((List.range 9).all fun i => s.ss.inLimit (s.stackOff (s.sp + BitVec.ofNat 32 (4 * i))).toNat 4)
    (raise (.fault 12 (some 0)))
  let eip ← pop 32
  let cs ← popSelector 32
  let fl ← pop 32
  let esp ← pop 32
  let ss ← popSelector 32
  let es ← popSelector 32
  let ds ← popSelector 32
  let fs ← popSelector 32
  let gs ← popSelector 32
  modify fun s =>
    { s with
      eip := eip, stale := []
      flags := Flags.ofImage fl s.level
      regs := { s.regs with esp := esp }
      cs := SegReg.v86 cs, ss := SegReg.v86 ss, es := SegReg.v86 es
      ds := SegReg.v86 ds, fs := SegReg.v86 fs, gs := SegReg.v86 gs, resetLatch := false }

/-- RETURNING FROM AN INTERRUPT in protected mode (R424). -/
def iretProt : M Unit := do
  let s ← get
  if s.flags.nt then returnToTask
  else
    let w := s.opWidth
    let b := w / 8
    let off ← peekStack w 0
    let sel ← peekSelector w b
    let fl : Dword := (← peekStack w (2 * b)).setWidth 32
    if s.op32 && fl.getLsbD 17 && decide (s.cpl = 0) then iretToV86
    else
      let t : Dword := off.setWidth 32
      let (d, a) ← returnTarget sel t
      if selRpl sel = s.cpl then
        addSp (BitVec.ofNat 32 (3 * b))
        loadCs sel (selRpl sel) d a
      else returnOuter w (3 * b) 0 sel d a
      jumpTo true t
      modify fun t => { t with flags := s.iretFlags fl s.op32 }

/-- IRET in any mode. RF stays as IRETD or the task switch loaded it; an IRET of 16 bits loads no RF and completes like other
instructions (spec/61_tasks_v86_debug.md R796 d). DESIGN CHOICE: a task switch that faults in the new task has not ended the
blocking of NMI (log 91). -/
def iretAny : M Ending := do
  let s ← get
  if s.prot then iretProt else iret86
  unblockNmi
  return if s.op32 || (s.prot && s.flags.nt) then .loadedRf else .done

end Sys2Proof.Machine
end

