-- ==== Sys2Proof/Machine/Operands.lean ====
section
/-! DEFINITION. Operands: effective addresses (spec/30_encoding.md R255 to R261), reading, writing and updating register
and memory operands, the conditions (spec/43_control_transfer.md R376), counters and string pointers. -/
namespace Sys2Proof

open Machine

/-! ## Effective addresses -/

/-- A byte displacement, sign-extended. -/
def sextByte (b : Byte) : Dword := b.signExtend 32

/-- The registers of a 16-bit form, added (R272). -/
def Base16.sum (g : Gpr) : Base16 → Dword
  | .bxsi => g.ebx + g.esi
  | .bxdi => g.ebx + g.edi
  | .bpsi => g.ebp + g.esi
  | .bpdi => g.ebp + g.edi
  | .si => g.esi
  | .di => g.edi
  | .bp => g.ebp
  | .bx => g.ebx

def Disp16.value : Disp16 → Dword
  | .none => 0
  | .d8 d => sextByte d
  | .d16 d => d.setWidth 32

def Disp32.value : Disp32 → Dword
  | .none => 0
  | .d8 d => sextByte d
  | .d32 d => d

/-- A scaled index; the number of ESP stands for no index (R273). -/
def scaled (g : Gpr) (scale : BitVec 2) (index : Reg) : Dword :=
  if index = .esp then 0 else g.get index <<< scale.toNat

/-- The low 16 bits, zero-extended. -/
def low16 (v : Dword) : Dword := (v.setWidth 16).setWidth 32

/-- The offset a memory operand names: modulo 2^16 for 16-bit forms (R257), 2^32 for 32-bit ones (R259). -/
def Mem.offset (g : Gpr) : Mem → Dword
  | .based16 b d => low16 (b.sum g + d.value)
  | .direct16 d => d.setWidth 32
  | .based32 b d => g.get b + d.value
  | .direct32 d => d
  | .sib sc i b d => g.get b + scaled g sc i + d.value
  | .sibNoBase sc i d => scaled g sc i + d

/-- The default segment: SS with BP, EBP or ESP as base, else DS (R255, R259). -/
def Mem.defaultSeg : Mem → SReg
  | .based16 b _ => match b with
    | .bpsi | .bpdi | .bp => .ss
    | .bxsi | .bxdi | .si | .di | .bx => .ds
  | .based32 b _ | .sib _ _ b _ => if b = .ebp ∨ b = .esp then .ss else .ds
  | .direct16 _ | .direct32 _ | .sibNoBase _ _ _ => .ds

def Rm8.isMem : Rm8 → Bool
  | .reg _ => false
  | .mem _ => true

def Rmv.isMem : Rmv → Bool
  | .reg _ => false
  | .mem _ => true

end Sys2Proof

namespace Sys2Proof.Machine

/-- The segment register of a memory operand: the override or the default (R243). -/
def State.memSeg (s : State) (m : Mem) : SReg := s.cur.seg.getD m.defaultSeg

/-- The offset of a memory operand in a state. -/
def State.memOff (s : State) (m : Mem) : Dword := m.offset s.regs

/-! ## Reading, writing, updating -/

/-- Runs a computation at the operand size (R246). -/
def sized {α : Type} (k : (w : Nat) → M α) : M α := fun s => k s.opWidth s

/-- Reads `w` bits of memory at an operand. -/
def memGet (w : Nat) (m : Mem) : M (BitVec w) := do
  let s ← get
  readMem w (s.memSeg m) (s.memOff m)

/-- Reads `w` bits at a distance above an operand's offset (the second part of a pointer or of bounds). The sum is exact
(spec/00_scope.md R8): past 2^32 it lies outside every segment (spec/21_protection.md R135). -/
def memGetAt (w : Nat) (m : Mem) (dist : Nat) : M (BitVec w) := do
  let s ← get
  check (decide ((s.memOff m).toNat + dist < 2 ^ 32)) (limitFault (s.memSeg m))
  readMem w (s.memSeg m) (s.memOff m + BitVec.ofNat 32 dist)

/-- Writes memory at an operand. -/
def memPut {w : Nat} (m : Mem) (v : BitVec w) : M Unit := do
  let s ← get
  writeMem (s.memSeg m) (s.memOff m) v

/-- Updates `w` bits of memory whose object has the alignment `boundary`: writability is checked before the read
(spec/20_memory.md R94). -/
def updateItem (w boundary : Nat) (r : SReg) (off : Dword) (f : BitVec w → M (BitVec w)) : M Unit := do
  let ps ← access r .update off (w / 8) boundary
  let a ← readPlaces ps
  let b ← f (leValue w a)
  writePlaces ps (valueBytes b)

/-- Updates `w` bits of memory, aligned to their own size. -/
def memUpdate (w : Nat) (r : SReg) (off : Dword) (f : BitVec w → M (BitVec w)) : M Unit := updateItem w (w / 8) r off f

/-- Reads a byte operand. -/
def get8 : Rm8 → M Byte
  | .reg r => getReg8 r
  | .mem m => memGet 8 m

/-- Writes a byte operand. -/
def put8 (d : Rm8) (v : Byte) : M Unit :=
  match d with
  | .reg r => putReg8 r v
  | .mem m => memPut m v

/-- Updates a byte operand. -/
def update8 (d : Rm8) (f : Byte → M Byte) : M Unit :=
  match d with
  | .reg r => do
    let a ← getReg8 r
    let b ← f a
    putReg8 r b
  | .mem m => do
    let s ← get
    memUpdate 8 (s.memSeg m) (s.memOff m) f

/-- Reads a word or doubleword operand. -/
def getv (w : Nat) : Rmv → M (BitVec w)
  | .reg r => getReg w r
  | .mem m => memGet w m

/-- Writes a word or doubleword operand. -/
def putv {w : Nat} (d : Rmv) (v : BitVec w) : M Unit :=
  match d with
  | .reg r => putReg r v
  | .mem m => memPut m v

/-- Updates a word or doubleword operand. -/
def updatev (w : Nat) (d : Rmv) (f : BitVec w → M (BitVec w)) : M Unit :=
  match d with
  | .reg r => do
    let a ← getReg w r
    let b ← f a
    putReg r b
  | .mem m => do
    let s ← get
    memUpdate w (s.memSeg m) (s.memOff m) f

/-- Stores a 16-bit system value in an operand: a register destination takes 16 bits (spec/47_286_instructions.md R531,
R535, R541). -/
def put16 (d : Rmv) (v : Word) : M Unit := putv d v

/-- A byte immediate, sign-extended to the operand size. -/
def immSext (w : Nat) (b : Byte) : BitVec w := b.signExtend w

/-- Replaces the flags. -/
def setFlags (f : Flags → Flags) : M Unit := modify fun s => { s with flags := f s.flags }

/-- Takes a value and flags: the flags are set, the value returned. -/
def withFlags {α : Type} (x : α × Flags) : M α := fun s => .ok (x.1, { s with flags := x.2 })

/-! ## Conditions (spec/43_control_transfer.md R376) -/

/-- The sixteen conditions. -/
inductive Cond where
  | o | no | b | ae | e | ne | be | a | s | ns | p | np | l | ge | le | g
deriving DecidableEq, Repr

/-- Whether a condition holds. -/
def Cond.holds (f : Flags) : Cond → Bool
  | .o => f.ovf
  | .no => !f.ovf
  | .b => f.cf
  | .ae => !f.cf
  | .e => f.zf
  | .ne => !f.zf
  | .be => f.cf || f.zf
  | .a => !f.cf && !f.zf
  | .s => f.sf
  | .ns => !f.sf
  | .p => f.pf
  | .np => !f.pf
  | .l => f.sf != f.ovf
  | .ge => f.sf == f.ovf
  | .le => f.zf || (f.sf != f.ovf)
  | .g => !f.zf && (f.sf == f.ovf)

/-! ## Counters and string pointers (spec/45_loop_io_data.md R443, spec/46_string_bcd_control.md R470) -/

/-- The width of counters and string pointers: AddrSize (spec/92_eei_decisions.md D21). -/
def State.addrWidth (s : State) : Nat := if s.addr32 then 32 else 16

/-- CX or ECX. -/
def State.counter (s : State) : Dword := (s.reg s.addrWidth .ecx).setWidth 32

/-- CX or ECX decremented, the upper half kept for CX. -/
def countDown : M Unit := modify fun s => s.setReg .ecx (s.reg s.addrWidth .ecx - 1)

/-- SI or ESI, DI or EDI, as an offset. -/
def State.pointer (s : State) (r : Reg) : Dword := (s.reg s.addrWidth r).setWidth 32

/-- A string pointer moved by an element of `n` bytes, in the direction DF gives (R470 c). -/
def advance (r : Reg) (n : Nat) : M Unit := modify fun s =>
  let old := s.reg s.addrWidth r
  s.setReg r (if s.flags.df then old - BitVec.ofNat _ n else old + BitVec.ofNat _ n)

/-- The source segment of a string instruction, XLAT or a direct address: DS unless overridden (R470 a). -/
def State.dataSeg (s : State) : SReg := s.cur.seg.getD .ds

/-- The offset of the instruction's first byte, seen from inside its effect. -/
def State.startIp (s : State) : Dword := s.eip - BitVec.ofNat 32 s.cur.len

end Sys2Proof.Machine
end

