-- ==== Sys2Proof/Machine/Arith.lean ====
section
/-! DEFINITION. ADD, ADC, SUB, SBB, CMP, INC, DEC, NEG, MUL, IMUL, DIV, IDIV, CBW, CWD (spec/41_arithmetic.md; the wide
forms of spec/47_286_instructions.md R510 and spec/48_386_instructions.md R585, R606, R607) and AND, OR, XOR, NOT, TEST
(spec/42_logic_rotate_shift.md). -/
namespace Sys2Proof.Machine

/-! ## Shared operations -/

/-- The two-operand operations that share their forms (R310, spec/42_logic_rotate_shift.md R340). -/
inductive Alu where
  | add | or | adc | sbb | and | sub | xor
deriving DecidableEq, Repr

/-- A logical result with its flags; AF is open (spec/42_logic_rotate_shift.md R341). -/
def logicResult {w : Nat} (r : BitVec w) : M (BitVec w) := do
  let af ← freeBool
  let s ← get
  withFlags (r, logicFlags s.flags r af)

/-- The result of an operation on destination `a` and source `b`; the flags are set. -/
def aluOp {w : Nat} (op : Alu) (a b : BitVec w) : M (BitVec w) := do
  let s ← get
  match op with
  | .add => withFlags (addOp s.flags a b false)
  | .adc => withFlags (addOp s.flags a b s.flags.cf)
  | .sub => withFlags (subOp s.flags a b false)
  | .sbb => withFlags (subOp s.flags a b s.flags.cf)
  | .and => logicResult (a &&& b)
  | .or => logicResult (a ||| b)
  | .xor => logicResult (a ^^^ b)

/-- `dest <- dest op src`, bytes. -/
def alu8 (op : Alu) (d : Rm8) (src : M Byte) : M Unit := do
  let b ← src
  update8 d fun a => aluOp op a b

/-- `dest <- dest op src`, words or doublewords. -/
def aluv (op : Alu) (d : Rmv) (src : (w : Nat) → M (BitVec w)) : M Unit := sized fun w => do
  let b ← src w
  updatev w d fun a => aluOp op a b

/-- CMP: the flags of `dest - src` (R326). -/
def compareFlags {w : Nat} (a b : BitVec w) : M Unit := setFlags fun f => (subOp f a b false).2

def cmp8 (d : Rm8) (src : M Byte) : M Unit := do
  let b ← src
  let a ← get8 d
  compareFlags a b

def cmpv (d : Rmv) (src : (w : Nat) → M (BitVec w)) : M Unit := sized fun w => do
  let b ← src w
  let a ← getv w d
  compareFlags a b

/-- TEST: the flags of `dest AND src` (spec/42_logic_rotate_shift.md R346). -/
def test8 (d : Rm8) (src : M Byte) : M Unit := do
  let b ← src
  let a ← get8 d
  let _ ← logicResult (a &&& b)

def testv (d : Rmv) (src : (w : Nat) → M (BitVec w)) : M Unit := sized fun w => do
  let b ← src w
  let a ← getv w d
  let _ ← logicResult (a &&& b)

/-- An immediate of the operand size as a source. -/
def immSrc (imm : Dword) (w : Nat) : M (BitVec w) := pure (imm.setWidth w)

/-- A sign-extended byte immediate as a source (R310). -/
def immSrc8 (imm : Byte) (w : Nat) : M (BitVec w) := pure (immSext w imm)

/-- A register as a source. -/
def regSrc (r : Reg) (w : Nat) : M (BitVec w) := getReg w r

/-- A register or memory operand as a source. -/
def rmSrc (m : Rmv) (w : Nat) : M (BitVec w) := getv w m

/-- The one-operand operations of the family. -/
inductive Unary where
  | inc | dec | neg | not
deriving DecidableEq, Repr

/-- INC and DEC leave CF (R315, R318), NEG is 0 - dest (R323), NOT changes no flag (spec/42_logic_rotate_shift.md R345). -/
def unaryOp {w : Nat} (op : Unary) (a : BitVec w) : M (BitVec w) := do
  let f := (← get).flags
  match op with
  | .inc => withFlags ((addOp f a 1 false).1, { (addOp f a 1 false).2 with cf := f.cf })
  | .dec => withFlags ((subOp f a 1 false).1, { (subOp f a 1 false).2 with cf := f.cf })
  | .neg => withFlags (subOp f 0 a false)
  | .not => return ~~~a

def unary8 (op : Unary) (d : Rm8) : M Unit := update8 d (unaryOp op)

def unaryv (op : Unary) (d : Rmv) : M Unit := sized fun w => updatev w d (unaryOp op)

/-! ## Multiplication (R319, R320) -/

/-- The double-length product. -/
def product {w : Nat} (signed : Bool) (a b : BitVec w) : BitVec (w + w) :=
  if signed then a.signExtend (w + w) * b.signExtend (w + w) else a.setWidth (w + w) * b.setWidth (w + w)

/-- CF and OF of a multiplication: the upper half is not the extension of the lower one. -/
def productWide {w : Nat} (signed : Bool) (p : BitVec (w + w)) : Bool :=
  decide (p ≠ if signed then (p.setWidth w).signExtend (w + w) else (p.setWidth w).setWidth (w + w))

/-- CF and OF set, the other four result flags open. -/
def mulFlags (wide : Bool) : M Unit := do
  let u ← freeBits 4
  setFlags fun f =>
    { f with cf := wide, ovf := wide, sf := u.getLsbD 0, zf := u.getLsbD 1, af := u.getLsbD 2, pf := u.getLsbD 3 }

/-- `AX <- AL * src`. -/
def mulAl (signed : Bool) (d : Rm8) : M Unit := do
  let b ← get8 d
  let a ← getReg 8 .eax
  let p := product signed a b
  putReg .eax p
  mulFlags (productWide signed p)

/-- `DX ++ AX <- AX * src`, `EDX ++ EAX <- EAX * src`. -/
def mulEax (signed : Bool) (d : Rmv) : M Unit := sized fun w => do
  let b ← getv w d
  let a ← getReg w .eax
  let p := product signed a b
  putReg .eax (p.setWidth w)
  putReg .edx ((p >>> w).setWidth w)
  mulFlags (productWide signed p)

/-- `dest <- trunc(a * b)`, signed (spec/47_286_instructions.md R510, spec/48_386_instructions.md R585). -/
def imulTo {w : Nat} (r : Reg) (a b : BitVec w) : M Unit := do
  let p := product true a b
  putReg r (p.setWidth w)
  mulFlags (productWide true p)

/-! ## Division (R321, R322, R327) -/

/-- Quotient and remainder, none when the quotient does not fit; on the 8086 the most negative one does not either
(spec/92_eei_decisions.md D20). -/
def divide {w : Nat} (signed : Bool) (level : Nat) (n : BitVec (w + w)) (d : BitVec w) : Option (BitVec w × BitVec w) :=
  if d = 0 then none
  else if signed then
    let q := n.toInt.tdiv d.toInt
    let lo : Int := -(2 ^ (w - 1) : Nat)
    if (lo < q ∨ (lo = q ∧ level ≠ 0)) ∧ q < (2 ^ (w - 1) : Nat) then
      some (BitVec.ofInt w q, BitVec.ofInt w (n.toInt.tmod d.toInt))
    else none
  else
    let q := n.toNat / d.toNat
    if q < 2 ^ w then some (BitVec.ofNat w q, BitVec.ofNat w (n.toNat % d.toNat)) else none

/-- All six result flags open. -/
def openFlags : M Unit := do
  let u ← freeBits 6
  setFlags fun f =>
    { f with
      cf := u.getLsbD 0, pf := u.getLsbD 1, af := u.getLsbD 2, zf := u.getLsbD 3, sf := u.getLsbD 4, ovf := u.getLsbD 5 }

/-- INT 0. -/
def divideError {α : Type} : M α := raise (.fault 0 none)

/-- `AL <- AX / src; AH <- AX mod src`. -/
def divAx (signed : Bool) (d : Rm8) : M Unit := do
  let b ← get8 d
  let s ← get
  match divide signed s.level (s.reg 16 .eax : BitVec (8 + 8)) b with
  | none => divideError
  | some (q, r) =>
    putReg8 .al q
    putReg8 .ah r
    openFlags

/-- `AX <- DX ++ AX / src; DX <- DX ++ AX mod src`, or with EAX and EDX. -/
def divEax (signed : Bool) (d : Rmv) : M Unit := sized fun w => do
  let b ← getv w d
  let s ← get
  match divide signed s.level (s.reg w .edx ++ s.reg w .eax) b with
  | none => divideError
  | some (q, r) =>
    putReg .eax q
    putReg .edx r
    openFlags

/-- CBW, CWDE (R324, spec/48_386_instructions.md R607). -/
def convertByte : M Unit := do
  let s ← get
  if s.op32 then putReg .eax ((s.reg 16 .eax).signExtend 32) else putReg .eax ((s.reg 8 .eax).signExtend 16)

/-- CWD, CDQ (R325, spec/48_386_instructions.md R606). -/
def convertWord : M Unit := sized fun w => do
  let a ← getReg w .eax
  putReg .edx (if a.msb then BitVec.allOnes w else 0)

/-- IMUL with three operands (spec/47_286_instructions.md R510). -/
def imul3 (r : Reg) (m : Rmv) (imm : (w : Nat) → BitVec w) : M Unit := sized fun w => do
  let a ← getv w m
  imulTo r a (imm w)

/-- IMUL with two operands (spec/48_386_instructions.md R585). -/
def imul2 (r : Reg) (m : Rmv) : M Unit := sized fun w => do
  let b ← getv w m
  let a ← getReg w r
  imulTo r a b

/-! ## The instructions -/

/-- `ADD_r_m8_r8`, R313. -/
def execAddRm8R8 (d : Rm8) (r : Reg8) (s : State) : Host.Outcome State Fault Refusal :=
  run d.isMem (alu8 .add d (getReg8 r)) s

/-- `ADD_r_mv_rv`, R313. -/
def execAddRmvRv (d : Rmv) (r : Reg) (s : State) : Host.Outcome State Fault Refusal :=
  run d.isMem (aluv .add d (regSrc r)) s

/-- `ADD_r8_r_m8`, R313. -/
def execAddR8Rm8 (r : Reg8) (m : Rm8) (s : State) : Host.Outcome State Fault Refusal :=
  run false (alu8 .add (.reg r) (get8 m)) s

/-- `ADD_rv_r_mv`, R313. -/
def execAddRvRmv (r : Reg) (m : Rmv) (s : State) : Host.Outcome State Fault Refusal :=
  run false (aluv .add (.reg r) (rmSrc m)) s

/-- `ADD_AL_imm8`, R313. -/
def execAddAlImm8 (imm : Byte) (s : State) : Host.Outcome State Fault Refusal :=
  run false (alu8 .add (.reg .al) (pure imm)) s

/-- `ADD_eAX_immv`, R313. -/
def execAddEaxImmv (imm : Dword) (s : State) : Host.Outcome State Fault Refusal :=
  run false (aluv .add (.reg .eax) (immSrc imm)) s

/-- `ADD_r_m8_imm8`, R313. -/
def execAddRm8Imm8 (d : Rm8) (imm : Byte) (s : State) : Host.Outcome State Fault Refusal :=
  run d.isMem (alu8 .add d (pure imm)) s

/-- `ADD_r_m8_imm8__alias_opcode_82`, R313. -/
def execAddRm8Imm8Alias82 (d : Rm8) (imm : Byte) (s : State) : Host.Outcome State Fault Refusal :=
  run d.isMem (alu8 .add d (pure imm)) s

/-- `ADD_r_mv_immv`, R313. -/
def execAddRmvImmv (d : Rmv) (imm : Dword) (s : State) : Host.Outcome State Fault Refusal :=
  run d.isMem (aluv .add d (immSrc imm)) s

/-- `ADD_r_mv_imm8__sign-extended`, R313. -/
def execAddRmvImm8s (d : Rmv) (imm : Byte) (s : State) : Host.Outcome State Fault Refusal :=
  run d.isMem (aluv .add d (immSrc8 imm)) s

/-- `OR_r_m8_r8`, R343. -/
def execOrRm8R8 (d : Rm8) (r : Reg8) (s : State) : Host.Outcome State Fault Refusal :=
  run d.isMem (alu8 .or d (getReg8 r)) s

/-- `OR_r_mv_rv`, R343. -/
def execOrRmvRv (d : Rmv) (r : Reg) (s : State) : Host.Outcome State Fault Refusal :=
  run d.isMem (aluv .or d (regSrc r)) s

/-- `OR_r8_r_m8`, R343. -/
def execOrR8Rm8 (r : Reg8) (m : Rm8) (s : State) : Host.Outcome State Fault Refusal :=
  run false (alu8 .or (.reg r) (get8 m)) s

/-- `OR_rv_r_mv`, R343. -/
def execOrRvRmv (r : Reg) (m : Rmv) (s : State) : Host.Outcome State Fault Refusal :=
  run false (aluv .or (.reg r) (rmSrc m)) s

/-- `OR_AL_imm8`, R343. -/
def execOrAlImm8 (imm : Byte) (s : State) : Host.Outcome State Fault Refusal :=
  run false (alu8 .or (.reg .al) (pure imm)) s

/-- `OR_eAX_immv`, R343. -/
def execOrEaxImmv (imm : Dword) (s : State) : Host.Outcome State Fault Refusal :=
  run false (aluv .or (.reg .eax) (immSrc imm)) s

/-- `OR_r_m8_imm8`, R343. -/
def execOrRm8Imm8 (d : Rm8) (imm : Byte) (s : State) : Host.Outcome State Fault Refusal :=
  run d.isMem (alu8 .or d (pure imm)) s

/-- `OR_r_m8_imm8__alias_opcode_82`, R343. -/
def execOrRm8Imm8Alias82 (d : Rm8) (imm : Byte) (s : State) : Host.Outcome State Fault Refusal :=
  run d.isMem (alu8 .or d (pure imm)) s

/-- `OR_r_mv_immv`, R343. -/
def execOrRmvImmv (d : Rmv) (imm : Dword) (s : State) : Host.Outcome State Fault Refusal :=
  run d.isMem (aluv .or d (immSrc imm)) s

/-- `OR_r_mv_imm8__sign-extended`, R343. -/
def execOrRmvImm8s (d : Rmv) (imm : Byte) (s : State) : Host.Outcome State Fault Refusal :=
  run d.isMem (aluv .or d (immSrc8 imm)) s

/-- `ADC_r_m8_r8`, R314. -/
def execAdcRm8R8 (d : Rm8) (r : Reg8) (s : State) : Host.Outcome State Fault Refusal :=
  run d.isMem (alu8 .adc d (getReg8 r)) s

/-- `ADC_r_mv_rv`, R314. -/
def execAdcRmvRv (d : Rmv) (r : Reg) (s : State) : Host.Outcome State Fault Refusal :=
  run d.isMem (aluv .adc d (regSrc r)) s

/-- `ADC_r8_r_m8`, R314. -/
def execAdcR8Rm8 (r : Reg8) (m : Rm8) (s : State) : Host.Outcome State Fault Refusal :=
  run false (alu8 .adc (.reg r) (get8 m)) s

/-- `ADC_rv_r_mv`, R314. -/
def execAdcRvRmv (r : Reg) (m : Rmv) (s : State) : Host.Outcome State Fault Refusal :=
  run false (aluv .adc (.reg r) (rmSrc m)) s

/-- `ADC_AL_imm8`, R314. -/
def execAdcAlImm8 (imm : Byte) (s : State) : Host.Outcome State Fault Refusal :=
  run false (alu8 .adc (.reg .al) (pure imm)) s

/-- `ADC_eAX_immv`, R314. -/
def execAdcEaxImmv (imm : Dword) (s : State) : Host.Outcome State Fault Refusal :=
  run false (aluv .adc (.reg .eax) (immSrc imm)) s

/-- `ADC_r_m8_imm8`, R314. -/
def execAdcRm8Imm8 (d : Rm8) (imm : Byte) (s : State) : Host.Outcome State Fault Refusal :=
  run d.isMem (alu8 .adc d (pure imm)) s

/-- `ADC_r_m8_imm8__alias_opcode_82`, R314. -/
def execAdcRm8Imm8Alias82 (d : Rm8) (imm : Byte) (s : State) : Host.Outcome State Fault Refusal :=
  run d.isMem (alu8 .adc d (pure imm)) s

/-- `ADC_r_mv_immv`, R314. -/
def execAdcRmvImmv (d : Rmv) (imm : Dword) (s : State) : Host.Outcome State Fault Refusal :=
  run d.isMem (aluv .adc d (immSrc imm)) s

/-- `ADC_r_mv_imm8__sign-extended`, R314. -/
def execAdcRmvImm8s (d : Rmv) (imm : Byte) (s : State) : Host.Outcome State Fault Refusal :=
  run d.isMem (aluv .adc d (immSrc8 imm)) s

/-- `SBB_r_m8_r8`, R317. -/
def execSbbRm8R8 (d : Rm8) (r : Reg8) (s : State) : Host.Outcome State Fault Refusal :=
  run d.isMem (alu8 .sbb d (getReg8 r)) s

/-- `SBB_r_mv_rv`, R317. -/
def execSbbRmvRv (d : Rmv) (r : Reg) (s : State) : Host.Outcome State Fault Refusal :=
  run d.isMem (aluv .sbb d (regSrc r)) s

/-- `SBB_r8_r_m8`, R317. -/
def execSbbR8Rm8 (r : Reg8) (m : Rm8) (s : State) : Host.Outcome State Fault Refusal :=
  run false (alu8 .sbb (.reg r) (get8 m)) s

/-- `SBB_rv_r_mv`, R317. -/
def execSbbRvRmv (r : Reg) (m : Rmv) (s : State) : Host.Outcome State Fault Refusal :=
  run false (aluv .sbb (.reg r) (rmSrc m)) s

/-- `SBB_AL_imm8`, R317. -/
def execSbbAlImm8 (imm : Byte) (s : State) : Host.Outcome State Fault Refusal :=
  run false (alu8 .sbb (.reg .al) (pure imm)) s

/-- `SBB_eAX_immv`, R317. -/
def execSbbEaxImmv (imm : Dword) (s : State) : Host.Outcome State Fault Refusal :=
  run false (aluv .sbb (.reg .eax) (immSrc imm)) s

/-- `SBB_r_m8_imm8`, R317. -/
def execSbbRm8Imm8 (d : Rm8) (imm : Byte) (s : State) : Host.Outcome State Fault Refusal :=
  run d.isMem (alu8 .sbb d (pure imm)) s

/-- `SBB_r_m8_imm8__alias_opcode_82`, R317. -/
def execSbbRm8Imm8Alias82 (d : Rm8) (imm : Byte) (s : State) : Host.Outcome State Fault Refusal :=
  run d.isMem (alu8 .sbb d (pure imm)) s

/-- `SBB_r_mv_immv`, R317. -/
def execSbbRmvImmv (d : Rmv) (imm : Dword) (s : State) : Host.Outcome State Fault Refusal :=
  run d.isMem (aluv .sbb d (immSrc imm)) s

/-- `SBB_r_mv_imm8__sign-extended`, R317. -/
def execSbbRmvImm8s (d : Rmv) (imm : Byte) (s : State) : Host.Outcome State Fault Refusal :=
  run d.isMem (aluv .sbb d (immSrc8 imm)) s

/-- `AND_r_m8_r8`, R342. -/
def execAndRm8R8 (d : Rm8) (r : Reg8) (s : State) : Host.Outcome State Fault Refusal :=
  run d.isMem (alu8 .and d (getReg8 r)) s

/-- `AND_r_mv_rv`, R342. -/
def execAndRmvRv (d : Rmv) (r : Reg) (s : State) : Host.Outcome State Fault Refusal :=
  run d.isMem (aluv .and d (regSrc r)) s

/-- `AND_r8_r_m8`, R342. -/
def execAndR8Rm8 (r : Reg8) (m : Rm8) (s : State) : Host.Outcome State Fault Refusal :=
  run false (alu8 .and (.reg r) (get8 m)) s

/-- `AND_rv_r_mv`, R342. -/
def execAndRvRmv (r : Reg) (m : Rmv) (s : State) : Host.Outcome State Fault Refusal :=
  run false (aluv .and (.reg r) (rmSrc m)) s

/-- `AND_AL_imm8`, R342. -/
def execAndAlImm8 (imm : Byte) (s : State) : Host.Outcome State Fault Refusal :=
  run false (alu8 .and (.reg .al) (pure imm)) s

/-- `AND_eAX_immv`, R342. -/
def execAndEaxImmv (imm : Dword) (s : State) : Host.Outcome State Fault Refusal :=
  run false (aluv .and (.reg .eax) (immSrc imm)) s

/-- `AND_r_m8_imm8`, R342. -/
def execAndRm8Imm8 (d : Rm8) (imm : Byte) (s : State) : Host.Outcome State Fault Refusal :=
  run d.isMem (alu8 .and d (pure imm)) s

/-- `AND_r_m8_imm8__alias_opcode_82`, R342. -/
def execAndRm8Imm8Alias82 (d : Rm8) (imm : Byte) (s : State) : Host.Outcome State Fault Refusal :=
  run d.isMem (alu8 .and d (pure imm)) s

/-- `AND_r_mv_immv`, R342. -/
def execAndRmvImmv (d : Rmv) (imm : Dword) (s : State) : Host.Outcome State Fault Refusal :=
  run d.isMem (aluv .and d (immSrc imm)) s

/-- `AND_r_mv_imm8__sign-extended`, R342. -/
def execAndRmvImm8s (d : Rmv) (imm : Byte) (s : State) : Host.Outcome State Fault Refusal :=
  run d.isMem (aluv .and d (immSrc8 imm)) s

/-- `SUB_r_m8_r8`, R316. -/
def execSubRm8R8 (d : Rm8) (r : Reg8) (s : State) : Host.Outcome State Fault Refusal :=
  run d.isMem (alu8 .sub d (getReg8 r)) s

/-- `SUB_r_mv_rv`, R316. -/
def execSubRmvRv (d : Rmv) (r : Reg) (s : State) : Host.Outcome State Fault Refusal :=
  run d.isMem (aluv .sub d (regSrc r)) s

/-- `SUB_r8_r_m8`, R316. -/
def execSubR8Rm8 (r : Reg8) (m : Rm8) (s : State) : Host.Outcome State Fault Refusal :=
  run false (alu8 .sub (.reg r) (get8 m)) s

/-- `SUB_rv_r_mv`, R316. -/
def execSubRvRmv (r : Reg) (m : Rmv) (s : State) : Host.Outcome State Fault Refusal :=
  run false (aluv .sub (.reg r) (rmSrc m)) s

/-- `SUB_AL_imm8`, R316. -/
def execSubAlImm8 (imm : Byte) (s : State) : Host.Outcome State Fault Refusal :=
  run false (alu8 .sub (.reg .al) (pure imm)) s

/-- `SUB_eAX_immv`, R316. -/
def execSubEaxImmv (imm : Dword) (s : State) : Host.Outcome State Fault Refusal :=
  run false (aluv .sub (.reg .eax) (immSrc imm)) s

/-- `SUB_r_m8_imm8`, R316. -/
def execSubRm8Imm8 (d : Rm8) (imm : Byte) (s : State) : Host.Outcome State Fault Refusal :=
  run d.isMem (alu8 .sub d (pure imm)) s

/-- `SUB_r_m8_imm8__alias_opcode_82`, R316. -/
def execSubRm8Imm8Alias82 (d : Rm8) (imm : Byte) (s : State) : Host.Outcome State Fault Refusal :=
  run d.isMem (alu8 .sub d (pure imm)) s

/-- `SUB_r_mv_immv`, R316. -/
def execSubRmvImmv (d : Rmv) (imm : Dword) (s : State) : Host.Outcome State Fault Refusal :=
  run d.isMem (aluv .sub d (immSrc imm)) s

/-- `SUB_r_mv_imm8__sign-extended`, R316. -/
def execSubRmvImm8s (d : Rmv) (imm : Byte) (s : State) : Host.Outcome State Fault Refusal :=
  run d.isMem (aluv .sub d (immSrc8 imm)) s

/-- `XOR_r_m8_r8`, R344. -/
def execXorRm8R8 (d : Rm8) (r : Reg8) (s : State) : Host.Outcome State Fault Refusal :=
  run d.isMem (alu8 .xor d (getReg8 r)) s

/-- `XOR_r_mv_rv`, R344. -/
def execXorRmvRv (d : Rmv) (r : Reg) (s : State) : Host.Outcome State Fault Refusal :=
  run d.isMem (aluv .xor d (regSrc r)) s

/-- `XOR_r8_r_m8`, R344. -/
def execXorR8Rm8 (r : Reg8) (m : Rm8) (s : State) : Host.Outcome State Fault Refusal :=
  run false (alu8 .xor (.reg r) (get8 m)) s

/-- `XOR_rv_r_mv`, R344. -/
def execXorRvRmv (r : Reg) (m : Rmv) (s : State) : Host.Outcome State Fault Refusal :=
  run false (aluv .xor (.reg r) (rmSrc m)) s

/-- `XOR_AL_imm8`, R344. -/
def execXorAlImm8 (imm : Byte) (s : State) : Host.Outcome State Fault Refusal :=
  run false (alu8 .xor (.reg .al) (pure imm)) s

/-- `XOR_eAX_immv`, R344. -/
def execXorEaxImmv (imm : Dword) (s : State) : Host.Outcome State Fault Refusal :=
  run false (aluv .xor (.reg .eax) (immSrc imm)) s

/-- `XOR_r_m8_imm8`, R344. -/
def execXorRm8Imm8 (d : Rm8) (imm : Byte) (s : State) : Host.Outcome State Fault Refusal :=
  run d.isMem (alu8 .xor d (pure imm)) s

/-- `XOR_r_m8_imm8__alias_opcode_82`, R344. -/
def execXorRm8Imm8Alias82 (d : Rm8) (imm : Byte) (s : State) : Host.Outcome State Fault Refusal :=
  run d.isMem (alu8 .xor d (pure imm)) s

/-- `XOR_r_mv_immv`, R344. -/
def execXorRmvImmv (d : Rmv) (imm : Dword) (s : State) : Host.Outcome State Fault Refusal :=
  run d.isMem (aluv .xor d (immSrc imm)) s

/-- `XOR_r_mv_imm8__sign-extended`, R344. -/
def execXorRmvImm8s (d : Rmv) (imm : Byte) (s : State) : Host.Outcome State Fault Refusal :=
  run d.isMem (aluv .xor d (immSrc8 imm)) s

/-- `CMP_r_m8_r8`, R326. -/
def execCmpRm8R8 (d : Rm8) (r : Reg8) (s : State) : Host.Outcome State Fault Refusal :=
  run false (cmp8 d (getReg8 r)) s

/-- `CMP_r_mv_rv`, R326. -/
def execCmpRmvRv (d : Rmv) (r : Reg) (s : State) : Host.Outcome State Fault Refusal :=
  run false (cmpv d (regSrc r)) s

/-- `CMP_r8_r_m8`, R326. -/
def execCmpR8Rm8 (r : Reg8) (m : Rm8) (s : State) : Host.Outcome State Fault Refusal :=
  run false (cmp8 (.reg r) (get8 m)) s

/-- `CMP_rv_r_mv`, R326. -/
def execCmpRvRmv (r : Reg) (m : Rmv) (s : State) : Host.Outcome State Fault Refusal :=
  run false (cmpv (.reg r) (rmSrc m)) s

/-- `CMP_AL_imm8`, R326. -/
def execCmpAlImm8 (imm : Byte) (s : State) : Host.Outcome State Fault Refusal :=
  run false (cmp8 (.reg .al) (pure imm)) s

/-- `CMP_eAX_immv`, R326. -/
def execCmpEaxImmv (imm : Dword) (s : State) : Host.Outcome State Fault Refusal :=
  run false (cmpv (.reg .eax) (immSrc imm)) s

/-- `CMP_r_m8_imm8`, R326. -/
def execCmpRm8Imm8 (d : Rm8) (imm : Byte) (s : State) : Host.Outcome State Fault Refusal :=
  run false (cmp8 d (pure imm)) s

/-- `CMP_r_m8_imm8__alias_opcode_82`, R326. -/
def execCmpRm8Imm8Alias82 (d : Rm8) (imm : Byte) (s : State) : Host.Outcome State Fault Refusal :=
  run false (cmp8 d (pure imm)) s

/-- `CMP_r_mv_immv`, R326. -/
def execCmpRmvImmv (d : Rmv) (imm : Dword) (s : State) : Host.Outcome State Fault Refusal :=
  run false (cmpv d (immSrc imm)) s

/-- `CMP_r_mv_imm8__sign-extended`, R326. -/
def execCmpRmvImm8s (d : Rmv) (imm : Byte) (s : State) : Host.Outcome State Fault Refusal :=
  run false (cmpv d (immSrc8 imm)) s

/-- `INC_rv`, R315. -/
def execIncRv (r : Reg) (s : State) : Host.Outcome State Fault Refusal :=
  run false (unaryv .inc (.reg r)) s

/-- `DEC_rv`, R318. -/
def execDecRv (r : Reg) (s : State) : Host.Outcome State Fault Refusal :=
  run false (unaryv .dec (.reg r)) s

/-- `INC_r_m8`, R315. -/
def execIncRm8 (d : Rm8) (s : State) : Host.Outcome State Fault Refusal :=
  run d.isMem (unary8 .inc d) s

/-- `INC_r_mv`, R315. -/
def execIncRmv (d : Rmv) (s : State) : Host.Outcome State Fault Refusal :=
  run d.isMem (unaryv .inc d) s

/-- `DEC_r_m8`, R318. -/
def execDecRm8 (d : Rm8) (s : State) : Host.Outcome State Fault Refusal :=
  run d.isMem (unary8 .dec d) s

/-- `DEC_r_mv`, R318. -/
def execDecRmv (d : Rmv) (s : State) : Host.Outcome State Fault Refusal :=
  run d.isMem (unaryv .dec d) s

/-- `NEG_r_m8`, R323. -/
def execNegRm8 (d : Rm8) (s : State) : Host.Outcome State Fault Refusal :=
  run d.isMem (unary8 .neg d) s

/-- `NEG_r_mv`, R323. -/
def execNegRmv (d : Rmv) (s : State) : Host.Outcome State Fault Refusal :=
  run d.isMem (unaryv .neg d) s

/-- `NOT_r_m8`, R345. -/
def execNotRm8 (d : Rm8) (s : State) : Host.Outcome State Fault Refusal :=
  run d.isMem (unary8 .not d) s

/-- `NOT_r_mv`, R345. -/
def execNotRmv (d : Rmv) (s : State) : Host.Outcome State Fault Refusal :=
  run d.isMem (unaryv .not d) s

/-- `TEST_r_m8_r8`, R346. -/
def execTestRm8R8 (d : Rm8) (r : Reg8) (s : State) : Host.Outcome State Fault Refusal :=
  run false (test8 d (getReg8 r)) s

/-- `TEST_r_mv_rv`, R346. -/
def execTestRmvRv (d : Rmv) (r : Reg) (s : State) : Host.Outcome State Fault Refusal :=
  run false (testv d (regSrc r)) s

/-- `TEST_AL_imm8`, R346. -/
def execTestAlImm8 (imm : Byte) (s : State) : Host.Outcome State Fault Refusal :=
  run false (test8 (.reg .al) (pure imm)) s

/-- `TEST_eAX_immv`, R346. -/
def execTestEaxImmv (imm : Dword) (s : State) : Host.Outcome State Fault Refusal :=
  run false (testv (.reg .eax) (immSrc imm)) s

/-- `TEST_r_m8_imm8`, R346. -/
def execTestRm8Imm8 (d : Rm8) (imm : Byte) (s : State) : Host.Outcome State Fault Refusal :=
  run false (test8 d (pure imm)) s

/-- `TEST_r_mv_immv`, R346. -/
def execTestRmvImmv (d : Rmv) (imm : Dword) (s : State) : Host.Outcome State Fault Refusal :=
  run false (testv d (immSrc imm)) s

/-- `MUL_r_m8`, R320. -/
def execMulRm8 (d : Rm8) (s : State) : Host.Outcome State Fault Refusal :=
  run false (mulAl false d) s

/-- `MUL_r_mv`, R320. -/
def execMulRmv (d : Rmv) (s : State) : Host.Outcome State Fault Refusal :=
  run false (mulEax false d) s

/-- `IMUL_r_m8`, R319. -/
def execImulRm8 (d : Rm8) (s : State) : Host.Outcome State Fault Refusal :=
  run false (mulAl true d) s

/-- `IMUL_r_mv`, R319. -/
def execImulRmv (d : Rmv) (s : State) : Host.Outcome State Fault Refusal :=
  run false (mulEax true d) s

/-- `DIV_r_m8`, R322. -/
def execDivRm8 (d : Rm8) (s : State) : Host.Outcome State Fault Refusal :=
  run false (divAx false d) s

/-- `DIV_r_mv`, R322. -/
def execDivRmv (d : Rmv) (s : State) : Host.Outcome State Fault Refusal :=
  run false (divEax false d) s

/-- `IDIV_r_m8`, R321. -/
def execIdivRm8 (d : Rm8) (s : State) : Host.Outcome State Fault Refusal :=
  run false (divAx true d) s

/-- `IDIV_r_mv`, R321. -/
def execIdivRmv (d : Rmv) (s : State) : Host.Outcome State Fault Refusal :=
  run false (divEax true d) s

/-- `IMUL_rv_r_mv_immv`, R510. -/
def execImulRvRmvImmv (r : Reg) (m : Rmv) (imm : Dword) (s : State) : Host.Outcome State Fault Refusal :=
  run false (imul3 r m fun w => imm.setWidth w) s

/-- `IMUL_rv_r_mv_imm8__sign-extended`, R510. -/
def execImulRvRmvImm8s (r : Reg) (m : Rmv) (imm : Byte) (s : State) : Host.Outcome State Fault Refusal :=
  run false (imul3 r m fun w => immSext w imm) s

/-- `IMUL_rv_r_mv`, R585. -/
def execImulRvRmv (r : Reg) (m : Rmv) (s : State) : Host.Outcome State Fault Refusal :=
  run false (imul2 r m) s

/-- `CBW_CWDE`, R324. -/
def execCbw (s : State) : Host.Outcome State Fault Refusal :=
  run false convertByte s

/-- `CWD_CDQ`, R325. -/
def execCwd (s : State) : Host.Outcome State Fault Refusal :=
  run false convertWord s

end Sys2Proof.Machine
end

