-- ==== Sys2Proof/Machine/Transfer.lean ====
section
/-! DEFINITION. Data transfer: MOV (spec/40_mov.md), XCHG, XLAT, LEA, LDS, LES, IN, OUT (spec/45_loop_io_data.md), LFS,
LGS, LSS, MOVSX, MOVZX (spec/48_386_instructions.md), BSWAP, XADD, CMPXCHG (spec/49_486_fpu_instructions.md). -/
namespace Sys2Proof.Machine

/-! ## Shared operations -/

/-- MOV of bytes. -/
def mov8 (d : Rm8) (src : M Byte) : M Unit := do
  let v ← src
  put8 d v

/-- MOV of words or doublewords. -/
def movv (d : Rmv) (src : (w : Nat) → M (BitVec w)) : M Unit := sized fun w => do
  let v ← src w
  putv d v

/-- A direct offset in memory, read or written through DS or the override. -/
def moffsGet (w : Nat) (off : Dword) : M (BitVec w) := do
  let s ← get
  readMem w s.dataSeg off

def moffsPut {w : Nat} (off : Dword) (v : BitVec w) : M Unit := do
  let s ← get
  writeMem s.dataSeg off v

/-- Loads a segment register by MOV or POP; SS opens the interrupt shadow (spec/40_mov.md R304). The single-step trap after
it is skipped, from the 80286 for SS only (R307, spec/60_exceptions.md R701, 93 V11). -/
def loadSegShadow (r : SReg) (sel : Word) : M Ending := do
  loadSeg r sel
  if r = .ss then modify fun s => { s with shadow := .ss }
  return if (← get).level = 0 ∨ r = .ss then .noStep else .done

/-- MOV Sreg,r/m16: CS is no destination (R301). -/
def movToSeg (r : SReg) (m : Rmv) : M Ending := do
  check (decide (r ≠ .cs)) undefinedOpcode
  let v ← getv 16 m
  loadSegShadow r v

/-- MOV r/m16,Sreg: a 32-bit register destination has an open upper half (R302). -/
def movFromSeg (d : Rmv) (r : SReg) : M Unit := do
  let v := ((← get).seg r).sel
  match d with
  | .mem m => memPut m v
  | .reg q => sized fun w => do
    let x ← slotOf w v
    putReg q x

/-- LDS, LES, LFS, LGS, LSS (spec/45_loop_io_data.md R454, spec/48_386_instructions.md R590). -/
def loadPointer (g : SReg) (r : Reg) (m : Mem) : M Unit := sized fun w => do
  let off ← memGet w m
  let sel ← memGetAt 16 m (w / 8)
  loadSeg g sel
  putReg r off

/-- XCHG (spec/45_loop_io_data.md R447). -/
def exchange8 (d : Rm8) (r : Reg8) : M Unit := update8 d fun a => do
  let b ← getReg8 r
  putReg8 r a
  return b

def exchangev (d : Rmv) (r : Reg) : M Unit := sized fun w => updatev w d fun a => do
  let b ← getReg w r
  putReg r a
  return b

/-- XLAT (R452). -/
def translateByte : M Unit := do
  let s ← get
  let sum := s.regs.ebx + (s.reg 8 .eax).setWidth 32
  let v ← readMem 8 s.dataSeg (if s.addr32 then sum else low16 sum)
  putReg .eax v

/-- LEA (R453): the offset alone, cut or extended to the operand size. -/
def loadAddress (r : Reg) (m : Mem) : M Unit := sized fun w => do
  let s ← get
  putReg r ((s.memOff m).setWidth w)

/-- IN (R444): `w` bits from a port to the accumulator. -/
def inPort (w : Nat) (port : Nat) : M Unit := do
  ioCheck port (w / 8)
  let bs ← ioRead (w / 8) port
  putReg .eax (leValue w bs)

/-- OUT (R445). -/
def outPort (w : Nat) (port : Nat) : M Unit := do
  ioCheck port (w / 8)
  let v ← getReg w .eax
  ioWrite (valueBytes v) port

/-- The port number in DX. -/
def State.dxPort (s : State) : Nat := (s.reg 16 .edx).toNat

/-- MOVSX or MOVZX from a byte or word to the operand size (spec/48_386_instructions.md R610, R611). -/
def extendTo {n : Nat} (signed : Bool) (r : Reg) (v : BitVec n) : M Unit := sized fun w =>
  putReg r (if signed then v.signExtend w else v.setWidth w)

/-- BSWAP (spec/49_486_fpu_instructions.md R630). -/
def swapBytes (v : Dword) : Dword := v.extractLsb' 0 8 ++ v.extractLsb' 8 8 ++ v.extractLsb' 16 8 ++ v.extractLsb' 24 8

/-- XADD (R631): the destination is written last. -/
def exchangeAdd8 (d : Rm8) (r : Reg8) : M Unit := update8 d fun a => do
  let b ← getReg8 r
  let t ← aluOp .add a b
  putReg8 r a
  return t

def exchangeAddv (d : Rmv) (r : Reg) : M Unit := sized fun w => updatev w d fun a => do
  let b ← getReg w r
  let t ← aluOp .add a b
  putReg r a
  return t

/-- CMPXCHG (R632): the destination is written either way. -/
def compareExchange {w : Nat} (src : M (BitVec w)) (a : BitVec w) : M (BitVec w) := do
  let acc ← getReg w .eax
  compareFlags acc a
  if acc = a then src
  else
    putReg .eax a
    return a

/-- MOV between the accumulator and a direct offset. -/
def loadDirect8 (off : Dword) : M Unit := do
  let v ← moffsGet 8 off
  putReg8 .al v

def loadDirectv (off : Dword) : M Unit := sized fun w => do
  let v ← moffsGet w off
  putReg .eax v

def storeDirect8 (off : Dword) : M Unit := do
  let v ← getReg8 .al
  moffsPut off v

def storeDirectv (off : Dword) : M Unit := sized fun w => do
  let v ← getReg w .eax
  moffsPut off v

/-- BSWAP of a register: no effect with a 16-bit operand (93 U21). -/
def swapReg (r : Reg) : M Unit := do
  let s ← get
  if s.op32 then putReg r (swapBytes (s.regs.get r)) else pure ()

/-! ## The instructions -/

/-- `MOV_r_m8_r8`, R300. -/
def execMovRm8R8 (d : Rm8) (r : Reg8) (s : State) : Host.Outcome State Fault Refusal :=
  run false (mov8 d (getReg8 r)) s

/-- `MOV_r_mv_rv`, R300. -/
def execMovRmvRv (d : Rmv) (r : Reg) (s : State) : Host.Outcome State Fault Refusal :=
  run false (movv d (regSrc r)) s

/-- `MOV_r8_r_m8`, R300. -/
def execMovR8Rm8 (r : Reg8) (m : Rm8) (s : State) : Host.Outcome State Fault Refusal :=
  run false (mov8 (.reg r) (get8 m)) s

/-- `MOV_rv_r_mv`, R300. -/
def execMovRvRmv (r : Reg) (m : Rmv) (s : State) : Host.Outcome State Fault Refusal :=
  run false (movv (.reg r) (rmSrc m)) s

/-- `MOV_r_m8_imm8`, R303. -/
def execMovRm8Imm8 (d : Rm8) (imm : Byte) (s : State) : Host.Outcome State Fault Refusal :=
  run false (mov8 d (pure imm)) s

/-- `MOV_r_mv_immv`, R303. -/
def execMovRmvImmv (d : Rmv) (imm : Dword) (s : State) : Host.Outcome State Fault Refusal :=
  run false (movv d (immSrc imm)) s

/-- `MOV_r8_imm8`, R303. -/
def execMovR8Imm8 (r : Reg8) (imm : Byte) (s : State) : Host.Outcome State Fault Refusal :=
  run false (mov8 (.reg r) (pure imm)) s

/-- `MOV_rv_immv`, R303. -/
def execMovRvImmv (r : Reg) (imm : Dword) (s : State) : Host.Outcome State Fault Refusal :=
  run false (movv (.reg r) (immSrc imm)) s

/-- `MOV_AL_moffs8`, R300. -/
def execMovAlMoffs8 (off : Dword) (s : State) : Host.Outcome State Fault Refusal :=
  run false (loadDirect8 off) s

/-- `MOV_eAX_moffsv`, R300. -/
def execMovEaxMoffsv (off : Dword) (s : State) : Host.Outcome State Fault Refusal :=
  run false (loadDirectv off) s

/-- `MOV_moffs8_AL`, R300. -/
def execMovMoffs8Al (off : Dword) (s : State) : Host.Outcome State Fault Refusal :=
  run false (storeDirect8 off) s

/-- `MOV_moffsv_eAX`, R300. -/
def execMovMoffsvEax (off : Dword) (s : State) : Host.Outcome State Fault Refusal :=
  run false (storeDirectv off) s

/-- `MOV_r_m16_Sreg`, R302. -/
def execMovRm16Sreg (d : Rmv) (g : SReg) (s : State) : Host.Outcome State Fault Refusal :=
  run false (movFromSeg d g) s

/-- `MOV_Sreg_r_m16`, R301. -/
def execMovSregRm16 (g : SReg) (m : Rmv) (s : State) : Host.Outcome State Fault Refusal :=
  runEnding false (movToSeg g m) s

/-- `XCHG_r_m8_r8`, R447. -/
def execXchgRm8R8 (d : Rm8) (r : Reg8) (s : State) : Host.Outcome State Fault Refusal :=
  run d.isMem (exchange8 d r) s

/-- `XCHG_r_mv_rv`, R447. -/
def execXchgRmvRv (d : Rmv) (r : Reg) (s : State) : Host.Outcome State Fault Refusal :=
  run d.isMem (exchangev d r) s

/-- `XCHG_eAX_rv`, R447. -/
def execXchgEaxRv (r : Reg) (s : State) : Host.Outcome State Fault Refusal :=
  run false (exchangev (.reg .eax) r) s

/-- `XLAT`, R452. -/
def execXlat (s : State) : Host.Outcome State Fault Refusal :=
  run false translateByte s

/-- `LEA_rv_m`, R453. -/
def execLeaRvM (r : Reg) (m : Mem) (s : State) : Host.Outcome State Fault Refusal :=
  run false (loadAddress r m) s

/-- `LES_rv_m16_v`, R455. -/
def execLesRvM16v (r : Reg) (m : Mem) (s : State) : Host.Outcome State Fault Refusal :=
  run false (loadPointer .es r m) s

/-- `LDS_rv_m16_v`, R454. -/
def execLdsRvM16v (r : Reg) (m : Mem) (s : State) : Host.Outcome State Fault Refusal :=
  run false (loadPointer .ds r m) s

/-- `LSS_rv_m16_v`, R592. -/
def execLssRvM16v (r : Reg) (m : Mem) (s : State) : Host.Outcome State Fault Refusal :=
  run false (loadPointer .ss r m) s

/-- `LFS_rv_m16_v`, R590. -/
def execLfsRvM16v (r : Reg) (m : Mem) (s : State) : Host.Outcome State Fault Refusal :=
  run false (loadPointer .fs r m) s

/-- `LGS_rv_m16_v`, R591. -/
def execLgsRvM16v (r : Reg) (m : Mem) (s : State) : Host.Outcome State Fault Refusal :=
  run false (loadPointer .gs r m) s

/-- `IN_AL_imm8`, R444. -/
def execInAlImm8 (imm : Byte) (s : State) : Host.Outcome State Fault Refusal :=
  run false (inPort 8 imm.toNat) s

/-- `IN_eAX_imm8`, R444. -/
def execInEaxImm8 (imm : Byte) (s : State) : Host.Outcome State Fault Refusal :=
  run false (sized fun w => inPort w imm.toNat) s

/-- `IN_AL_DX`, R444. -/
def execInAlDx (s : State) : Host.Outcome State Fault Refusal :=
  run false (do inPort 8 (← get).dxPort) s

/-- `IN_eAX_DX`, R444. -/
def execInEaxDx (s : State) : Host.Outcome State Fault Refusal :=
  run false (sized fun w => do inPort w (← get).dxPort) s

/-- `OUT_imm8_AL`, R445. -/
def execOutImm8Al (imm : Byte) (s : State) : Host.Outcome State Fault Refusal :=
  run false (outPort 8 imm.toNat) s

/-- `OUT_imm8_eAX`, R445. -/
def execOutImm8Eax (imm : Byte) (s : State) : Host.Outcome State Fault Refusal :=
  run false (sized fun w => outPort w imm.toNat) s

/-- `OUT_DX_AL`, R445. -/
def execOutDxAl (s : State) : Host.Outcome State Fault Refusal :=
  run false (do outPort 8 (← get).dxPort) s

/-- `OUT_DX_eAX`, R445. -/
def execOutDxEax (s : State) : Host.Outcome State Fault Refusal :=
  run false (sized fun w => do outPort w (← get).dxPort) s

/-- `MOVZX_rv_r_m8`, R611. -/
def execMovzxRvRm8 (r : Reg) (m : Rm8) (s : State) : Host.Outcome State Fault Refusal :=
  run false (do extendTo false r (← get8 m)) s

/-- `MOVZX_r32_r_m16`, R611. -/
def execMovzxR32Rm16 (r : Reg) (m : Rmv) (s : State) : Host.Outcome State Fault Refusal :=
  run false (do extendTo false r (← getv 16 m)) s

/-- `MOVSX_rv_r_m8`, R610. -/
def execMovsxRvRm8 (r : Reg) (m : Rm8) (s : State) : Host.Outcome State Fault Refusal :=
  run false (do extendTo true r (← get8 m)) s

/-- `MOVSX_r32_r_m16`, R610. -/
def execMovsxR32Rm16 (r : Reg) (m : Rmv) (s : State) : Host.Outcome State Fault Refusal :=
  run false (do extendTo true r (← getv 16 m)) s

/-- `BSWAP_r32`, R630. -/
def execBswapR32 (r : Reg) (s : State) : Host.Outcome State Fault Refusal :=
  run false (swapReg r) s

/-- `XADD_r_m8_r8`, R631. -/
def execXaddRm8R8 (d : Rm8) (r : Reg8) (s : State) : Host.Outcome State Fault Refusal :=
  run d.isMem (exchangeAdd8 d r) s

/-- `XADD_r_mv_rv`, R631. -/
def execXaddRmvRv (d : Rmv) (r : Reg) (s : State) : Host.Outcome State Fault Refusal :=
  run d.isMem (exchangeAddv d r) s

/-- `CMPXCHG_r_m8_r8`, R632. -/
def execCmpxchgRm8R8 (d : Rm8) (r : Reg8) (s : State) : Host.Outcome State Fault Refusal :=
  run d.isMem (update8 d (compareExchange (getReg8 r))) s

/-- `CMPXCHG_r_mv_rv`, R632. -/
def execCmpxchgRmvRv (d : Rmv) (r : Reg) (s : State) : Host.Outcome State Fault Refusal :=
  run d.isMem (sized fun w => updatev w d (compareExchange (getReg w r))) s

end Sys2Proof.Machine
end

