-- ==== Sys2Proof/Machine/Stack.lean ====
section
/-! DEFINITION. PUSH, POP, PUSHF, POPF, LAHF, SAHF, flag instructions (spec/44_stack_flags_interrupt.md), PUSH imm,
PUSHA, POPA, ENTER, LEAVE (spec/47_286_instructions.md). -/
namespace Sys2Proof.Machine

/-! ## Shared operations -/

/-- PUSH of a general register; the 8086 pushes the new SP (R406). -/
def pushReg (r : Reg) : M Unit := sized fun w => do
  let s ← get
  let v := s.reg w r
  push (if r = .esp ∧ s.level = 0 then v - BitVec.ofNat w (w / 8) else v)

/-- PUSH of a register or memory operand (FF /6). -/
def pushRm (d : Rmv) : M Unit :=
  match d with
  | .reg r => pushReg r
  | .mem m => sized fun w => do
    let v ← memGet w m
    push v

/-- PUSH of a segment register: the upper half of a 32-bit slot is open (R402). -/
def pushSeg (r : SReg) : M Unit := sized fun w => do
  pushSelector w ((← get).seg r).sel

/-- POP to a general register (R403). -/
def popReg (r : Reg) : M Unit := sized fun w => do
  let v ← pop w
  putReg r v

/-- POP to a register or memory; the address is formed after the pop (R403). DEDUCED: 8F /0 with mod = 11 is POP of a
register (log 100). -/
def popRm (d : Rmv) : M Unit := sized fun w => do
  let v ← pop w
  putv d v

/-- POP to a segment register (R404, R405). -/
def popSeg (r : SReg) : M Ending := sized fun w => do
  let v ← popSelector w
  loadSegShadow r v

/-- Pushes items in order. -/
def pushList {w : Nat} : List (BitVec w) → M Unit
  | [] => pure ()
  | v :: rest => do
    push v
    pushList rest

/-- PUSHA, PUSHAD (spec/47_286_instructions.md R515): SP as it was before. -/
def pushAllRegs : M Unit := sized fun w => do
  let s ← get
  pushList (([.eax, .ecx, .edx, .ebx, .esp, .ebp, .esi, .edi] : List Reg).map (s.reg w))

/-- Pops registers in order. -/
def popList (w : Nat) : List Reg → M Unit
  | [] => pure ()
  | r :: rest => do
    let v ← pop w
    putReg r v
    popList w rest

/-- POPA, POPAD (R516): the item in the SP slot is read past. -/
def popAllRegs : M Unit := sized fun w => do
  popList w [.edi, .esi, .ebp]
  let _ ← pop w
  popList w [.ebx, .edx, .ecx, .eax]

/-- The flags image PUSHF stores; in V86 mode VM and RF read 0 (spec/61_tasks_v86_debug.md R775). -/
def State.pushImage (s : State) : Dword :=
  (if s.v86 then ({ s.flags with vm := false, rf := false } : Flags) else s.flags).image s.level

/-- Step 3 of ENTER (R517): copies items from the old frame, descending from BP. -/
def copyFrame (w : Nat) (bp : Dword) : Nat → Nat → M Unit
  | 0, _ => pure ()
  | n + 1, i => do
    let s ← get
    let v ← readMem w .ss (s.stackOff (bp - BitVec.ofNat 32 (w / 8 * i)))
    push v
    copyFrame w bp n (i + 1)

/-- ENTER (R517; spec/92_eei_decisions.md D24, 93 U22). DESIGN CHOICE where OpSize and StackSize differ: the items and BP or
EBP have the operand size, the addresses read and the final stack pointer the stack size (log 66). -/
def enterFrame (size : Word) (level : Byte) : M Unit := sized fun w => do
  let s0 ← get
  push (s0.reg w .ebp)
  let t := (← get).reg w .esp
  copyFrame w s0.regs.ebp (level.toNat % 32) 0
  putReg .ebp t
  let s ← get
  let sp := s.stackOff (s.sp - size.setWidth 32)
  check (decide (s.level = 0) || s.ss.inLimit sp.toNat 1) (limitFault .ss)
  modify fun s => s.setSp sp

/-- LEAVE (R518). DESIGN CHOICE where OpSize and StackSize differ: the stack pointer is loaded in the stack size, the item
popped and BP or EBP have the operand size (log 66). -/
def leaveFrame : M Unit := sized fun w => do
  modify fun s => s.setSp s.regs.ebp
  let v ← pop w
  putReg .ebp v

/-- PUSHF (R408). -/
def pushFlags : M Unit := do
  v86Sensitive
  sized fun w => do
    let s ← get
    push (s.pushImage.setWidth w)

/-- POPF (R411). -/
def popFlags : M Unit := do
  v86Sensitive
  sized fun w => do
    let v ← pop w
    modify fun s => { s with flags := s.popFlags (v.setWidth 32) s.op32 }

/-- SAHF (R417). -/
def Flags.loadFive (f : Flags) (v : Byte) : Flags :=
  { f with sf := v.getLsbD 7, zf := v.getLsbD 6, af := v.getLsbD 4, pf := v.getLsbD 2, cf := v.getLsbD 0 }

def storeAh : M Unit := do
  let v ← getReg8 .ah
  setFlags fun f => f.loadFive v

/-- LAHF (R416). -/
def loadAh : M Unit := do
  let s ← get
  putReg8 .ah ((s.flags.image s.level).setWidth 8)

/-! ## The instructions -/

/-- `PUSH_ES`, R402. -/
def execPushEs (s : State) : Host.Outcome State Fault Refusal :=
  run false (pushSeg .es) s

/-- `POP_ES`, R404. -/
def execPopEs (s : State) : Host.Outcome State Fault Refusal :=
  runEnding false (popSeg .es) s

/-- `PUSH_CS`, R402. -/
def execPushCs (s : State) : Host.Outcome State Fault Refusal :=
  run false (pushSeg .cs) s

/-- `PUSH_SS`, R402. -/
def execPushSs (s : State) : Host.Outcome State Fault Refusal :=
  run false (pushSeg .ss) s

/-- `POP_SS`, R405. -/
def execPopSs (s : State) : Host.Outcome State Fault Refusal :=
  runEnding false (popSeg .ss) s

/-- `PUSH_DS`, R402. -/
def execPushDs (s : State) : Host.Outcome State Fault Refusal :=
  run false (pushSeg .ds) s

/-- `POP_DS`, R404. -/
def execPopDs (s : State) : Host.Outcome State Fault Refusal :=
  runEnding false (popSeg .ds) s

/-- `PUSH_FS`, R426. -/
def execPushFs (s : State) : Host.Outcome State Fault Refusal :=
  run false (pushSeg .fs) s

/-- `POP_FS`, R404. -/
def execPopFs (s : State) : Host.Outcome State Fault Refusal :=
  runEnding false (popSeg .fs) s

/-- `PUSH_GS`, R426. -/
def execPushGs (s : State) : Host.Outcome State Fault Refusal :=
  run false (pushSeg .gs) s

/-- `POP_GS`, R404. -/
def execPopGs (s : State) : Host.Outcome State Fault Refusal :=
  runEnding false (popSeg .gs) s

/-- `PUSH_rv`, R402. -/
def execPushRv (r : Reg) (s : State) : Host.Outcome State Fault Refusal :=
  run false (pushReg r) s

/-- `PUSH_mv`, R402. -/
def execPushMv (d : Rmv) (s : State) : Host.Outcome State Fault Refusal :=
  run false (pushRm d) s

/-- `POP_rv`, R403. -/
def execPopRv (r : Reg) (s : State) : Host.Outcome State Fault Refusal :=
  run false (popReg r) s

/-- `POP_mv`, R403. -/
def execPopMv (d : Rmv) (s : State) : Host.Outcome State Fault Refusal :=
  run false (popRm d) s

/-- `PUSH_immv`, R512. -/
def execPushImmv (imm : Dword) (s : State) : Host.Outcome State Fault Refusal :=
  run false (sized fun w => push (imm.setWidth w)) s

/-- `PUSH_imm8__sign-extended`, R512. -/
def execPushImm8s (imm : Byte) (s : State) : Host.Outcome State Fault Refusal :=
  run false (sized fun w => push (immSext w imm)) s

/-- `PUSHA_PUSHAD`, R515. -/
def execPusha (s : State) : Host.Outcome State Fault Refusal :=
  run false pushAllRegs s

/-- `POPA_POPAD`, R516. -/
def execPopa (s : State) : Host.Outcome State Fault Refusal :=
  run false popAllRegs s

/-- `ENTER_imm16_imm8`, R517. -/
def execEnterImm16Imm8 (size : Word) (level : Byte) (s : State) : Host.Outcome State Fault Refusal :=
  run false (enterFrame size level) s

/-- `LEAVE`, R518. -/
def execLeave (s : State) : Host.Outcome State Fault Refusal :=
  run false leaveFrame s

/-- `PUSHF_PUSHFD`, R408. -/
def execPushf (s : State) : Host.Outcome State Fault Refusal :=
  run false pushFlags s

/-- `POPF_POPFD`, R411. -/
def execPopf (s : State) : Host.Outcome State Fault Refusal :=
  run false popFlags s

/-- `SAHF`, R417. -/
def execSahf (s : State) : Host.Outcome State Fault Refusal :=
  run false storeAh s

/-- `LAHF`, R416. -/
def execLahf (s : State) : Host.Outcome State Fault Refusal :=
  run false loadAh s

/-- `CMC`, R412. -/
def execCmc (s : State) : Host.Outcome State Fault Refusal :=
  run false (setFlags fun f => { f with cf := !f.cf }) s

/-- `CLC`, R412. -/
def execClc (s : State) : Host.Outcome State Fault Refusal :=
  run false (setFlags fun f => { f with cf := false }) s

/-- `STC`, R412. -/
def execStc (s : State) : Host.Outcome State Fault Refusal :=
  run false (setFlags fun f => { f with cf := true }) s

/-- `CLD`, R413. -/
def execCld (s : State) : Host.Outcome State Fault Refusal :=
  run false (setFlags fun f => { f with df := false }) s

/-- `STD`, R413. -/
def execStd (s : State) : Host.Outcome State Fault Refusal :=
  run false (setFlags fun f => { f with df := true }) s

end Sys2Proof.Machine
end

