-- ==== Sys2Proof/Machine/Control.lean ====
section
/-! DEFINITION. JMP, Jcond, SETcond, CALL, RET (spec/43_control_transfer.md, spec/48_386_instructions.md R615), LOOP
(spec/45_loop_io_data.md), INT, INTO, IRET (spec/44_stack_flags_interrupt.md), BOUND (spec/47_286_instructions.md). -/
namespace Sys2Proof.Machine

/-! ## Shared operations -/

/-- A jump to an offset of the current code segment, cut to the operand size (R370). -/
def jumpNear (t : Dword) : M Unit := do
  let s ← get
  jumpTo s.op32 t

/-- A relative jump, from the next instruction. -/
def jumpRel (rel : Dword) : M Unit := do
  let s ← get
  jumpNear (s.eip + rel)

/-- A conditional relative jump (R377, R378). -/
def jumpIf (c : Cond) (rel : Dword) : M Unit := do
  let s ← get
  if c.holds s.flags then jumpRel rel else pure ()

/-- SETcond. -/
def setIf (c : Cond) (d : Rm8) : M Unit := do
  let s ← get
  put8 d (if c.holds s.flags then 1 else 0)

/-- A near call: the target is checked before the push (R380). -/
def callNear (t : Dword) : M Unit := sized fun w => do
  let s ← get
  check (s.targetOk (targetOf s.op32 t)) gp0
  push (s.eip.setWidth w)
  jumpNear t

/-- A near return (R384). -/
def returnNear (n : Word) : M Unit := sized fun w => do
  let t ← pop w
  jumpNear (t.setWidth 32)
  addSp (n.setWidth 32)

/-- A far return in any mode (R385, R386). -/
def returnFar (n : Word) : M Unit := do
  let s ← get
  if s.prot then retfProt n else retf86 n

/-- Target operand of a near indirect transfer (R373, R381). -/
def targetOperand (d : Rmv) : M Dword := sized fun w => do
  let t ← getv w d
  return t.setWidth 32

/-- A far pointer in memory, then the transfer (R375, R383). -/
def farIndirect (kind : FarKind) (m : Mem) : M Ending := sized fun w => do
  let off ← memGet w m
  let sel ← memGetAt 16 m (w / 8)
  farTransfer kind sel (off.setWidth 32)

/-- LOOP and LOOPcond (spec/45_loop_io_data.md R440 to R443): the counter is decremented, then tested. -/
def loopIf (more : Flags → Bool) (rel : Byte) : M Unit := do
  countDown
  let s ← get
  if s.counter ≠ 0 ∧ more s.flags then jumpRel (sextByte rel) else pure ()

/-- A software interrupt: the saved address is that of the next instruction (R420). -/
def softInterrupt (n : Byte) : M Ending := do
  let s ← get
  interrupt n none .soft s.eip s.startIp s.flags.rf
  return .interrupted

/-- BOUND (spec/47_286_instructions.md R514). -/
def boundCheck (r : Reg) (m : Mem) : M Unit := sized fun w => do
  let lo ← memGet w m
  let hi ← memGetAt w m (w / 8)
  let v ← getReg w r
  check (!v.slt lo && !hi.slt v) (raise (.fault 5 none))

/-- INTO (R422). -/
def overflowInterrupt : M Ending := do
  let s ← get
  if s.flags.ovf then softInterrupt 4 else return .done

/-! ## The instructions -/

/-- `JO_rel8`, R377. -/
def execJoRel8 (rel : Byte) (s : State) : Host.Outcome State Fault Refusal :=
  run false (jumpIf .o (sextByte rel)) s

/-- `JNO_rel8`, R377. -/
def execJnoRel8 (rel : Byte) (s : State) : Host.Outcome State Fault Refusal :=
  run false (jumpIf .no (sextByte rel)) s

/-- `JB_JNAE_JC_rel8`, R377. -/
def execJbRel8 (rel : Byte) (s : State) : Host.Outcome State Fault Refusal :=
  run false (jumpIf .b (sextByte rel)) s

/-- `JAE_JNB_JNC_rel8`, R377. -/
def execJaeRel8 (rel : Byte) (s : State) : Host.Outcome State Fault Refusal :=
  run false (jumpIf .ae (sextByte rel)) s

/-- `JE_JZ_rel8`, R377. -/
def execJeRel8 (rel : Byte) (s : State) : Host.Outcome State Fault Refusal :=
  run false (jumpIf .e (sextByte rel)) s

/-- `JNE_JNZ_rel8`, R377. -/
def execJneRel8 (rel : Byte) (s : State) : Host.Outcome State Fault Refusal :=
  run false (jumpIf .ne (sextByte rel)) s

/-- `JBE_JNA_rel8`, R377. -/
def execJbeRel8 (rel : Byte) (s : State) : Host.Outcome State Fault Refusal :=
  run false (jumpIf .be (sextByte rel)) s

/-- `JA_JNBE_rel8`, R377. -/
def execJaRel8 (rel : Byte) (s : State) : Host.Outcome State Fault Refusal :=
  run false (jumpIf .a (sextByte rel)) s

/-- `JS_rel8`, R377. -/
def execJsRel8 (rel : Byte) (s : State) : Host.Outcome State Fault Refusal :=
  run false (jumpIf .s (sextByte rel)) s

/-- `JNS_rel8`, R377. -/
def execJnsRel8 (rel : Byte) (s : State) : Host.Outcome State Fault Refusal :=
  run false (jumpIf .ns (sextByte rel)) s

/-- `JP_JPE_rel8`, R377. -/
def execJpRel8 (rel : Byte) (s : State) : Host.Outcome State Fault Refusal :=
  run false (jumpIf .p (sextByte rel)) s

/-- `JNP_JPO_rel8`, R377. -/
def execJnpRel8 (rel : Byte) (s : State) : Host.Outcome State Fault Refusal :=
  run false (jumpIf .np (sextByte rel)) s

/-- `JL_JNGE_rel8`, R377. -/
def execJlRel8 (rel : Byte) (s : State) : Host.Outcome State Fault Refusal :=
  run false (jumpIf .l (sextByte rel)) s

/-- `JGE_JNL_rel8`, R377. -/
def execJgeRel8 (rel : Byte) (s : State) : Host.Outcome State Fault Refusal :=
  run false (jumpIf .ge (sextByte rel)) s

/-- `JLE_JNG_rel8`, R377. -/
def execJleRel8 (rel : Byte) (s : State) : Host.Outcome State Fault Refusal :=
  run false (jumpIf .le (sextByte rel)) s

/-- `JG_JNLE_rel8`, R377. -/
def execJgRel8 (rel : Byte) (s : State) : Host.Outcome State Fault Refusal :=
  run false (jumpIf .g (sextByte rel)) s

/-- `JO_relv`, R378. -/
def execJoRelv (rel : Dword) (s : State) : Host.Outcome State Fault Refusal :=
  run false (jumpIf .o rel) s

/-- `JNO_relv`, R378. -/
def execJnoRelv (rel : Dword) (s : State) : Host.Outcome State Fault Refusal :=
  run false (jumpIf .no rel) s

/-- `JB_JNAE_JC_relv`, R378. -/
def execJbRelv (rel : Dword) (s : State) : Host.Outcome State Fault Refusal :=
  run false (jumpIf .b rel) s

/-- `JAE_JNB_JNC_relv`, R378. -/
def execJaeRelv (rel : Dword) (s : State) : Host.Outcome State Fault Refusal :=
  run false (jumpIf .ae rel) s

/-- `JE_JZ_relv`, R378. -/
def execJeRelv (rel : Dword) (s : State) : Host.Outcome State Fault Refusal :=
  run false (jumpIf .e rel) s

/-- `JNE_JNZ_relv`, R378. -/
def execJneRelv (rel : Dword) (s : State) : Host.Outcome State Fault Refusal :=
  run false (jumpIf .ne rel) s

/-- `JBE_JNA_relv`, R378. -/
def execJbeRelv (rel : Dword) (s : State) : Host.Outcome State Fault Refusal :=
  run false (jumpIf .be rel) s

/-- `JA_JNBE_relv`, R378. -/
def execJaRelv (rel : Dword) (s : State) : Host.Outcome State Fault Refusal :=
  run false (jumpIf .a rel) s

/-- `JS_relv`, R378. -/
def execJsRelv (rel : Dword) (s : State) : Host.Outcome State Fault Refusal :=
  run false (jumpIf .s rel) s

/-- `JNS_relv`, R378. -/
def execJnsRelv (rel : Dword) (s : State) : Host.Outcome State Fault Refusal :=
  run false (jumpIf .ns rel) s

/-- `JP_JPE_relv`, R378. -/
def execJpRelv (rel : Dword) (s : State) : Host.Outcome State Fault Refusal :=
  run false (jumpIf .p rel) s

/-- `JNP_JPO_relv`, R378. -/
def execJnpRelv (rel : Dword) (s : State) : Host.Outcome State Fault Refusal :=
  run false (jumpIf .np rel) s

/-- `JL_JNGE_relv`, R378. -/
def execJlRelv (rel : Dword) (s : State) : Host.Outcome State Fault Refusal :=
  run false (jumpIf .l rel) s

/-- `JGE_JNL_relv`, R378. -/
def execJgeRelv (rel : Dword) (s : State) : Host.Outcome State Fault Refusal :=
  run false (jumpIf .ge rel) s

/-- `JLE_JNG_relv`, R378. -/
def execJleRelv (rel : Dword) (s : State) : Host.Outcome State Fault Refusal :=
  run false (jumpIf .le rel) s

/-- `JG_JNLE_relv`, R378. -/
def execJgRelv (rel : Dword) (s : State) : Host.Outcome State Fault Refusal :=
  run false (jumpIf .g rel) s

/-- `SETO_r_m8`, R615. -/
def execSetoRm8 (d : Rm8) (s : State) : Host.Outcome State Fault Refusal :=
  run false (setIf .o d) s

/-- `SETNO_r_m8`, R615. -/
def execSetnoRm8 (d : Rm8) (s : State) : Host.Outcome State Fault Refusal :=
  run false (setIf .no d) s

/-- `SETB_SETNAE_SETC_r_m8`, R615. -/
def execSetbRm8 (d : Rm8) (s : State) : Host.Outcome State Fault Refusal :=
  run false (setIf .b d) s

/-- `SETAE_SETNB_SETNC_r_m8`, R615. -/
def execSetaeRm8 (d : Rm8) (s : State) : Host.Outcome State Fault Refusal :=
  run false (setIf .ae d) s

/-- `SETE_SETZ_r_m8`, R615. -/
def execSeteRm8 (d : Rm8) (s : State) : Host.Outcome State Fault Refusal :=
  run false (setIf .e d) s

/-- `SETNE_SETNZ_r_m8`, R615. -/
def execSetneRm8 (d : Rm8) (s : State) : Host.Outcome State Fault Refusal :=
  run false (setIf .ne d) s

/-- `SETBE_SETNA_r_m8`, R615. -/
def execSetbeRm8 (d : Rm8) (s : State) : Host.Outcome State Fault Refusal :=
  run false (setIf .be d) s

/-- `SETA_SETNBE_r_m8`, R615. -/
def execSetaRm8 (d : Rm8) (s : State) : Host.Outcome State Fault Refusal :=
  run false (setIf .a d) s

/-- `SETS_r_m8`, R615. -/
def execSetsRm8 (d : Rm8) (s : State) : Host.Outcome State Fault Refusal :=
  run false (setIf .s d) s

/-- `SETNS_r_m8`, R615. -/
def execSetnsRm8 (d : Rm8) (s : State) : Host.Outcome State Fault Refusal :=
  run false (setIf .ns d) s

/-- `SETP_SETPE_r_m8`, R615. -/
def execSetpRm8 (d : Rm8) (s : State) : Host.Outcome State Fault Refusal :=
  run false (setIf .p d) s

/-- `SETNP_SETPO_r_m8`, R615. -/
def execSetnpRm8 (d : Rm8) (s : State) : Host.Outcome State Fault Refusal :=
  run false (setIf .np d) s

/-- `SETL_SETNGE_r_m8`, R615. -/
def execSetlRm8 (d : Rm8) (s : State) : Host.Outcome State Fault Refusal :=
  run false (setIf .l d) s

/-- `SETGE_SETNL_r_m8`, R615. -/
def execSetgeRm8 (d : Rm8) (s : State) : Host.Outcome State Fault Refusal :=
  run false (setIf .ge d) s

/-- `SETLE_SETNG_r_m8`, R615. -/
def execSetleRm8 (d : Rm8) (s : State) : Host.Outcome State Fault Refusal :=
  run false (setIf .le d) s

/-- `SETG_SETNLE_r_m8`, R615. -/
def execSetgRm8 (d : Rm8) (s : State) : Host.Outcome State Fault Refusal :=
  run false (setIf .g d) s

/-- `JMP_rel8`, R371. -/
def execJmpRel8 (rel : Byte) (s : State) : Host.Outcome State Fault Refusal :=
  run false (jumpRel (sextByte rel)) s

/-- `JMP_relv`, R372. -/
def execJmpRelv (rel : Dword) (s : State) : Host.Outcome State Fault Refusal :=
  run false (jumpRel rel) s

/-- `JCXZ_JECXZ_rel8`, R379. -/
def execJcxzRel8 (rel : Byte) (s : State) : Host.Outcome State Fault Refusal :=
  run false (do if (← get).counter = 0 then jumpRel (sextByte rel)) s

/-- `CALL_relv`, R380. -/
def execCallRelv (rel : Dword) (s : State) : Host.Outcome State Fault Refusal :=
  run false (do callNear ((← get).eip + rel)) s

/-- `CALL_r_mv`, R381. -/
def execCallRmv (d : Rmv) (s : State) : Host.Outcome State Fault Refusal :=
  run false (do callNear (← targetOperand d)) s

/-- `JMP_r_mv`, R373. -/
def execJmpRmv (d : Rmv) (s : State) : Host.Outcome State Fault Refusal :=
  run false (do jumpNear (← targetOperand d)) s

/-- `CALL_ptr16_v`, R382. -/
def execCallPtr16v (off : Dword) (sel : Word) (s : State) : Host.Outcome State Fault Refusal :=
  runEnding false (farTransfer .call sel off) s

/-- `JMP_ptr16_v`, R374. -/
def execJmpPtr16v (off : Dword) (sel : Word) (s : State) : Host.Outcome State Fault Refusal :=
  runEnding false (farTransfer .jmp sel off) s

/-- `CALL_m16_v`, R383. -/
def execCallM16v (m : Mem) (s : State) : Host.Outcome State Fault Refusal :=
  runEnding false (farIndirect .call m) s

/-- `JMP_m16_v`, R375. -/
def execJmpM16v (m : Mem) (s : State) : Host.Outcome State Fault Refusal :=
  runEnding false (farIndirect .jmp m) s

/-- `RET`, R384. -/
def execRet (s : State) : Host.Outcome State Fault Refusal :=
  run false (returnNear 0) s

/-- `RET_imm16`, R384. -/
def execRetImm16 (imm : Word) (s : State) : Host.Outcome State Fault Refusal :=
  run false (returnNear imm) s

/-- `RETF`, R385. -/
def execRetf (s : State) : Host.Outcome State Fault Refusal :=
  run false (returnFar 0) s

/-- `RETF_imm16`, R385. -/
def execRetfImm16 (imm : Word) (s : State) : Host.Outcome State Fault Refusal :=
  run false (returnFar imm) s

/-- `LOOP_rel8`, R440. -/
def execLoopRel8 (rel : Byte) (s : State) : Host.Outcome State Fault Refusal :=
  run false (loopIf (fun _ => true) rel) s

/-- `LOOPE_LOOPZ_rel8`, R441. -/
def execLoopeRel8 (rel : Byte) (s : State) : Host.Outcome State Fault Refusal :=
  run false (loopIf (fun f => f.zf) rel) s

/-- `LOOPNE_LOOPNZ_rel8`, R442. -/
def execLoopneRel8 (rel : Byte) (s : State) : Host.Outcome State Fault Refusal :=
  run false (loopIf (fun f => !f.zf) rel) s

/-- `INT_3`, R421. -/
def execInt3 (s : State) : Host.Outcome State Fault Refusal :=
  runEnding false (softInterrupt 3) s

/-- `INT_imm8`, R420. -/
def execIntImm8 (imm : Byte) (s : State) : Host.Outcome State Fault Refusal :=
  runEnding false (do v86Sensitive; softInterrupt imm) s

/-- `INTO`, R422. -/
def execInto (s : State) : Host.Outcome State Fault Refusal :=
  runEnding false overflowInterrupt s

/-- `IRET_IRETD`, R423. -/
def execIret (s : State) : Host.Outcome State Fault Refusal :=
  runEnding false iretAny s

/-- `BOUND_rv_m16_16_m32_32`, R514. -/
def execBoundRvM (r : Reg) (m : Mem) (s : State) : Host.Outcome State Fault Refusal :=
  run false (boundCheck r m) s

end Sys2Proof.Machine
end

