-- ==== Sys2Proof/Machine/Fpu.lean ====
section
/-! DEFINITION. ESC, WAIT and the few coprocessor instructions the spec describes (spec/49_486_fpu_instructions.md
section 2, spec/46_string_bcd_control.md R503, R504). -/
namespace Sys2Proof

/-- The error summary: ES is set when an error flag is not masked, and B equals ES (spec/10_state.md R57, R658). -/
def Fpu.settle (f : Fpu) : Fpu :=
  let es := decide (f.status &&& ~~~f.control &&& 0x3F ≠ 0)
  { f with status := if es then f.status ||| 0x8080 else f.status &&& 0x7F7F }

/-- What FNINIT leaves (R652). -/
def Fpu.init (f : Fpu) : Fpu := { f with control := 0x037F, status := 0, tags := 0xFFFF }

end Sys2Proof

namespace Sys2Proof.Machine

/-! ## Shared operations -/

/-- An error the next ESC or WAIT reports: the ERROR pin, on the 80486 the unit's own summary with NE = 1 (R650 step 3,
R658). -/
def State.fpuErrorPending (s : State) : Bool :=
  if s.level = 4 then s.cr0.ne && s.fpu.status.getLsbD 7 else s.pins.error

/-- The external interrupt request of an 80486 with NE = 0: an output of the machine (spec/10_state.md R38). -/
def State.fpuErrorOut (s : State) : Bool :=
  decide (s.level = 4) && s.fpu.status.getLsbD 7 && !s.cr0.ne && !s.pins.ignne

/-- BUSY, a pin before the 80486 (spec/10_state.md R59). -/
def State.fpuBusy (s : State) : Bool := decide (s.level < 4) && s.pins.busy

/-- What precedes the work of an ESC opcode (R650 steps 1 to 3, spec/60_exceptions.md R707), and whether it waits. -/
def escapeGate (op : BitVec 11) : M Bool := do
  let s ← get
  if s.level = 0 then return false
  else
    check (!(s.cr0.em || s.cr0.ts)) (raise (.fault 7 none))
    check (!s.fpuErrorPending || Config.fpuNoWait op) (raise (.fault 16 none))
    return s.fpuBusy

/-- An ESC opcode: its gate, then its work. DESIGN CHOICE: one that waits for BUSY (R650 step 6) ends the step as WAIT does
(R504), so that the boundary after it takes an enabled interrupt, NMI too, and saves the address of the ESC; R100, R504
and spec/60_exceptions.md R678 d say this of WAIT and HLT only (log 79). -/
def escape (op : BitVec 11) (work : M Unit) : M Ending := do
  let wait ← escapeGate op
  if wait then return .waiting
  else
    work
    return .done

/-- The 8086 without a coprocessor reads the operand and drops it; later processors do nothing (R503, R650). -/
def dummyRead (m : Mem) : M Unit := do
  let s ← get
  if s.level = 0 then
    let _ ← memGet 16 m
  else pure ()

/-- Passes an opcode and the operand's bytes to the numeric unit (`FpuExec`, R660); its answer's bytes. -/
def fpuRun (op : BitVec 11) (bs : List Byte) : M (List Byte) := fun s =>
  let a := Config.fpuExec op s.fpu bs
  .ok (a.bytes, { s with fpu := a.fpu.settle })

/-- Alignment boundary of an operand by its length (spec/20_memory.md R92). -/
def fpuBoundary (n : Nat) : Nat :=
  match n with
  | 2 => 2
  | 4 => 4
  | 8 | 10 => 8
  | _ => 1

/-- On the 80286 and 80386 an operand that begins inside its segment and runs past the limit: reported as INT 9 at the next
boundary (spec/60_exceptions.md R731). -/
def fpuOverrun (r : SReg) (k : AccessKind) (off : Dword) (n : Nat) : M Bool := do
  let s ← get
  if s.level = 2 ∨ s.level = 3 then
    segCheck r k off.toNat (min n 2)
    return !(s.seg r).inLimit off.toNat n
  else return false

/-- Exactly `n` bytes. -/
def padTo (n : Nat) (bs : List Byte) : List Byte := (List.range n).map fun i => bs.getD i 0

/-- The operand of an opcode moved, with the overrun case: then nothing is transferred and the unit gets no operand. -/
def fpuMemory (op : BitVec 11) (m : Mem) (k : AccessKind) (n : Nat) : M Unit := do
  let s ← get
  let r := s.memSeg m
  let off := s.memOff m
  let overruns ← fpuOverrun r k off n
  if overruns then
    let _ ← fpuRun op []
    modify fun s => { s with int9Pending := true }
  else
    let ps ← access r k off n (fpuBoundary n)
    let bs ← if k.reads then readPlaces ps else pure []
    let out ← fpuRun op bs
    if k.writes then writePlaces ps (padTo n out)

/-- The operand of an opcode checked like one that is read, with nothing moved: no breakpoint watches it. -/
def fpuCheck (op : BitVec 11) (m : Mem) (n : Nat) : M Unit := do
  let s ← get
  untracked do
    let _ ← access (s.memSeg m) .read (s.memOff m) n (fpuBoundary n)
  let _ ← fpuRun op []

/-- The work of an ESC opcode with a memory operand: every form checks at least the operand's first byte (R650 step 4). -/
def escapeMem (op reg : BitVec 3) (m : Mem) : M Unit := do
  let s ← get
  if !s.cfg.hasFpu then dummyRead m
  else
    let code : BitVec 11 := op ++ (0 : BitVec 2) ++ reg ++ (0 : BitVec 3)
    match Config.fpuAccess (op ++ reg) with
    | .check n => fpuCheck code m (max n 1)
    | .read n => fpuMemory code m .read (max n 1)
    | .write n => fpuMemory code m .write (max n 1)
    | .update n => fpuMemory code m .update (max n 1)

/-- The work of an ESC opcode with a register form. -/
def escapeReg (op reg n : BitVec 3) : M Unit := do
  let s ← get
  if !s.cfg.hasFpu then pure ()
  else
    let _ ← fpuRun (op ++ (3 : BitVec 2) ++ reg ++ n) []

/-- Work on a word in memory for a unit that is there. -/
def withFpuWord (m : Mem) (work : M Unit) : M Unit := do
  let s ← get
  if s.cfg.hasFpu then work else dummyRead m

/-- WAIT (R504, spec/60_exceptions.md R707). -/
def waitForUnit : M Ending := do
  let s ← get
  if s.level = 0 then return if s.pins.busy then .waiting else .done
  else
    check (!(s.cr0.mp && s.cr0.ts)) (raise (.fault 7 none))
    check (!s.fpuErrorPending) (raise (.fault 16 none))
    return if s.cr0.mp && s.fpuBusy then .waiting else .done

/-- FNSTSW AX: without a coprocessor AX is open but AL is not 0 (R661, 93 U23). -/
def storeStatusAx : M Unit := do
  let s ← get
  if s.cfg.hasFpu then putReg .eax s.fpu.status
  else
    let v ← freeBits 16
    putReg .eax (if v.setWidth 8 = (0 : Byte) then v ||| 1 else v)

/-- FLDCW. DESIGN CHOICE: bits 7, 6 and 15 to 12 of the control word, which spec/10_state.md R56 does not describe, are kept
as loaded, and stored back by FNSTCW (log 99). -/
def loadControl (m : Mem) : M Unit := withFpuWord m do
  let v ← memGet 16 m
  modify fun s => { s with fpu := ({ s.fpu with control := v } : Fpu).settle }

/-- FNINIT. -/
def initUnit : M Unit := modify fun s => if s.cfg.hasFpu then { s with fpu := s.fpu.init } else s

/-- ESC in general. -/
def escapeAny (op reg : BitVec 3) (rm : EscRm) : M Ending :=
  match rm with
  | .reg n => escape (op ++ (3 : BitVec 2) ++ reg ++ n) (escapeReg op reg n)
  | .mem m => escape (op ++ (0 : BitVec 2) ++ reg ++ (0 : BitVec 3)) (escapeMem op reg m)

/-! ## The instructions -/

/-- `ESC__coprocessor_instruction__generic`, R503. -/
def execEsc (op : BitVec 3) (reg : BitVec 3) (rm : EscRm) (s : State) : Host.Outcome State Fault Refusal :=
  runEnding false (escapeAny op reg rm) s

/-- `FNINIT`, R652. -/
def execFninit (s : State) : Host.Outcome State Fault Refusal :=
  runEnding false (escape 0x3E3 initUnit) s

/-- `FNSTSW_AX`, R652. -/
def execFnstswAx (s : State) : Host.Outcome State Fault Refusal :=
  runEnding false (escape 0x7E0 storeStatusAx) s

/-- `FNSTSW_m16`, R652. -/
def execFnstswM16 (m : Mem) (s : State) : Host.Outcome State Fault Refusal :=
  runEnding false (escape 0x538 (withFpuWord m do memPut m (← get).fpu.status)) s

/-- `FNSTCW_m16`, R652. -/
def execFnstcwM16 (m : Mem) (s : State) : Host.Outcome State Fault Refusal :=
  runEnding false (escape 0x138 (withFpuWord m do memPut m (← get).fpu.control)) s

/-- `FLDCW_m16`, R652. -/
def execFldcwM16 (m : Mem) (s : State) : Host.Outcome State Fault Refusal :=
  runEnding false (escape 0x128 (loadControl m)) s

/-- `WAIT`, R504. -/
def execWait (s : State) : Host.Outcome State Fault Refusal :=
  runEnding false waitForUnit s

end Sys2Proof.Machine
end

