-- ==== Sys2Proof/Machine/Shift.lean ====
section
/-! DEFINITION. Rotates and shifts (spec/42_logic_rotate_shift.md R347 to R357, spec/47_286_instructions.md R511), SHLD
and SHRD (spec/48_386_instructions.md R618, R619), the bit instructions (R600 to R604) and scans (R595, R596). -/
namespace Sys2Proof.Machine

/-! ## Shared operations -/

/-- The effective count: five bits from the 80286, all of it on the 8086 (R348). -/
def State.shiftCount (s : State) (n : Byte) : Nat := if s.level = 0 then n.toNat else n.toNat % 32

/-- One operand shifted or rotated; OF above count 1 and AF are open (R349, R354). -/
def shiftValue {w : Nat} (k : ShiftKind) (n : Nat) (a : BitVec w) : M (BitVec w) := do
  let u ← freeBits 2
  let s ← get
  withFlags (shiftOp k s.flags a n (u.getLsbD 0) (u.getLsbD 1))

/-- Shifts and rotates of a byte operand, as `shiftv`. -/
def shift8 (k : ShiftKind) (d : Rm8) (count : M Byte) : M Unit := do
  let n ← count
  let s ← get
  update8 d (shiftValue k (s.shiftCount n))

/-- Shifts and rotates of an operand (R347, spec/47_286_instructions.md R511). DESIGN CHOICE: with a count of 0 a memory operand
is written with the value it has (log 65). -/
def shiftv (k : ShiftKind) (d : Rmv) (count : M Byte) : M Unit := sized fun w => do
  let n ← count
  let s ← get
  updatev w d (shiftValue k (s.shiftCount n))

/-- SHLD (left) or SHRD of `a` with bits from `b` by `n` positions, 0 < n ≤ w: the result and CF. -/
def doubleShift {w : Nat} (left : Bool) (a b : BitVec w) (n : Nat) : BitVec w × Bool :=
  if left then (a <<< n ||| b >>> (w - n), a.getLsbD (w - n)) else (a >>> n ||| b <<< (w - n), a.getLsbD (n - 1))

/-- SHLD or SHRD with flags: nothing changes for count 0; a count above the width leaves result and flags open. -/
def doubleShiftValue {w : Nat} (left : Bool) (b : BitVec w) (n : Nat) (a : BitVec w) : M (BitVec w) := do
  if n = 0 then return a
  else if n ≤ w then
    let u ← freeBits 2
    let x := doubleShift left a b n
    setFlags fun f => { f.result x.1 with cf := x.2, ovf := u.getLsbD 0, af := u.getLsbD 1 }
    return x.1
  else
    let r ← freeBits w
    openFlags
    return r

/-- SHLD and SHRD (R618, R619). DESIGN CHOICE: with a count of 0 a memory operand is written with the value it has (log 65). -/
def doubleShiftv (left : Bool) (d : Rmv) (r : Reg) (count : M Byte) : M Unit := sized fun w => do
  let n ← count
  let b ← getReg w r
  updatev w d (doubleShiftValue left b (n.toNat % 32))

/-- What a bit instruction does to the bit (R600 to R603). -/
inductive BitOp where
  | test | set | reset | complement
deriving DecidableEq, Repr

/-- The operand with bit `k` changed. -/
def BitOp.apply {w : Nat} (op : BitOp) (a : BitVec w) (k : Nat) : BitVec w :=
  let bit : BitVec w := BitVec.ofNat w 1 <<< k
  match op with
  | .test => a
  | .set => a ||| bit
  | .reset => a &&& ~~~bit
  | .complement => a ^^^ bit

/-- CF takes the old bit. -/
def bitValue {w : Nat} (op : BitOp) (k : Nat) (a : BitVec w) : M (BitVec w) := do
  setFlags fun f => { f with cf := a.getLsbD k }
  return op.apply a k

/-- Boundary of a bit string (spec/20_memory.md R92). -/
def bitStringBoundary : Nat := 4

/-- A bit instruction on a place: BT only reads. The memory operand of a bit instruction is a bit string (R604; DEDUCED:
with either operand size and with an immediate number too, log 31). -/
def bitAtMem (w : Nat) (op : BitOp) (r : SReg) (off : Dword) (k : Nat) : M Unit :=
  if op = .test then do
    let a ← readItem w bitStringBoundary r off
    let _ ← bitValue op k a
  else updateItem w bitStringBoundary r off (bitValue op k)

/-- With an immediate bit number, or a register destination: the number modulo the width (R604). -/
def bitImm (op : BitOp) (d : Rmv) (n : Nat) : M Unit := sized fun w =>
  match d with
  | .reg r => updatev w (.reg r) (bitValue op (n % w))
  | .mem m => do
    let s ← get
    bitAtMem w op (s.memSeg m) (s.memOff m) (n % w)

/-- The offset of the unit a signed bit number selects, seen from a memory operand (R604); modulo the address size. -/
def State.bitUnit (s : State) (w : Nat) (m : Mem) (b : BitVec w) : Dword :=
  let off := s.memOff m + BitVec.ofInt 32 ((w / 8 : Nat) * b.toInt.fdiv w)
  if s.addr32 then off else low16 off

/-- With a register bit number. -/
def bitReg (op : BitOp) (d : Rmv) (r : Reg) : M Unit := sized fun w => do
  let b ← getReg w r
  match d with
  | .reg q => updatev w (.reg q) (bitValue op (b.toNat % w))
  | .mem m => do
    let s ← get
    bitAtMem w op (s.memSeg m) (s.bitUnit w m b) (b.toNat % w)

/-- The number of the lowest one bit at or above position `i`, looking at `n` positions. -/
def lowestBit {w : Nat} (v : BitVec w) : Nat → Nat → Option Nat
  | 0, _ => none
  | n + 1, i => if v.getLsbD i then some i else lowestBit v n (i + 1)

/-- The number of the highest one bit below position `n`. -/
def highestBit {w : Nat} (v : BitVec w) : Nat → Option Nat
  | 0 => none
  | n + 1 => if v.getLsbD n then some n else highestBit v n

/-- BSF and BSR: ZF has the parameter's sense (spec/92_eei_decisions.md D25); without a one bit the destination stays
(R595, 93 U3). -/
def scan (forward : Bool) (r : Reg) (m : Rmv) : M Unit := sized fun w => do
  let v ← getv w m
  let found := if forward then lowestBit v w 0 else highestBit v w
  let s ← get
  setFlags fun f => { f with zf := found.isSome == decide (s.cfg.bsfZf = .source) }
  match found with
  | some i => putReg r (BitVec.ofNat w i)
  | none => pure ()

/-! ## The instructions -/

/-- `ROL_r_m8_imm8`, R350. -/
def execRolRm8Imm8 (d : Rm8) (imm : Byte) (s : State) : Host.Outcome State Fault Refusal :=
  run false (shift8 .rol d (pure imm)) s

/-- `ROL_r_mv_imm8`, R350. -/
def execRolRmvImm8 (d : Rmv) (imm : Byte) (s : State) : Host.Outcome State Fault Refusal :=
  run false (shiftv .rol d (pure imm)) s

/-- `ROL_r_m8_1`, R350. -/
def execRolRm8One (d : Rm8) (s : State) : Host.Outcome State Fault Refusal :=
  run false (shift8 .rol d (pure 1)) s

/-- `ROL_r_mv_1`, R350. -/
def execRolRmvOne (d : Rmv) (s : State) : Host.Outcome State Fault Refusal :=
  run false (shiftv .rol d (pure 1)) s

/-- `ROL_r_m8_CL`, R350. -/
def execRolRm8Cl (d : Rm8) (s : State) : Host.Outcome State Fault Refusal :=
  run false (shift8 .rol d (getReg8 .cl)) s

/-- `ROL_r_mv_CL`, R350. -/
def execRolRmvCl (d : Rmv) (s : State) : Host.Outcome State Fault Refusal :=
  run false (shiftv .rol d (getReg8 .cl)) s

/-- `ROR_r_m8_imm8`, R351. -/
def execRorRm8Imm8 (d : Rm8) (imm : Byte) (s : State) : Host.Outcome State Fault Refusal :=
  run false (shift8 .ror d (pure imm)) s

/-- `ROR_r_mv_imm8`, R351. -/
def execRorRmvImm8 (d : Rmv) (imm : Byte) (s : State) : Host.Outcome State Fault Refusal :=
  run false (shiftv .ror d (pure imm)) s

/-- `ROR_r_m8_1`, R351. -/
def execRorRm8One (d : Rm8) (s : State) : Host.Outcome State Fault Refusal :=
  run false (shift8 .ror d (pure 1)) s

/-- `ROR_r_mv_1`, R351. -/
def execRorRmvOne (d : Rmv) (s : State) : Host.Outcome State Fault Refusal :=
  run false (shiftv .ror d (pure 1)) s

/-- `ROR_r_m8_CL`, R351. -/
def execRorRm8Cl (d : Rm8) (s : State) : Host.Outcome State Fault Refusal :=
  run false (shift8 .ror d (getReg8 .cl)) s

/-- `ROR_r_mv_CL`, R351. -/
def execRorRmvCl (d : Rmv) (s : State) : Host.Outcome State Fault Refusal :=
  run false (shiftv .ror d (getReg8 .cl)) s

/-- `RCL_r_m8_imm8`, R352. -/
def execRclRm8Imm8 (d : Rm8) (imm : Byte) (s : State) : Host.Outcome State Fault Refusal :=
  run false (shift8 .rcl d (pure imm)) s

/-- `RCL_r_mv_imm8`, R352. -/
def execRclRmvImm8 (d : Rmv) (imm : Byte) (s : State) : Host.Outcome State Fault Refusal :=
  run false (shiftv .rcl d (pure imm)) s

/-- `RCL_r_m8_1`, R352. -/
def execRclRm8One (d : Rm8) (s : State) : Host.Outcome State Fault Refusal :=
  run false (shift8 .rcl d (pure 1)) s

/-- `RCL_r_mv_1`, R352. -/
def execRclRmvOne (d : Rmv) (s : State) : Host.Outcome State Fault Refusal :=
  run false (shiftv .rcl d (pure 1)) s

/-- `RCL_r_m8_CL`, R352. -/
def execRclRm8Cl (d : Rm8) (s : State) : Host.Outcome State Fault Refusal :=
  run false (shift8 .rcl d (getReg8 .cl)) s

/-- `RCL_r_mv_CL`, R352. -/
def execRclRmvCl (d : Rmv) (s : State) : Host.Outcome State Fault Refusal :=
  run false (shiftv .rcl d (getReg8 .cl)) s

/-- `RCR_r_m8_imm8`, R353. -/
def execRcrRm8Imm8 (d : Rm8) (imm : Byte) (s : State) : Host.Outcome State Fault Refusal :=
  run false (shift8 .rcr d (pure imm)) s

/-- `RCR_r_mv_imm8`, R353. -/
def execRcrRmvImm8 (d : Rmv) (imm : Byte) (s : State) : Host.Outcome State Fault Refusal :=
  run false (shiftv .rcr d (pure imm)) s

/-- `RCR_r_m8_1`, R353. -/
def execRcrRm8One (d : Rm8) (s : State) : Host.Outcome State Fault Refusal :=
  run false (shift8 .rcr d (pure 1)) s

/-- `RCR_r_mv_1`, R353. -/
def execRcrRmvOne (d : Rmv) (s : State) : Host.Outcome State Fault Refusal :=
  run false (shiftv .rcr d (pure 1)) s

/-- `RCR_r_m8_CL`, R353. -/
def execRcrRm8Cl (d : Rm8) (s : State) : Host.Outcome State Fault Refusal :=
  run false (shift8 .rcr d (getReg8 .cl)) s

/-- `RCR_r_mv_CL`, R353. -/
def execRcrRmvCl (d : Rmv) (s : State) : Host.Outcome State Fault Refusal :=
  run false (shiftv .rcr d (getReg8 .cl)) s

/-- `SHL_SAL_r_m8_imm8`, R354. -/
def execShlRm8Imm8 (d : Rm8) (imm : Byte) (s : State) : Host.Outcome State Fault Refusal :=
  run false (shift8 .shl d (pure imm)) s

/-- `SHL_SAL_r_mv_imm8`, R354. -/
def execShlRmvImm8 (d : Rmv) (imm : Byte) (s : State) : Host.Outcome State Fault Refusal :=
  run false (shiftv .shl d (pure imm)) s

/-- `SHL_SAL_r_m8_1`, R354. -/
def execShlRm8One (d : Rm8) (s : State) : Host.Outcome State Fault Refusal :=
  run false (shift8 .shl d (pure 1)) s

/-- `SHL_SAL_r_mv_1`, R354. -/
def execShlRmvOne (d : Rmv) (s : State) : Host.Outcome State Fault Refusal :=
  run false (shiftv .shl d (pure 1)) s

/-- `SHL_SAL_r_m8_CL`, R354. -/
def execShlRm8Cl (d : Rm8) (s : State) : Host.Outcome State Fault Refusal :=
  run false (shift8 .shl d (getReg8 .cl)) s

/-- `SHL_SAL_r_mv_CL`, R354. -/
def execShlRmvCl (d : Rmv) (s : State) : Host.Outcome State Fault Refusal :=
  run false (shiftv .shl d (getReg8 .cl)) s

/-- `SHR_r_m8_imm8`, R356. -/
def execShrRm8Imm8 (d : Rm8) (imm : Byte) (s : State) : Host.Outcome State Fault Refusal :=
  run false (shift8 .shr d (pure imm)) s

/-- `SHR_r_mv_imm8`, R356. -/
def execShrRmvImm8 (d : Rmv) (imm : Byte) (s : State) : Host.Outcome State Fault Refusal :=
  run false (shiftv .shr d (pure imm)) s

/-- `SHR_r_m8_1`, R356. -/
def execShrRm8One (d : Rm8) (s : State) : Host.Outcome State Fault Refusal :=
  run false (shift8 .shr d (pure 1)) s

/-- `SHR_r_mv_1`, R356. -/
def execShrRmvOne (d : Rmv) (s : State) : Host.Outcome State Fault Refusal :=
  run false (shiftv .shr d (pure 1)) s

/-- `SHR_r_m8_CL`, R356. -/
def execShrRm8Cl (d : Rm8) (s : State) : Host.Outcome State Fault Refusal :=
  run false (shift8 .shr d (getReg8 .cl)) s

/-- `SHR_r_mv_CL`, R356. -/
def execShrRmvCl (d : Rmv) (s : State) : Host.Outcome State Fault Refusal :=
  run false (shiftv .shr d (getReg8 .cl)) s

/-- `SAR_r_m8_imm8`, R355. -/
def execSarRm8Imm8 (d : Rm8) (imm : Byte) (s : State) : Host.Outcome State Fault Refusal :=
  run false (shift8 .sar d (pure imm)) s

/-- `SAR_r_mv_imm8`, R355. -/
def execSarRmvImm8 (d : Rmv) (imm : Byte) (s : State) : Host.Outcome State Fault Refusal :=
  run false (shiftv .sar d (pure imm)) s

/-- `SAR_r_m8_1`, R355. -/
def execSarRm8One (d : Rm8) (s : State) : Host.Outcome State Fault Refusal :=
  run false (shift8 .sar d (pure 1)) s

/-- `SAR_r_mv_1`, R355. -/
def execSarRmvOne (d : Rmv) (s : State) : Host.Outcome State Fault Refusal :=
  run false (shiftv .sar d (pure 1)) s

/-- `SAR_r_m8_CL`, R355. -/
def execSarRm8Cl (d : Rm8) (s : State) : Host.Outcome State Fault Refusal :=
  run false (shift8 .sar d (getReg8 .cl)) s

/-- `SAR_r_mv_CL`, R355. -/
def execSarRmvCl (d : Rmv) (s : State) : Host.Outcome State Fault Refusal :=
  run false (shiftv .sar d (getReg8 .cl)) s

/-- `SHLD_r_mv_rv_imm8`, R618. -/
def execShldRmvRvImm8 (d : Rmv) (r : Reg) (imm : Byte) (s : State) : Host.Outcome State Fault Refusal :=
  run false (doubleShiftv true d r (pure imm)) s

/-- `SHLD_r_mv_rv_CL`, R618. -/
def execShldRmvRvCl (d : Rmv) (r : Reg) (s : State) : Host.Outcome State Fault Refusal :=
  run false (doubleShiftv true d r (getReg8 .cl)) s

/-- `SHRD_r_mv_rv_imm8`, R619. -/
def execShrdRmvRvImm8 (d : Rmv) (r : Reg) (imm : Byte) (s : State) : Host.Outcome State Fault Refusal :=
  run false (doubleShiftv false d r (pure imm)) s

/-- `SHRD_r_mv_rv_CL`, R619. -/
def execShrdRmvRvCl (d : Rmv) (r : Reg) (s : State) : Host.Outcome State Fault Refusal :=
  run false (doubleShiftv false d r (getReg8 .cl)) s

/-- `BT_r_mv_rv`, R600. -/
def execBtRmvRv (d : Rmv) (r : Reg) (s : State) : Host.Outcome State Fault Refusal :=
  run d.isMem (bitReg .test d r) s

/-- `BT_r_mv_imm8`, R600. -/
def execBtRmvImm8 (d : Rmv) (imm : Byte) (s : State) : Host.Outcome State Fault Refusal :=
  run d.isMem (bitImm .test d imm.toNat) s

/-- `BTS_r_mv_rv`, R603. -/
def execBtsRmvRv (d : Rmv) (r : Reg) (s : State) : Host.Outcome State Fault Refusal :=
  run d.isMem (bitReg .set d r) s

/-- `BTS_r_mv_imm8`, R603. -/
def execBtsRmvImm8 (d : Rmv) (imm : Byte) (s : State) : Host.Outcome State Fault Refusal :=
  run d.isMem (bitImm .set d imm.toNat) s

/-- `BTR_r_mv_rv`, R602. -/
def execBtrRmvRv (d : Rmv) (r : Reg) (s : State) : Host.Outcome State Fault Refusal :=
  run d.isMem (bitReg .reset d r) s

/-- `BTR_r_mv_imm8`, R602. -/
def execBtrRmvImm8 (d : Rmv) (imm : Byte) (s : State) : Host.Outcome State Fault Refusal :=
  run d.isMem (bitImm .reset d imm.toNat) s

/-- `BTC_r_mv_rv`, R601. -/
def execBtcRmvRv (d : Rmv) (r : Reg) (s : State) : Host.Outcome State Fault Refusal :=
  run d.isMem (bitReg .complement d r) s

/-- `BTC_r_mv_imm8`, R601. -/
def execBtcRmvImm8 (d : Rmv) (imm : Byte) (s : State) : Host.Outcome State Fault Refusal :=
  run d.isMem (bitImm .complement d imm.toNat) s

/-- `BSF_rv_r_mv`, R595. -/
def execBsfRvRmv (r : Reg) (m : Rmv) (s : State) : Host.Outcome State Fault Refusal :=
  run false (scan true r m) s

/-- `BSR_rv_r_mv`, R596. -/
def execBsrRvRmv (r : Reg) (m : Rmv) (s : State) : Host.Outcome State Fault Refusal :=
  run false (scan false r m) s

end Sys2Proof.Machine
end

