-- ==== Sys2Proof/Machine/Strings.lean ====
section
/-! DEFINITION. String instructions and REP (spec/46_string_bcd_control.md R470 to R482, spec/47_286_instructions.md R520
to R522) and BCD arithmetic (spec/46_string_bcd_control.md R485 to R491). -/
namespace Sys2Proof.Machine

/-! ## Shared operations -/

/-- One pass of the repeat algorithm (R480), or the instruction once without a prefix; `compare` says that ZF can end the
loop. -/
def repeated (compare : Bool) (one : M Unit) : M Ending := do
  let s ← get
  match s.cur.rep with
  | none =>
    one
    return .done
  | some k =>
    if s.counter = 0 then return .done
    else
      one
      countDown
      let t ← get
      let more := decide (t.counter ≠ 0) && (!compare || (t.flags.zf == decide (k = .rep)))
      return if more then .again else .done

/-- MOVS of one element of `w` bits (R471). -/
def movsOne (w : Nat) : M Unit := do
  let s ← get
  let v ← readMem w s.dataSeg (s.pointer .esi)
  writeMem .es (s.pointer .edi) v
  advance .esi (w / 8)
  advance .edi (w / 8)

/-- CMPS (R472): the flags of source minus destination. -/
def cmpsOne (w : Nat) : M Unit := do
  let s ← get
  let a ← readMem w s.dataSeg (s.pointer .esi)
  let b ← readMem w .es (s.pointer .edi)
  compareFlags a b
  advance .esi (w / 8)
  advance .edi (w / 8)

/-- SCAS (R473). -/
def scasOne (w : Nat) : M Unit := do
  let s ← get
  let b ← readMem w .es (s.pointer .edi)
  compareFlags (s.reg w .eax) b
  advance .edi (w / 8)

/-- LODS (R474). -/
def lodsOne (w : Nat) : M Unit := do
  let s ← get
  let v ← readMem w s.dataSeg (s.pointer .esi)
  putReg .eax v
  advance .esi (w / 8)

/-- STOS (R475). -/
def stosOne (w : Nat) : M Unit := do
  let s ← get
  writeMem .es (s.pointer .edi) (s.reg w .eax)
  advance .edi (w / 8)

/-- INS (spec/47_286_instructions.md R520): the destination is checked before the port is read. -/
def insOne (w : Nat) : M Unit := do
  let s ← get
  ioCheck s.dxPort (w / 8)
  let ps ← access .es .write (s.pointer .edi) (w / 8) (w / 8)
  let bs ← ioRead (w / 8) s.dxPort
  writePlaces ps bs
  advance .edi (w / 8)

/-- OUTS (R521). -/
def outsOne (w : Nat) : M Unit := do
  let s ← get
  ioCheck s.dxPort (w / 8)
  let v ← readMem w s.dataSeg (s.pointer .esi)
  ioWrite (valueBytes v) s.dxPort
  advance .esi (w / 8)

/-! ## BCD -/

/-- AAA (R486) or AAS (R487): AL and AH corrected by `six` and `one`; OF, SF, ZF and PF are open. -/
def unpackedAdjust (add : Bool) : M Unit := do
  let s ← get
  let al := s.reg8 .al
  let ah := s.reg8 .ah
  let adjust := s.flags.af || decide (9 < al.toNat % 16)
  let u ← freeBits 4
  if adjust then
    putReg8 .ah (if add then ah + 1 else ah - 1)
    putReg8 .al ((if add then al + 6 else al - 6) &&& 0x0F)
  setFlags fun f =>
    { f with
      af := adjust, cf := adjust
      ovf := u.getLsbD 0, sf := u.getLsbD 1, zf := u.getLsbD 2, pf := u.getLsbD 3 }

/-- DAA (R490): AL with AF and CF before gives AL, AF and CF after; the second test sees the sum before truncation. -/
def decimalAdd (al : Byte) (af cf : Bool) : Byte × Bool × Bool :=
  let low := decide (9 < al.toNat % 16) || af
  let t := al.toNat + if low then 6 else 0
  let high := decide (0x9F < t) || cf
  (BitVec.ofNat 8 (t + if high then 0x60 else 0), low, high)

/-- DAS (R491): the second test sees AL after the first step. -/
def decimalSub (al : Byte) (af cf : Bool) : Byte × Bool × Bool :=
  let low := decide (9 < al.toNat % 16) || af
  let t := if low then al - 6 else al
  let high := decide (0x9F < t.toNat) || cf
  (if high then t - 0x60 else t, low, high)

/-- DAA or DAS on the state; OF is open. -/
def packedAdjust (f : Byte → Bool → Bool → Byte × Bool × Bool) : M Unit := do
  let s ← get
  let x := f (s.reg8 .al) s.flags.af s.flags.cf
  let ovf ← freeBool
  putReg8 .al x.1
  setFlags fun f => { f.result x.1 with af := x.2.1, cf := x.2.2, ovf := ovf }

/-- Flags of AAM and AAD: SF, ZF and PF from the new AL; OF, AF and CF open (R488, R489). -/
def bcdFlags (al : Byte) : M Unit := do
  let u ← freeBits 3
  setFlags fun f => { f.result al with ovf := u.getLsbD 0, af := u.getLsbD 1, cf := u.getLsbD 2 }

/-- AAM (R489, 93 V4): the base is the second byte; base 0 divides by zero. -/
def asciiSplit (base : Byte) : M Unit := do
  let al ← getReg8 .al
  check (decide (base ≠ 0)) divideError
  putReg8 .ah (al / base)
  putReg8 .al (al % base)
  bcdFlags (al % base)

/-- AAD (R488, 93 V4). -/
def asciiJoin (base : Byte) : M Unit := do
  let al ← getReg8 .al
  let ah ← getReg8 .ah
  putReg8 .al (ah * base + al)
  putReg8 .ah 0
  bcdFlags (ah * base + al)

/-! ## The instructions -/

/-- `MOVSB`, R471. -/
def execMovsb (s : State) : Host.Outcome State Fault Refusal :=
  runEnding false (repeated false (movsOne 8)) s

/-- `MOVSW_MOVSD`, R471. -/
def execMovsv (s : State) : Host.Outcome State Fault Refusal :=
  runEnding false (repeated false (sized movsOne)) s

/-- `CMPSB`, R472. -/
def execCmpsb (s : State) : Host.Outcome State Fault Refusal :=
  runEnding false (repeated true (cmpsOne 8)) s

/-- `CMPSW_CMPSD`, R472. -/
def execCmpsv (s : State) : Host.Outcome State Fault Refusal :=
  runEnding false (repeated true (sized cmpsOne)) s

/-- `STOSB`, R475. -/
def execStosb (s : State) : Host.Outcome State Fault Refusal :=
  runEnding false (repeated false (stosOne 8)) s

/-- `STOSW_STOSD`, R475. -/
def execStosv (s : State) : Host.Outcome State Fault Refusal :=
  runEnding false (repeated false (sized stosOne)) s

/-- `LODSB`, R474. -/
def execLodsb (s : State) : Host.Outcome State Fault Refusal :=
  runEnding false (repeated false (lodsOne 8)) s

/-- `LODSW_LODSD`, R474. -/
def execLodsv (s : State) : Host.Outcome State Fault Refusal :=
  runEnding false (repeated false (sized lodsOne)) s

/-- `SCASB`, R473. -/
def execScasb (s : State) : Host.Outcome State Fault Refusal :=
  runEnding false (repeated true (scasOne 8)) s

/-- `SCASW_SCASD`, R473. -/
def execScasv (s : State) : Host.Outcome State Fault Refusal :=
  runEnding false (repeated true (sized scasOne)) s

/-- `INSB`, R520. -/
def execInsb (s : State) : Host.Outcome State Fault Refusal :=
  runEnding false (repeated false (insOne 8)) s

/-- `INSW_INSD`, R520. -/
def execInsv (s : State) : Host.Outcome State Fault Refusal :=
  runEnding false (repeated false (sized insOne)) s

/-- `OUTSB`, R521. -/
def execOutsb (s : State) : Host.Outcome State Fault Refusal :=
  runEnding false (repeated false (outsOne 8)) s

/-- `OUTSW_OUTSD`, R521. -/
def execOutsv (s : State) : Host.Outcome State Fault Refusal :=
  runEnding false (repeated false (sized outsOne)) s

/-- `AAA`, R486. -/
def execAaa (s : State) : Host.Outcome State Fault Refusal :=
  run false (unpackedAdjust true) s

/-- `AAS`, R487. -/
def execAas (s : State) : Host.Outcome State Fault Refusal :=
  run false (unpackedAdjust false) s

/-- `DAA`, R490. -/
def execDaa (s : State) : Host.Outcome State Fault Refusal :=
  run false (packedAdjust decimalAdd) s

/-- `DAS`, R491. -/
def execDas (s : State) : Host.Outcome State Fault Refusal :=
  run false (packedAdjust decimalSub) s

/-- `AAM`, R489. -/
def execAam (base : Byte) (s : State) : Host.Outcome State Fault Refusal :=
  run false (asciiSplit base) s

/-- `AAD`, R488. -/
def execAad (base : Byte) (s : State) : Host.Outcome State Fault Refusal :=
  run false (asciiJoin base) s

end Sys2Proof.Machine
end

