-- ==== Sys2Proof/Machine/System.lean ====
section
/-! DEFINITION. System instructions: descriptor-table, task and status registers, access checks
(spec/47_286_instructions.md R530 to R549), the special registers (spec/48_386_instructions.md R612), cache and TLB
(spec/49_486_fpu_instructions.md R636 to R638), CLI, STI (spec/44_stack_flags_interrupt.md), HLT, NOP
(spec/46_string_bcd_control.md), prefixes (spec/30_encoding.md R243 to R246). -/
namespace Sys2Proof.Machine

/-! ## Descriptor-table registers -/

/-- A pseudo-descriptor of six bytes for SGDT and SIDT (R538): the sixth byte is open on the 80286 (93 U4). -/
def storeTable (t : TableReg) (m : Mem) : M Unit := do
  let s ← get
  let top ← if s.level = 2 then freeBits 8 else pure (t.base.extractLsb' 24 8)
  writeBytes (s.memSeg m) (s.memOff m)
    (valueBytes t.limit ++ valueBytes ((t.base.setWidth 24 : BitVec 24)) ++ [top]) 4

/-- The pseudo-descriptor of LGDT and LIDT (R536): 24 base bits with operand size 16. -/
def fetchTable (m : Mem) : M TableReg := do
  let s ← get
  let bs ← readBytes (s.memSeg m) (s.memOff m) 6 4
  let base : Dword := leValue 32 (bs.drop 2)
  return { limit := leValue 16 bs, base := if s.op32 then base else base &&& 0xFFFFFF }

/-- LLDT (R540). -/
def loadLdt (sel : Word) : M Unit := do
  if selNull sel then modify fun s => { s with ldtr := { s.ldtr with sel := sel, valid := false } }
  else
    check (!selLocal sel) (gpSel sel)
    let (d, _) ← readDescriptor sel (gpSel sel)
    check (dIsSystem d && decide (dType d = 2)) (gpSel sel)
    check (dPresent d) (faultSel 11 sel)
    modify fun s =>
      { s with ldtr := { sel := sel, valid := true, base := dBase s.level d, limit := dLimitWord s.level d } }

/-- LTR (R534): the descriptor becomes busy. -/
def loadTask (sel : Word) : M Unit := do
  check (!selNull sel && !selLocal sel) (gpSel sel)
  let (d, a) ← readDescriptor sel (gpSel sel)
  let s ← get
  check (dHasType s.level d [1] [9]) (gpSel sel)
  check (dPresent d) (faultSel 11 sel)
  sysWrite (a + 5) [dAccess d ||| 2]
  modify fun s =>
    { s with
      tr := { sel := sel, base := dBase s.level d, limit := dLimitWord s.level d, is386 := decide (8 ≤ dType d) } }

/-! ## Inspecting a selector (R546 to R549) -/

/-- The descriptor a selector names, none for the null selector and outside the table. A segment descriptor that is
examined gets its A bit set (spec/21_protection.md R126, R183); the answer is the descriptor as it was. -/
def peekDescriptor (sel : Word) : M (Option Descriptor) := do
  if selNull sel then return none
  else
    let s ← get
    match s.descAddr sel with
    | none => return none
    | some a => do
      let bs ← sysRead a 8
      let d : Descriptor := leValue 64 bs
      if !dIsSystem d then markAccessed d a
      return some d

/-- DPL is at least CPL and RPL, or the segment is conforming code. -/
def State.visible (s : State) (sel : Word) (d : Descriptor) : Bool :=
  dConforming d || decide (max s.cpl (selRpl sel) ≤ dDpl d)

/-- Descriptors LAR tells of: segments and the system types a processor knows (spec/21_protection.md R137); LSL those of
them that have a limit. -/
def larKnows (level : Nat) (d : Descriptor) : Bool :=
  !dIsSystem d || dHasType level d [1, 2, 3, 4, 5, 6, 7] [9, 11, 12, 14, 15]

def lslKnows (level : Nat) (d : Descriptor) : Bool := !dIsSystem d || dHasType level d [1, 2, 3] [9, 11]

/-- LAR: access rights in bits 15..8; the 32-bit form has bits 23..20 too and leaves bits 19..16 open (R547, 93 U6). -/
def accessRights (w : Nat) (d : Descriptor) : M (BitVec w) := do
  let u ← freeBits 4
  let hi : Dword := d.extractLsb' 32 32
  let v : Dword := if w = 32 then (hi &&& 0x00F0FF00) ||| (u.setWidth 32 <<< 16) else hi &&& 0xFF00
  return v.setWidth w

/-- The selector LAR and LSL inspect: the low word of an operand of the operand size (R546, R547). DESIGN CHOICE: a
doubleword operand in memory has the boundary 4 of a doubleword (log 31). -/
def selectorOperand (m : Rmv) : M Word := sized fun w => do return (← getv w m).setWidth 16

/-- LAR and LSL: ZF, and the destination when the selector can be inspected. -/
def inspect (r : Reg) (m : Rmv) (knows : Nat → Descriptor → Bool) (value : (w : Nat) → Descriptor → M (BitVec w)) :
    M Unit := do
  protectedOnly
  let sel ← selectorOperand m
  let found ← peekDescriptor sel
  let s ← get
  match found.filter fun d => knows s.level d && s.visible sel d with
  | some d => sized fun w => do
    let v ← value w d
    putReg r v
    setFlags fun f => { f with zf := true }
  | none => setFlags fun f => { f with zf := false }

/-- VERR and VERW. -/
def verify (m : Rmv) (allowed : Descriptor → Bool) : M Unit := do
  protectedOnly
  let sel ← getv 16 m
  let found ← peekDescriptor sel
  let s ← get
  setFlags fun f => { f with zf := (found.filter fun d => allowed d && s.visible sel d).isSome }

/-- ARPL: the RPL raised to that of the source, and ZF (R545). -/
def raiseRpl (b a : Word) : M Word := do
  let up := decide (selRpl a < selRpl b)
  setFlags fun f => { f with zf := up }
  return if up then selWithRpl a (selRpl b) else a

/-! ## CR0 and the machine status word (spec/10_state.md R36 to R38, spec/92_eei_decisions.md D5) -/

/-- CR0 as read, or the MSW of the 80286, whose unused bits read 1. -/
def State.cr0Image (s : State) : Dword :=
  let c := s.cr0
  let low := bitAt c.pe 0 ||| bitAt c.mp 1 ||| bitAt c.em 2 ||| bitAt c.ts 3
  if s.level ≤ 2 then low ||| 0xFFF0
  else
    low ||| bitAt c.et 4 ||| bitAt c.pg 31 |||
      (if s.level = 4 then bitAt c.ne 5 ||| bitAt c.wp 16 ||| bitAt c.am 18 ||| bitAt c.nw 29 ||| bitAt c.cd 30 else 0)

/-- CR0 with a value written to it; ET is fixed on the 80486, whose other bits the 80386 does not have. -/
def Cr0.load (c : Cr0) (level : Nat) (v : Dword) : Cr0 :=
  let c : Cr0 :=
    { c with
      pe := v.getLsbD 0, mp := v.getLsbD 1, em := v.getLsbD 2, ts := v.getLsbD 3
      pg := decide (3 ≤ level) && v.getLsbD 31 }
  if level = 4 then
    { c with ne := v.getLsbD 5, wp := v.getLsbD 16, am := v.getLsbD 18, nw := v.getLsbD 29, cd := v.getLsbD 30 }
  else { c with et := v.getLsbD 4 }

/-- MOV CR0: PG = 1 needs PE = 1 (D6), NW = 1 needs CD = 1 (R38). -/
def writeCr0 (v : Dword) : M Unit := do
  let s ← get
  let c := s.cr0.load s.level v
  check (!c.pg || c.pe) gp0
  check (!c.nw || c.cd) gp0
  set { s with cr0 := c }

/-! ## Debug registers (spec/61_tasks_v86_debug.md R790, R797; 93 U11) -/

/-- Bits of DR6 and DR7 that hold state; the others read as anything. -/
def dr6Mask : Dword := 0x0000E00F
def dr7Mask : Dword := 0xFFFF23FF

/-- The general-detect fault: the access is not made (R797); with RF = 1 it is not raised (R796 c). A breakpoint on the
instruction that is not enabled may show too (93 U20). -/
def debugGuard : M Unit := do
  let s ← get
  if s.dr7.getLsbD 13 ∧ s.flags.rf = false then
    let u ← freeBits 4
    raise { Exn.fault 1 none with dr6 := 0x2000 ||| (s.instrHits s.startIp false &&& u).setWidth 32 }
  else pure ()

/-- A stored value with open bits where no state is. -/
def withOpenBits (mask v : Dword) : M Dword := do
  let u ← freeBits 32
  return (v &&& mask) ||| (u &&& ~~~mask)

/-! ## TLB test registers (spec/22_paging_cache.md R208 to R212) -/

/-- A test attribute on a write: X, its complement given too; otherwise open (R208). -/
def testAttr (x x' : Bool) : M Bool := if x != x' then pure x else freeBool

/-- Whether an attribute matches the pair (X, X'). -/
def attrMatches (x x' attr : Bool) : Bool := if attr then x else x'

/-- The TLB write of command C = 0 (R210, R212). The 80386 needs H = 1; without it the effect is open. -/
def tlbTestWrite (c d : Dword) : M Unit := do
  let s ← get
  let dirty ← testAttr (c.getLsbD 10) (c.getLsbD 9)
  let user ← testAttr (c.getLsbD 8) (c.getLsbD 7)
  let write ← testAttr (c.getLsbD 6) (c.getLsbD 5)
  let lin := c.toNat / 4096 * 4096
  let i := tlbSetOf lin
  let e : TlbEntry :=
    { valid := c.getLsbD 11, tag := tlbTagOf lin, dirty := dirty, user := user, write := write
      pcd := decide (s.level = 4) && d.getLsbD 11, pwt := decide (s.level = 4) && d.getLsbD 10
      frame := d.extractLsb' 12 20, seen := s.peekTables lin }
  let given : Fin 4 := ⟨(d.extractLsb' 2 2).toNat % 4, Nat.mod_lt _ (by decide)⟩
  let t := s.tlb[i]
  if d.getLsbD 4 then set (s.setTlb i { ways := t.ways.set given e, lru := t.lru.touch given })
  else if s.level = 4 then
    let way := (findWay fun w => !t.ways[w].valid).getD t.lru.victim
    set (s.setTlb i { ways := t.ways.set way e, lru := t.lru.touch way })
  else
    let some_ ← freeBool
    let k ← freeBelow 4
    let way : Fin 4 := ⟨k % 4, Nat.mod_lt _ (by decide)⟩
    modify fun s => if some_ then s.setTlb i { ways := t.ways.set way e, lru := t.lru.touch way } else s

/-- The ways of a set that a test lookup finds (R208, R211). DESIGN CHOICE: bit V of TR6 is compared whatever it is, so that
with V = 0 a lookup finds an entry with V = 0; R211 speaks of V = 1 only (log 28). -/
def tlbTestHits (t : TlbSet) (c : Dword) : List (Fin 4) :=
  ([0, 1, 2, 3] : List (Fin 4)).filter fun w =>
    let e := t.ways[w]
    (e.valid == c.getLsbD 11) && (e.tag == tlbTagOf (c.toNat / 4096 * 4096)) &&
      attrMatches (c.getLsbD 10) (c.getLsbD 9) e.dirty && attrMatches (c.getLsbD 8) (c.getLsbD 7) e.user &&
      attrMatches (c.getLsbD 6) (c.getLsbD 5) e.write

/-- How many valid entries of a set hold the linear address (R211). DESIGN CHOICE: those with V = 0 do not count (log 28). -/
def tlbTestSame (t : TlbSet) (c : Dword) : Nat :=
  (([0, 1, 2, 3] : List (Fin 4)).filter fun w =>
    t.ways[w].valid && (t.ways[w].tag == tlbTagOf (c.toNat / 4096 * 4096))).length

/-- TR7 after a hit (R209, R212). Whether the LRU bits shown are those before or after their update is open. -/
def tr7Hit (level : Nat) (e : TlbEntry) (w : Fin 4) (l : Lru) : Dword :=
  e.frame.setWidth 32 <<< 12 ||| bitAt true 4 ||| BitVec.ofNat 32 (w.val * 4) |||
    (if level = 4 then bitAt e.pcd 11 ||| bitAt e.pwt 10 ||| l.bits.setWidth 32 <<< 7 else 0)

/-- The lookup of command C = 1: it fails with none or several entries found; then all of TR7 but H is open (93 U15). -/
def tlbTestLookup (c : Dword) : M Unit := do
  let s ← get
  let i := tlbSetOf (c.toNat / 4096 * 4096)
  let t := s.tlb[i]
  let late ← freeBool
  match decide (tlbTestSame t c ≤ 1), tlbTestHits t c with
  | true, [w] =>
    let new := t.lru.touch w
    let v := tr7Hit s.level t.ways[w] w (if late then new else t.lru)
    modify fun s => { s.setTlb i { t with lru := new } with tr7 := v }
  | _, _ =>
    let u ← freeBits 32
    modify fun s => { s with tr7 := u &&& ~~~(0x10 : Dword) }

/-- MOV TR6: the command is executed (R210, R211). DESIGN CHOICE: on the 80386 also in protected mode with PG = 1, which R213
forbids without a consequence (log 28). -/
def writeTr6 (v : Dword) : M Unit := do
  modify fun s => { s with tr6 := v &&& ~~~(0x1E : Dword) }
  let s ← get
  if v.getLsbD 0 then tlbTestLookup v else tlbTestWrite v s.tr7

/-- MOV TR7: the fields the processor has. -/
def State.tr7Mask (s : State) : Dword := if s.level = 4 then 0xFFFFFF9C else 0xFFFFF01C

/-! ## Cache test registers (spec/22_paging_cache.md R225 to R228) -/

/-- The quarter of the auxiliary data register that TR3 shows. -/
def State.tr3Shift (s : State) : Nat := 32 * (s.tr5.extractLsb' 2 2).toNat

/-- MOV TR3. -/
def State.writeTr3 (s : State) (v : Dword) : State :=
  if s.cacheOn then
    { s with cacheBuf :=
        (s.cacheBuf &&& ~~~((0xFFFFFFFF : BitVec 128) <<< s.tr3Shift)) ||| (v.setWidth 128 <<< s.tr3Shift) }
  else { s with tr3 := v }

/-- MOV r32,TR3. -/
def State.readTr3 (s : State) : Dword := if s.cacheOn then (s.cacheBuf >>> s.tr3Shift).setWidth 32 else s.tr3

/-- TR4 after a test read (R226). DESIGN CHOICE: its unused bits 2..0 are 0 then, and as written after MOV TR4 (log 28). -/
def tr4Of (c : CacheSet) (w : Fin 4) : Dword :=
  c.ways[w].tag.setWidth 32 <<< 11 ||| bitAt c.ways[w].valid 10 ||| c.lru.bits.setWidth 32 <<< 7 |||
    bitAt c.ways[3].valid 6 ||| bitAt c.ways[2].valid 5 ||| bitAt c.ways[1].valid 4 ||| bitAt c.ways[0].valid 3

/-- The commands of TR5 (R227). Whether a test read counts as a use for the LRU bits (R219), and whether TR4 then shows
those before or after that use (R226), the spec does not say: both are free (log 28). DESIGN CHOICE: a test write counts
as a use (log 28), and a command is executed whatever CD and NW are, of which R228 requires 1 (log 29). -/
def cacheCommand (v : Dword) : M Unit := do
  let s ← get
  let n := (v.extractLsb' 4 7).toNat
  let way : Fin 4 := ⟨(v.extractLsb' 2 2).toNat % 4, Nat.mod_lt _ (by decide)⟩
  let c := cacheGet s.cache n
  match (v.extractLsb' 0 2).toNat with
  | 0 => pure ()
  | 1 =>
    let line : CacheLine := { valid := s.tr4.getLsbD 10, tag := s.tr4.extractLsb' 11 21, data := s.cacheBuf }
    set { s with cache := cachePut s.cache n { ways := c.ways.set way line, lru := c.lru.touch way } }
  | 2 =>
    let use ← freeBool
    let late ← freeBool
    let used : CacheSet := { c with lru := c.lru.touch way }
    modify fun s =>
      { s with
        cacheBuf := c.ways[way].data, tr4 := tr4Of (if use && late then used else c) way
        cache := if use then cachePut s.cache n used else s.cache }
  | _ =>
    let clear (c : CacheSet) : CacheSet := { c with lru := { r0 := false, r1 := false, r2 := false } }
    modify fun s => { s.flushCache with cache := s.flushCache.cache.map fun p => (p.1, clear p.2) }

/-- MOV TR5. DESIGN CHOICE: with the cache modelled its unused bits 31..11 are not kept (log 28). -/
def writeTr5 (v : Dword) : M Unit := do
  let s ← get
  if s.cacheOn then
    set { s with tr5 := v &&& 0x7FF }
    cacheCommand v
  else set { s with tr5 := v }

/-! ## Special registers by number (spec/48_386_instructions.md R612) -/

/-- A number that names no register is an undefined opcode; then the privilege check. -/
def specialAccess (known : Bool) : M Unit := do
  check known undefinedOpcode
  privileged

def knownCr (n : BitVec 3) : Bool := n == 0 || n == 2 || n == 3
def knownDr (n : BitVec 3) : Bool := n != 4 && n != 5
def knownTr (level : Nat) (n : BitVec 3) : Bool := n == 6 || n == 7 || (decide (level = 4) && (n == 3 || n == 4 || n == 5))

def State.readCr (s : State) (n : BitVec 3) : Dword :=
  if n = 0 then s.cr0Image else if n = 2 then s.cr2 else s.cr3

def writeCr (n : BitVec 3) (v : Dword) : M Unit :=
  if n = 0 then writeCr0 v
  else if n = 2 then modify fun s => { s with cr2 := v }
  else modify fun s => s.loadCr3 v

def readDr (n : BitVec 3) : M Dword := do
  let s ← get
  match n.toNat with
  | 0 => return s.dr0
  | 1 => return s.dr1
  | 2 => return s.dr2
  | 3 => return s.dr3
  | 6 => withOpenBits dr6Mask s.dr6
  | _ => withOpenBits dr7Mask s.dr7

def State.writeDr (s : State) (n : BitVec 3) (v : Dword) : State :=
  match n.toNat with
  | 0 => { s with dr0 := v }
  | 1 => { s with dr1 := v }
  | 2 => { s with dr2 := v }
  | 3 => { s with dr3 := v }
  | 6 => { s with dr6 := v &&& dr6Mask }
  | _ => { s with dr7 := v &&& dr7Mask }

def State.readTr (s : State) (n : BitVec 3) : Dword :=
  match n.toNat with
  | 3 => s.readTr3
  | 4 => s.tr4
  | 5 => s.tr5
  | 6 => s.tr6
  | _ => s.tr7

def writeTr (n : BitVec 3) (v : Dword) : M Unit :=
  match n.toNat with
  | 3 => modify fun s => s.writeTr3 v
  | 4 => modify fun s => { s with tr4 := v }
  | 5 => writeTr5 v
  | 6 => writeTr6 v
  | _ => modify fun s => { s with tr7 := v &&& s.tr7Mask }

/-! ## Prefixes -/

/-- Records a prefix byte: the step has counted its length already. -/
def State.notePrefix (s : State) (f : Prefixes → Prefixes) : State :=
  { s with cur := { f s.cur with last := s.cur.len - 1 } }

/-- The machine status word with a value loaded by LMSW: PE can only be set (spec/47_286_instructions.md R530). -/
def Cr0.loadMsw (c : Cr0) (v : Word) : Cr0 :=
  { c with pe := c.pe || v.getLsbD 0, mp := v.getLsbD 1, em := v.getLsbD 2, ts := v.getLsbD 3 }

/-- STI: the shadow opens when IF was 0 (spec/44_stack_flags_interrupt.md R414). -/
def enableInterrupts : M Unit := do
  ioplSensitive
  modify fun s =>
    { s with flags := { s.flags with intf := true }, shadow := if s.flags.intf then .none else .sti }

/-- INVLPG is not recognised in V86 mode (R638, spec/60_exceptions.md R708; R175 names INT 13 there: log 78), runs in real
mode (93 V1) and in protected mode at level 0. -/
def invlpgAllowed : M Unit := do
  let s ← get
  check (!s.v86) undefinedOpcode
  privileged

/-! ## The instructions -/

/-- `SLDT_r_m16`, R541. -/
def execSldtRm16 (d : Rmv) (s : State) : Host.Outcome State Fault Refusal :=
  run false (do protectedOnly; put16 d (← get).ldtr.sel) s

/-- `STR_r_m16`, R535. -/
def execStrRm16 (d : Rmv) (s : State) : Host.Outcome State Fault Refusal :=
  run false (do protectedOnly; put16 d (← get).tr.sel) s

/-- `LLDT_r_m16`, R540. -/
def execLldtRm16 (d : Rmv) (s : State) : Host.Outcome State Fault Refusal :=
  run false (do protectedOnly; privileged; loadLdt (← getv 16 d)) s

/-- `LTR_r_m16`, R534. -/
def execLtrRm16 (d : Rmv) (s : State) : Host.Outcome State Fault Refusal :=
  run false (do protectedOnly; privileged; loadTask (← getv 16 d)) s

/-- `VERR_r_m16`, R548. -/
def execVerrRm16 (d : Rmv) (s : State) : Host.Outcome State Fault Refusal :=
  run false (verify d dIsReadable) s

/-- `VERW_r_m16`, R549. -/
def execVerwRm16 (d : Rmv) (s : State) : Host.Outcome State Fault Refusal :=
  run false (verify d dIsWritableData) s

/-- `ARPL_r_m16_r16`, R545. DESIGN CHOICE: with ZF = 0 a memory operand is written with the value it has (log 65). -/
def execArplRm16R16 (d : Rmv) (r : Reg) (s : State) : Host.Outcome State Fault Refusal :=
  run false (do protectedOnly; let b ← getReg 16 r; updatev 16 d (raiseRpl b)) s

/-- `SGDT_m`, R538. -/
def execSgdtM (m : Mem) (s : State) : Host.Outcome State Fault Refusal :=
  run false (do storeTable (← get).gdtr m) s

/-- `SIDT_m`, R538. -/
def execSidtM (m : Mem) (s : State) : Host.Outcome State Fault Refusal :=
  run false (do storeTable (← get).idtr m) s

/-- `LGDT_m`, R536. -/
def execLgdtM (m : Mem) (s : State) : Host.Outcome State Fault Refusal :=
  run false (do privileged; let t ← fetchTable m; modify fun s => { s with gdtr := t }) s

/-- `LIDT_m`, R537. -/
def execLidtM (m : Mem) (s : State) : Host.Outcome State Fault Refusal :=
  run false (do privileged; let t ← fetchTable m; modify fun s => { s with idtr := t }) s

/-- `SMSW_r_m16`, R531. -/
def execSmswRm16 (d : Rmv) (s : State) : Host.Outcome State Fault Refusal :=
  run false (do put16 d ((← get).cr0Image.setWidth 16)) s

/-- `LMSW_r_m16`, R530. -/
def execLmswRm16 (d : Rmv) (s : State) : Host.Outcome State Fault Refusal :=
  run false (do privileged; let v ← getv 16 d; modify fun s => { s with cr0 := s.cr0.loadMsw v }) s

/-- `CLTS`, R532. -/
def execClts (s : State) : Host.Outcome State Fault Refusal :=
  run false (do privileged; modify fun s => { s with cr0 := { s.cr0 with ts := false } }) s

/-- `INVLPG_m`, R638. -/
def execInvlpgM (m : Mem) (s : State) : Host.Outcome State Fault Refusal :=
  run false (do invlpgAllowed; modify fun s => s.flushPage (s.linear (s.memSeg m) (s.memOff m).toNat)) s

/-- `LAR_rv_r_mv`, R547. -/
def execLarRvRmv (r : Reg) (m : Rmv) (s : State) : Host.Outcome State Fault Refusal :=
  run false (inspect r m larKnows accessRights) s

/-- `LSL_rv_r_mv`, R546. -/
def execLslRvRmv (r : Reg) (m : Rmv) (s : State) : Host.Outcome State Fault Refusal :=
  run false (inspect r m lslKnows fun w d => do return (dLimit (← get).level d).setWidth w) s

/-- `INVD`, R636. -/
def execInvd (s : State) : Host.Outcome State Fault Refusal :=
  run false (do privileged; modify State.flushCache) s

/-- `WBINVD`, R637. -/
def execWbinvd (s : State) : Host.Outcome State Fault Refusal :=
  run false (do privileged; modify State.flushCache) s

/-- `MOV_r32_CRn`, R612. -/
def execMovR32CRn (r : Reg) (n : BitVec 3) (s : State) : Host.Outcome State Fault Refusal :=
  run false (do specialAccess (knownCr n); putReg r ((← get).readCr n)) s

/-- `MOV_CRn_r32`, R612. -/
def execMovCRnR32 (n : BitVec 3) (r : Reg) (s : State) : Host.Outcome State Fault Refusal :=
  run false (do specialAccess (knownCr n); writeCr n (← getReg 32 r)) s

/-- `MOV_r32_DRn`, R612. -/
def execMovR32DRn (r : Reg) (n : BitVec 3) (s : State) : Host.Outcome State Fault Refusal :=
  run false (do specialAccess (knownDr n); debugGuard; putReg r (← readDr n)) s

/-- `MOV_DRn_r32`, R612. -/
def execMovDRnR32 (n : BitVec 3) (r : Reg) (s : State) : Host.Outcome State Fault Refusal :=
  run false (do specialAccess (knownDr n); debugGuard; let v ← getReg 32 r; modify fun s => s.writeDr n v) s

/-- `MOV_r32_TRn`, R612. -/
def execMovR32TRn (r : Reg) (n : BitVec 3) (s : State) : Host.Outcome State Fault Refusal :=
  run false (do specialAccess (knownTr (← get).level n); putReg r ((← get).readTr n)) s

/-- `MOV_TRn_r32`, R612. -/
def execMovTRnR32 (n : BitVec 3) (r : Reg) (s : State) : Host.Outcome State Fault Refusal :=
  run false (do specialAccess (knownTr (← get).level n); writeTr n (← getReg 32 r)) s

/-- `CLI`, R415. -/
def execCli (s : State) : Host.Outcome State Fault Refusal :=
  run false (do ioplSensitive; setFlags fun f => { f with intf := false }) s

/-- `STI`, R414. -/
def execSti (s : State) : Host.Outcome State Fault Refusal :=
  run false enableInterrupts s

/-- `HLT`, R502. -/
def execHlt (s : State) : Host.Outcome State Fault Refusal :=
  run false (do privileged; modify fun s => { s with run := .halted }) s

/-- `NOP`, R500. -/
def execNop (s : State) : Host.Outcome State Fault Refusal :=
  run false (pure ()) s

/-- `prefix_ES`, R243. -/
def execPrefixEs (s : State) : Host.Outcome State Fault Refusal :=
  .next (s.notePrefix fun p => { p with seg := some .es })

/-- `prefix_CS`, R243. -/
def execPrefixCs (s : State) : Host.Outcome State Fault Refusal :=
  .next (s.notePrefix fun p => { p with seg := some .cs })

/-- `prefix_SS`, R243. -/
def execPrefixSs (s : State) : Host.Outcome State Fault Refusal :=
  .next (s.notePrefix fun p => { p with seg := some .ss })

/-- `prefix_DS`, R243. -/
def execPrefixDs (s : State) : Host.Outcome State Fault Refusal :=
  .next (s.notePrefix fun p => { p with seg := some .ds })

/-- `prefix_FS`, R243. -/
def execPrefixFs (s : State) : Host.Outcome State Fault Refusal :=
  .next (s.notePrefix fun p => { p with seg := some .fs })

/-- `prefix_GS`, R243. -/
def execPrefixGs (s : State) : Host.Outcome State Fault Refusal :=
  .next (s.notePrefix fun p => { p with seg := some .gs })

/-- `prefix_operand-size`, R246. -/
def execPrefixOperandSize (s : State) : Host.Outcome State Fault Refusal :=
  .next (s.notePrefix fun p => { p with op := true })

/-- `prefix_address-size`, R246. -/
def execPrefixAddressSize (s : State) : Host.Outcome State Fault Refusal :=
  .next (s.notePrefix fun p => { p with addr := true })

/-- `prefix_LOCK`, R505. -/
def execPrefixLock (s : State) : Host.Outcome State Fault Refusal :=
  .next (s.notePrefix fun p => { p with lock := true })

/-- `prefix_REP_REPE_REPZ`, R480. DESIGN CHOICE: of F2h and F3h before one instruction the last counts (log 17). -/
def execPrefixRep (s : State) : Host.Outcome State Fault Refusal :=
  .next (s.notePrefix fun p => { p with rep := some .rep })

/-- `prefix_REPNE_REPNZ`, R480. DESIGN CHOICE: of F2h and F3h before one instruction the last counts (log 17). -/
def execPrefixRepne (s : State) : Host.Outcome State Fault Refusal :=
  .next (s.notePrefix fun p => { p with rep := some .repne })

end Sys2Proof.Machine
end

