-- ==== Sys2Proof/Machine/Dispatch.lean ====
section
/-! DEFINITION. One arm per instruction: the meaning it has. -/
namespace Sys2Proof.Machine

def exec (i : Instr) (s : State) : Host.Outcome State Fault Refusal :=
  match i with
  | .addRm8R8 d r => Sys2Proof.Machine.execAddRm8R8 d r s
  | .addRmvRv d r => Sys2Proof.Machine.execAddRmvRv d r s
  | .addR8Rm8 r m => Sys2Proof.Machine.execAddR8Rm8 r m s
  | .addRvRmv r m => Sys2Proof.Machine.execAddRvRmv r m s
  | .addAlImm8 imm => Sys2Proof.Machine.execAddAlImm8 imm s
  | .addEaxImmv imm => Sys2Proof.Machine.execAddEaxImmv imm s
  | .addRm8Imm8 d imm => Sys2Proof.Machine.execAddRm8Imm8 d imm s
  | .addRm8Imm8Alias82 d imm => Sys2Proof.Machine.execAddRm8Imm8Alias82 d imm s
  | .addRmvImmv d imm => Sys2Proof.Machine.execAddRmvImmv d imm s
  | .addRmvImm8s d imm => Sys2Proof.Machine.execAddRmvImm8s d imm s
  | .orRm8R8 d r => Sys2Proof.Machine.execOrRm8R8 d r s
  | .orRmvRv d r => Sys2Proof.Machine.execOrRmvRv d r s
  | .orR8Rm8 r m => Sys2Proof.Machine.execOrR8Rm8 r m s
  | .orRvRmv r m => Sys2Proof.Machine.execOrRvRmv r m s
  | .orAlImm8 imm => Sys2Proof.Machine.execOrAlImm8 imm s
  | .orEaxImmv imm => Sys2Proof.Machine.execOrEaxImmv imm s
  | .orRm8Imm8 d imm => Sys2Proof.Machine.execOrRm8Imm8 d imm s
  | .orRm8Imm8Alias82 d imm => Sys2Proof.Machine.execOrRm8Imm8Alias82 d imm s
  | .orRmvImmv d imm => Sys2Proof.Machine.execOrRmvImmv d imm s
  | .orRmvImm8s d imm => Sys2Proof.Machine.execOrRmvImm8s d imm s
  | .adcRm8R8 d r => Sys2Proof.Machine.execAdcRm8R8 d r s
  | .adcRmvRv d r => Sys2Proof.Machine.execAdcRmvRv d r s
  | .adcR8Rm8 r m => Sys2Proof.Machine.execAdcR8Rm8 r m s
  | .adcRvRmv r m => Sys2Proof.Machine.execAdcRvRmv r m s
  | .adcAlImm8 imm => Sys2Proof.Machine.execAdcAlImm8 imm s
  | .adcEaxImmv imm => Sys2Proof.Machine.execAdcEaxImmv imm s
  | .adcRm8Imm8 d imm => Sys2Proof.Machine.execAdcRm8Imm8 d imm s
  | .adcRm8Imm8Alias82 d imm => Sys2Proof.Machine.execAdcRm8Imm8Alias82 d imm s
  | .adcRmvImmv d imm => Sys2Proof.Machine.execAdcRmvImmv d imm s
  | .adcRmvImm8s d imm => Sys2Proof.Machine.execAdcRmvImm8s d imm s
  | .sbbRm8R8 d r => Sys2Proof.Machine.execSbbRm8R8 d r s
  | .sbbRmvRv d r => Sys2Proof.Machine.execSbbRmvRv d r s
  | .sbbR8Rm8 r m => Sys2Proof.Machine.execSbbR8Rm8 r m s
  | .sbbRvRmv r m => Sys2Proof.Machine.execSbbRvRmv r m s
  | .sbbAlImm8 imm => Sys2Proof.Machine.execSbbAlImm8 imm s
  | .sbbEaxImmv imm => Sys2Proof.Machine.execSbbEaxImmv imm s
  | .sbbRm8Imm8 d imm => Sys2Proof.Machine.execSbbRm8Imm8 d imm s
  | .sbbRm8Imm8Alias82 d imm => Sys2Proof.Machine.execSbbRm8Imm8Alias82 d imm s
  | .sbbRmvImmv d imm => Sys2Proof.Machine.execSbbRmvImmv d imm s
  | .sbbRmvImm8s d imm => Sys2Proof.Machine.execSbbRmvImm8s d imm s
  | .andRm8R8 d r => Sys2Proof.Machine.execAndRm8R8 d r s
  | .andRmvRv d r => Sys2Proof.Machine.execAndRmvRv d r s
  | .andR8Rm8 r m => Sys2Proof.Machine.execAndR8Rm8 r m s
  | .andRvRmv r m => Sys2Proof.Machine.execAndRvRmv r m s
  | .andAlImm8 imm => Sys2Proof.Machine.execAndAlImm8 imm s
  | .andEaxImmv imm => Sys2Proof.Machine.execAndEaxImmv imm s
  | .andRm8Imm8 d imm => Sys2Proof.Machine.execAndRm8Imm8 d imm s
  | .andRm8Imm8Alias82 d imm => Sys2Proof.Machine.execAndRm8Imm8Alias82 d imm s
  | .andRmvImmv d imm => Sys2Proof.Machine.execAndRmvImmv d imm s
  | .andRmvImm8s d imm => Sys2Proof.Machine.execAndRmvImm8s d imm s
  | .subRm8R8 d r => Sys2Proof.Machine.execSubRm8R8 d r s
  | .subRmvRv d r => Sys2Proof.Machine.execSubRmvRv d r s
  | .subR8Rm8 r m => Sys2Proof.Machine.execSubR8Rm8 r m s
  | .subRvRmv r m => Sys2Proof.Machine.execSubRvRmv r m s
  | .subAlImm8 imm => Sys2Proof.Machine.execSubAlImm8 imm s
  | .subEaxImmv imm => Sys2Proof.Machine.execSubEaxImmv imm s
  | .subRm8Imm8 d imm => Sys2Proof.Machine.execSubRm8Imm8 d imm s
  | .subRm8Imm8Alias82 d imm => Sys2Proof.Machine.execSubRm8Imm8Alias82 d imm s
  | .subRmvImmv d imm => Sys2Proof.Machine.execSubRmvImmv d imm s
  | .subRmvImm8s d imm => Sys2Proof.Machine.execSubRmvImm8s d imm s
  | .xorRm8R8 d r => Sys2Proof.Machine.execXorRm8R8 d r s
  | .xorRmvRv d r => Sys2Proof.Machine.execXorRmvRv d r s
  | .xorR8Rm8 r m => Sys2Proof.Machine.execXorR8Rm8 r m s
  | .xorRvRmv r m => Sys2Proof.Machine.execXorRvRmv r m s
  | .xorAlImm8 imm => Sys2Proof.Machine.execXorAlImm8 imm s
  | .xorEaxImmv imm => Sys2Proof.Machine.execXorEaxImmv imm s
  | .xorRm8Imm8 d imm => Sys2Proof.Machine.execXorRm8Imm8 d imm s
  | .xorRm8Imm8Alias82 d imm => Sys2Proof.Machine.execXorRm8Imm8Alias82 d imm s
  | .xorRmvImmv d imm => Sys2Proof.Machine.execXorRmvImmv d imm s
  | .xorRmvImm8s d imm => Sys2Proof.Machine.execXorRmvImm8s d imm s
  | .cmpRm8R8 d r => Sys2Proof.Machine.execCmpRm8R8 d r s
  | .cmpRmvRv d r => Sys2Proof.Machine.execCmpRmvRv d r s
  | .cmpR8Rm8 r m => Sys2Proof.Machine.execCmpR8Rm8 r m s
  | .cmpRvRmv r m => Sys2Proof.Machine.execCmpRvRmv r m s
  | .cmpAlImm8 imm => Sys2Proof.Machine.execCmpAlImm8 imm s
  | .cmpEaxImmv imm => Sys2Proof.Machine.execCmpEaxImmv imm s
  | .cmpRm8Imm8 d imm => Sys2Proof.Machine.execCmpRm8Imm8 d imm s
  | .cmpRm8Imm8Alias82 d imm => Sys2Proof.Machine.execCmpRm8Imm8Alias82 d imm s
  | .cmpRmvImmv d imm => Sys2Proof.Machine.execCmpRmvImmv d imm s
  | .cmpRmvImm8s d imm => Sys2Proof.Machine.execCmpRmvImm8s d imm s
  | .pushEs => Sys2Proof.Machine.execPushEs s
  | .pushCs => Sys2Proof.Machine.execPushCs s
  | .pushSs => Sys2Proof.Machine.execPushSs s
  | .pushDs => Sys2Proof.Machine.execPushDs s
  | .popEs => Sys2Proof.Machine.execPopEs s
  | .popSs => Sys2Proof.Machine.execPopSs s
  | .popDs => Sys2Proof.Machine.execPopDs s
  | .prefixEs => Sys2Proof.Machine.execPrefixEs s
  | .prefixCs => Sys2Proof.Machine.execPrefixCs s
  | .prefixSs => Sys2Proof.Machine.execPrefixSs s
  | .prefixDs => Sys2Proof.Machine.execPrefixDs s
  | .prefixFs => Sys2Proof.Machine.execPrefixFs s
  | .prefixGs => Sys2Proof.Machine.execPrefixGs s
  | .prefixOperandSize => Sys2Proof.Machine.execPrefixOperandSize s
  | .prefixAddressSize => Sys2Proof.Machine.execPrefixAddressSize s
  | .prefixLock => Sys2Proof.Machine.execPrefixLock s
  | .prefixRepne => Sys2Proof.Machine.execPrefixRepne s
  | .prefixRep => Sys2Proof.Machine.execPrefixRep s
  | .daa => Sys2Proof.Machine.execDaa s
  | .das => Sys2Proof.Machine.execDas s
  | .aaa => Sys2Proof.Machine.execAaa s
  | .aas => Sys2Proof.Machine.execAas s
  | .incRv r => Sys2Proof.Machine.execIncRv r s
  | .decRv r => Sys2Proof.Machine.execDecRv r s
  | .pushRv r => Sys2Proof.Machine.execPushRv r s
  | .popRv r => Sys2Proof.Machine.execPopRv r s
  | .pusha => Sys2Proof.Machine.execPusha s
  | .popa => Sys2Proof.Machine.execPopa s
  | .boundRvM r m => Sys2Proof.Machine.execBoundRvM r m s
  | .arplRm16R16 d r => Sys2Proof.Machine.execArplRm16R16 d r s
  | .pushImmv imm => Sys2Proof.Machine.execPushImmv imm s
  | .pushImm8s imm => Sys2Proof.Machine.execPushImm8s imm s
  | .imulRvRmvImmv r m imm => Sys2Proof.Machine.execImulRvRmvImmv r m imm s
  | .imulRvRmvImm8s r m imm => Sys2Proof.Machine.execImulRvRmvImm8s r m imm s
  | .insb => Sys2Proof.Machine.execInsb s
  | .insv => Sys2Proof.Machine.execInsv s
  | .outsb => Sys2Proof.Machine.execOutsb s
  | .outsv => Sys2Proof.Machine.execOutsv s
  | .joRel8 rel => Sys2Proof.Machine.execJoRel8 rel s
  | .jnoRel8 rel => Sys2Proof.Machine.execJnoRel8 rel s
  | .jbRel8 rel => Sys2Proof.Machine.execJbRel8 rel s
  | .jaeRel8 rel => Sys2Proof.Machine.execJaeRel8 rel s
  | .jeRel8 rel => Sys2Proof.Machine.execJeRel8 rel s
  | .jneRel8 rel => Sys2Proof.Machine.execJneRel8 rel s
  | .jbeRel8 rel => Sys2Proof.Machine.execJbeRel8 rel s
  | .jaRel8 rel => Sys2Proof.Machine.execJaRel8 rel s
  | .jsRel8 rel => Sys2Proof.Machine.execJsRel8 rel s
  | .jnsRel8 rel => Sys2Proof.Machine.execJnsRel8 rel s
  | .jpRel8 rel => Sys2Proof.Machine.execJpRel8 rel s
  | .jnpRel8 rel => Sys2Proof.Machine.execJnpRel8 rel s
  | .jlRel8 rel => Sys2Proof.Machine.execJlRel8 rel s
  | .jgeRel8 rel => Sys2Proof.Machine.execJgeRel8 rel s
  | .jleRel8 rel => Sys2Proof.Machine.execJleRel8 rel s
  | .jgRel8 rel => Sys2Proof.Machine.execJgRel8 rel s
  | .testRm8R8 d r => Sys2Proof.Machine.execTestRm8R8 d r s
  | .testRmvRv d r => Sys2Proof.Machine.execTestRmvRv d r s
  | .xchgRm8R8 d r => Sys2Proof.Machine.execXchgRm8R8 d r s
  | .xchgRmvRv d r => Sys2Proof.Machine.execXchgRmvRv d r s
  | .movRm8R8 d r => Sys2Proof.Machine.execMovRm8R8 d r s
  | .movRmvRv d r => Sys2Proof.Machine.execMovRmvRv d r s
  | .movR8Rm8 r m => Sys2Proof.Machine.execMovR8Rm8 r m s
  | .movRvRmv r m => Sys2Proof.Machine.execMovRvRmv r m s
  | .movRm16Sreg d g => Sys2Proof.Machine.execMovRm16Sreg d g s
  | .leaRvM r m => Sys2Proof.Machine.execLeaRvM r m s
  | .movSregRm16 g m => Sys2Proof.Machine.execMovSregRm16 g m s
  | .popMv d => Sys2Proof.Machine.execPopMv d s
  | .nop => Sys2Proof.Machine.execNop s
  | .xchgEaxRv r => Sys2Proof.Machine.execXchgEaxRv r s
  | .cbw => Sys2Proof.Machine.execCbw s
  | .cwd => Sys2Proof.Machine.execCwd s
  | .callPtr16v off sel => Sys2Proof.Machine.execCallPtr16v off sel s
  | .wait => Sys2Proof.Machine.execWait s
  | .pushf => Sys2Proof.Machine.execPushf s
  | .popf => Sys2Proof.Machine.execPopf s
  | .sahf => Sys2Proof.Machine.execSahf s
  | .lahf => Sys2Proof.Machine.execLahf s
  | .movAlMoffs8 off => Sys2Proof.Machine.execMovAlMoffs8 off s
  | .movEaxMoffsv off => Sys2Proof.Machine.execMovEaxMoffsv off s
  | .movMoffs8Al off => Sys2Proof.Machine.execMovMoffs8Al off s
  | .movMoffsvEax off => Sys2Proof.Machine.execMovMoffsvEax off s
  | .movsb => Sys2Proof.Machine.execMovsb s
  | .movsv => Sys2Proof.Machine.execMovsv s
  | .cmpsb => Sys2Proof.Machine.execCmpsb s
  | .cmpsv => Sys2Proof.Machine.execCmpsv s
  | .testAlImm8 imm => Sys2Proof.Machine.execTestAlImm8 imm s
  | .testEaxImmv imm => Sys2Proof.Machine.execTestEaxImmv imm s
  | .stosb => Sys2Proof.Machine.execStosb s
  | .stosv => Sys2Proof.Machine.execStosv s
  | .lodsb => Sys2Proof.Machine.execLodsb s
  | .lodsv => Sys2Proof.Machine.execLodsv s
  | .scasb => Sys2Proof.Machine.execScasb s
  | .scasv => Sys2Proof.Machine.execScasv s
  | .movR8Imm8 r imm => Sys2Proof.Machine.execMovR8Imm8 r imm s
  | .movRvImmv r imm => Sys2Proof.Machine.execMovRvImmv r imm s
  | .rolRm8Imm8 d imm => Sys2Proof.Machine.execRolRm8Imm8 d imm s
  | .rolRmvImm8 d imm => Sys2Proof.Machine.execRolRmvImm8 d imm s
  | .rolRm8One d => Sys2Proof.Machine.execRolRm8One d s
  | .rolRmvOne d => Sys2Proof.Machine.execRolRmvOne d s
  | .rolRm8Cl d => Sys2Proof.Machine.execRolRm8Cl d s
  | .rolRmvCl d => Sys2Proof.Machine.execRolRmvCl d s
  | .rorRm8Imm8 d imm => Sys2Proof.Machine.execRorRm8Imm8 d imm s
  | .rorRmvImm8 d imm => Sys2Proof.Machine.execRorRmvImm8 d imm s
  | .rorRm8One d => Sys2Proof.Machine.execRorRm8One d s
  | .rorRmvOne d => Sys2Proof.Machine.execRorRmvOne d s
  | .rorRm8Cl d => Sys2Proof.Machine.execRorRm8Cl d s
  | .rorRmvCl d => Sys2Proof.Machine.execRorRmvCl d s
  | .rclRm8Imm8 d imm => Sys2Proof.Machine.execRclRm8Imm8 d imm s
  | .rclRmvImm8 d imm => Sys2Proof.Machine.execRclRmvImm8 d imm s
  | .rclRm8One d => Sys2Proof.Machine.execRclRm8One d s
  | .rclRmvOne d => Sys2Proof.Machine.execRclRmvOne d s
  | .rclRm8Cl d => Sys2Proof.Machine.execRclRm8Cl d s
  | .rclRmvCl d => Sys2Proof.Machine.execRclRmvCl d s
  | .rcrRm8Imm8 d imm => Sys2Proof.Machine.execRcrRm8Imm8 d imm s
  | .rcrRmvImm8 d imm => Sys2Proof.Machine.execRcrRmvImm8 d imm s
  | .rcrRm8One d => Sys2Proof.Machine.execRcrRm8One d s
  | .rcrRmvOne d => Sys2Proof.Machine.execRcrRmvOne d s
  | .rcrRm8Cl d => Sys2Proof.Machine.execRcrRm8Cl d s
  | .rcrRmvCl d => Sys2Proof.Machine.execRcrRmvCl d s
  | .shlRm8Imm8 d imm => Sys2Proof.Machine.execShlRm8Imm8 d imm s
  | .shlRmvImm8 d imm => Sys2Proof.Machine.execShlRmvImm8 d imm s
  | .shlRm8One d => Sys2Proof.Machine.execShlRm8One d s
  | .shlRmvOne d => Sys2Proof.Machine.execShlRmvOne d s
  | .shlRm8Cl d => Sys2Proof.Machine.execShlRm8Cl d s
  | .shlRmvCl d => Sys2Proof.Machine.execShlRmvCl d s
  | .shrRm8Imm8 d imm => Sys2Proof.Machine.execShrRm8Imm8 d imm s
  | .shrRmvImm8 d imm => Sys2Proof.Machine.execShrRmvImm8 d imm s
  | .shrRm8One d => Sys2Proof.Machine.execShrRm8One d s
  | .shrRmvOne d => Sys2Proof.Machine.execShrRmvOne d s
  | .shrRm8Cl d => Sys2Proof.Machine.execShrRm8Cl d s
  | .shrRmvCl d => Sys2Proof.Machine.execShrRmvCl d s
  | .sarRm8Imm8 d imm => Sys2Proof.Machine.execSarRm8Imm8 d imm s
  | .sarRmvImm8 d imm => Sys2Proof.Machine.execSarRmvImm8 d imm s
  | .sarRm8One d => Sys2Proof.Machine.execSarRm8One d s
  | .sarRmvOne d => Sys2Proof.Machine.execSarRmvOne d s
  | .sarRm8Cl d => Sys2Proof.Machine.execSarRm8Cl d s
  | .sarRmvCl d => Sys2Proof.Machine.execSarRmvCl d s
  | .retImm16 imm => Sys2Proof.Machine.execRetImm16 imm s
  | .ret => Sys2Proof.Machine.execRet s
  | .lesRvM16v r m => Sys2Proof.Machine.execLesRvM16v r m s
  | .ldsRvM16v r m => Sys2Proof.Machine.execLdsRvM16v r m s
  | .movRm8Imm8 d imm => Sys2Proof.Machine.execMovRm8Imm8 d imm s
  | .movRmvImmv d imm => Sys2Proof.Machine.execMovRmvImmv d imm s
  | .enterImm16Imm8 size level => Sys2Proof.Machine.execEnterImm16Imm8 size level s
  | .leave => Sys2Proof.Machine.execLeave s
  | .retfImm16 imm => Sys2Proof.Machine.execRetfImm16 imm s
  | .retf => Sys2Proof.Machine.execRetf s
  | .int3 => Sys2Proof.Machine.execInt3 s
  | .intImm8 imm => Sys2Proof.Machine.execIntImm8 imm s
  | .into => Sys2Proof.Machine.execInto s
  | .iret => Sys2Proof.Machine.execIret s
  | .aam base => Sys2Proof.Machine.execAam base s
  | .aad base => Sys2Proof.Machine.execAad base s
  | .xlat => Sys2Proof.Machine.execXlat s
  | .esc op reg rm => Sys2Proof.Machine.execEsc op reg rm s
  | .fninit => Sys2Proof.Machine.execFninit s
  | .fnstswAx => Sys2Proof.Machine.execFnstswAx s
  | .fnstswM16 m => Sys2Proof.Machine.execFnstswM16 m s
  | .fnstcwM16 m => Sys2Proof.Machine.execFnstcwM16 m s
  | .fldcwM16 m => Sys2Proof.Machine.execFldcwM16 m s
  | .loopneRel8 rel => Sys2Proof.Machine.execLoopneRel8 rel s
  | .loopeRel8 rel => Sys2Proof.Machine.execLoopeRel8 rel s
  | .loopRel8 rel => Sys2Proof.Machine.execLoopRel8 rel s
  | .jcxzRel8 rel => Sys2Proof.Machine.execJcxzRel8 rel s
  | .inAlImm8 imm => Sys2Proof.Machine.execInAlImm8 imm s
  | .inEaxImm8 imm => Sys2Proof.Machine.execInEaxImm8 imm s
  | .outImm8Al imm => Sys2Proof.Machine.execOutImm8Al imm s
  | .outImm8Eax imm => Sys2Proof.Machine.execOutImm8Eax imm s
  | .callRelv rel => Sys2Proof.Machine.execCallRelv rel s
  | .jmpRelv rel => Sys2Proof.Machine.execJmpRelv rel s
  | .jmpPtr16v off sel => Sys2Proof.Machine.execJmpPtr16v off sel s
  | .jmpRel8 rel => Sys2Proof.Machine.execJmpRel8 rel s
  | .inAlDx => Sys2Proof.Machine.execInAlDx s
  | .inEaxDx => Sys2Proof.Machine.execInEaxDx s
  | .outDxAl => Sys2Proof.Machine.execOutDxAl s
  | .outDxEax => Sys2Proof.Machine.execOutDxEax s
  | .hlt => Sys2Proof.Machine.execHlt s
  | .cmc => Sys2Proof.Machine.execCmc s
  | .testRm8Imm8 d imm => Sys2Proof.Machine.execTestRm8Imm8 d imm s
  | .testRmvImmv d imm => Sys2Proof.Machine.execTestRmvImmv d imm s
  | .notRm8 d => Sys2Proof.Machine.execNotRm8 d s
  | .notRmv d => Sys2Proof.Machine.execNotRmv d s
  | .negRm8 d => Sys2Proof.Machine.execNegRm8 d s
  | .negRmv d => Sys2Proof.Machine.execNegRmv d s
  | .mulRm8 d => Sys2Proof.Machine.execMulRm8 d s
  | .mulRmv d => Sys2Proof.Machine.execMulRmv d s
  | .imulRm8 d => Sys2Proof.Machine.execImulRm8 d s
  | .imulRmv d => Sys2Proof.Machine.execImulRmv d s
  | .divRm8 d => Sys2Proof.Machine.execDivRm8 d s
  | .divRmv d => Sys2Proof.Machine.execDivRmv d s
  | .idivRm8 d => Sys2Proof.Machine.execIdivRm8 d s
  | .idivRmv d => Sys2Proof.Machine.execIdivRmv d s
  | .clc => Sys2Proof.Machine.execClc s
  | .stc => Sys2Proof.Machine.execStc s
  | .cli => Sys2Proof.Machine.execCli s
  | .sti => Sys2Proof.Machine.execSti s
  | .cld => Sys2Proof.Machine.execCld s
  | .std => Sys2Proof.Machine.execStd s
  | .incRm8 d => Sys2Proof.Machine.execIncRm8 d s
  | .decRm8 d => Sys2Proof.Machine.execDecRm8 d s
  | .incRmv d => Sys2Proof.Machine.execIncRmv d s
  | .decRmv d => Sys2Proof.Machine.execDecRmv d s
  | .callRmv d => Sys2Proof.Machine.execCallRmv d s
  | .callM16v m => Sys2Proof.Machine.execCallM16v m s
  | .jmpRmv d => Sys2Proof.Machine.execJmpRmv d s
  | .jmpM16v m => Sys2Proof.Machine.execJmpM16v m s
  | .pushMv d => Sys2Proof.Machine.execPushMv d s
  | .sldtRm16 d => Sys2Proof.Machine.execSldtRm16 d s
  | .strRm16 d => Sys2Proof.Machine.execStrRm16 d s
  | .lldtRm16 d => Sys2Proof.Machine.execLldtRm16 d s
  | .ltrRm16 d => Sys2Proof.Machine.execLtrRm16 d s
  | .verrRm16 d => Sys2Proof.Machine.execVerrRm16 d s
  | .verwRm16 d => Sys2Proof.Machine.execVerwRm16 d s
  | .sgdtM m => Sys2Proof.Machine.execSgdtM m s
  | .sidtM m => Sys2Proof.Machine.execSidtM m s
  | .lgdtM m => Sys2Proof.Machine.execLgdtM m s
  | .lidtM m => Sys2Proof.Machine.execLidtM m s
  | .smswRm16 d => Sys2Proof.Machine.execSmswRm16 d s
  | .lmswRm16 d => Sys2Proof.Machine.execLmswRm16 d s
  | .invlpgM m => Sys2Proof.Machine.execInvlpgM m s
  | .larRvRmv r m => Sys2Proof.Machine.execLarRvRmv r m s
  | .lslRvRmv r m => Sys2Proof.Machine.execLslRvRmv r m s
  | .clts => Sys2Proof.Machine.execClts s
  | .invd => Sys2Proof.Machine.execInvd s
  | .wbinvd => Sys2Proof.Machine.execWbinvd s
  | .movR32CRn r n => Sys2Proof.Machine.execMovR32CRn r n s
  | .movR32DRn r n => Sys2Proof.Machine.execMovR32DRn r n s
  | .movCRnR32 n r => Sys2Proof.Machine.execMovCRnR32 n r s
  | .movDRnR32 n r => Sys2Proof.Machine.execMovDRnR32 n r s
  | .movR32TRn r n => Sys2Proof.Machine.execMovR32TRn r n s
  | .movTRnR32 n r => Sys2Proof.Machine.execMovTRnR32 n r s
  | .joRelv rel => Sys2Proof.Machine.execJoRelv rel s
  | .jnoRelv rel => Sys2Proof.Machine.execJnoRelv rel s
  | .jbRelv rel => Sys2Proof.Machine.execJbRelv rel s
  | .jaeRelv rel => Sys2Proof.Machine.execJaeRelv rel s
  | .jeRelv rel => Sys2Proof.Machine.execJeRelv rel s
  | .jneRelv rel => Sys2Proof.Machine.execJneRelv rel s
  | .jbeRelv rel => Sys2Proof.Machine.execJbeRelv rel s
  | .jaRelv rel => Sys2Proof.Machine.execJaRelv rel s
  | .jsRelv rel => Sys2Proof.Machine.execJsRelv rel s
  | .jnsRelv rel => Sys2Proof.Machine.execJnsRelv rel s
  | .jpRelv rel => Sys2Proof.Machine.execJpRelv rel s
  | .jnpRelv rel => Sys2Proof.Machine.execJnpRelv rel s
  | .jlRelv rel => Sys2Proof.Machine.execJlRelv rel s
  | .jgeRelv rel => Sys2Proof.Machine.execJgeRelv rel s
  | .jleRelv rel => Sys2Proof.Machine.execJleRelv rel s
  | .jgRelv rel => Sys2Proof.Machine.execJgRelv rel s
  | .setoRm8 d => Sys2Proof.Machine.execSetoRm8 d s
  | .setnoRm8 d => Sys2Proof.Machine.execSetnoRm8 d s
  | .setbRm8 d => Sys2Proof.Machine.execSetbRm8 d s
  | .setaeRm8 d => Sys2Proof.Machine.execSetaeRm8 d s
  | .seteRm8 d => Sys2Proof.Machine.execSeteRm8 d s
  | .setneRm8 d => Sys2Proof.Machine.execSetneRm8 d s
  | .setbeRm8 d => Sys2Proof.Machine.execSetbeRm8 d s
  | .setaRm8 d => Sys2Proof.Machine.execSetaRm8 d s
  | .setsRm8 d => Sys2Proof.Machine.execSetsRm8 d s
  | .setnsRm8 d => Sys2Proof.Machine.execSetnsRm8 d s
  | .setpRm8 d => Sys2Proof.Machine.execSetpRm8 d s
  | .setnpRm8 d => Sys2Proof.Machine.execSetnpRm8 d s
  | .setlRm8 d => Sys2Proof.Machine.execSetlRm8 d s
  | .setgeRm8 d => Sys2Proof.Machine.execSetgeRm8 d s
  | .setleRm8 d => Sys2Proof.Machine.execSetleRm8 d s
  | .setgRm8 d => Sys2Proof.Machine.execSetgRm8 d s
  | .pushFs => Sys2Proof.Machine.execPushFs s
  | .popFs => Sys2Proof.Machine.execPopFs s
  | .pushGs => Sys2Proof.Machine.execPushGs s
  | .popGs => Sys2Proof.Machine.execPopGs s
  | .btRmvRv d r => Sys2Proof.Machine.execBtRmvRv d r s
  | .btsRmvRv d r => Sys2Proof.Machine.execBtsRmvRv d r s
  | .btrRmvRv d r => Sys2Proof.Machine.execBtrRmvRv d r s
  | .btcRmvRv d r => Sys2Proof.Machine.execBtcRmvRv d r s
  | .btRmvImm8 d imm => Sys2Proof.Machine.execBtRmvImm8 d imm s
  | .btsRmvImm8 d imm => Sys2Proof.Machine.execBtsRmvImm8 d imm s
  | .btrRmvImm8 d imm => Sys2Proof.Machine.execBtrRmvImm8 d imm s
  | .btcRmvImm8 d imm => Sys2Proof.Machine.execBtcRmvImm8 d imm s
  | .shldRmvRvImm8 d r imm => Sys2Proof.Machine.execShldRmvRvImm8 d r imm s
  | .shldRmvRvCl d r => Sys2Proof.Machine.execShldRmvRvCl d r s
  | .shrdRmvRvImm8 d r imm => Sys2Proof.Machine.execShrdRmvRvImm8 d r imm s
  | .shrdRmvRvCl d r => Sys2Proof.Machine.execShrdRmvRvCl d r s
  | .imulRvRmv r m => Sys2Proof.Machine.execImulRvRmv r m s
  | .lssRvM16v r m => Sys2Proof.Machine.execLssRvM16v r m s
  | .lfsRvM16v r m => Sys2Proof.Machine.execLfsRvM16v r m s
  | .lgsRvM16v r m => Sys2Proof.Machine.execLgsRvM16v r m s
  | .movzxRvRm8 r m => Sys2Proof.Machine.execMovzxRvRm8 r m s
  | .movzxR32Rm16 r m => Sys2Proof.Machine.execMovzxR32Rm16 r m s
  | .movsxRvRm8 r m => Sys2Proof.Machine.execMovsxRvRm8 r m s
  | .movsxR32Rm16 r m => Sys2Proof.Machine.execMovsxR32Rm16 r m s
  | .bsfRvRmv r m => Sys2Proof.Machine.execBsfRvRmv r m s
  | .bsrRvRmv r m => Sys2Proof.Machine.execBsrRvRmv r m s
  | .cmpxchgRm8R8 d r => Sys2Proof.Machine.execCmpxchgRm8R8 d r s
  | .cmpxchgRmvRv d r => Sys2Proof.Machine.execCmpxchgRmvRv d r s
  | .xaddRm8R8 d r => Sys2Proof.Machine.execXaddRm8R8 d r s
  | .xaddRmvRv d r => Sys2Proof.Machine.execXaddRmvRv d r s
  | .bswapR32 r => Sys2Proof.Machine.execBswapR32 r s

end Sys2Proof.Machine
end

