-- ==== Sys2Proof/Machine/Events.lean ====
section
/-! DEFINITION. What is taken at an instruction boundary: debug traps, NMI, the coprocessor overrun, INTR, and the states
without execution (spec/60_exceptions.md R676 to R678, R692, R711, R731; spec/61_tasks_v86_debug.md R799). -/
namespace Sys2Proof.Machine

/-- What can be taken between two instructions. -/
inductive Event where
  /-- INT 1 for what the last instruction left. -/
  | debugTrap
  | nmi
  /-- INT 9. -/
  | overrun
  | intr (n : Byte)
deriving DecidableEq, Repr

/-- A debug cause is recorded. -/
def State.trapPending (s : State) : Bool :=
  s.trap.singleStep || s.trap.taskSwitch || decide (s.trap.enabled ≠ 0)

/-- INTR is accepted: IF = 1 and no shadow of STI (R678). -/
def State.acceptedIntr (s : State) : Option Event :=
  if s.flags.intf ∧ s.shadow ≠ .sti then s.pins.intr.map .intr else none

/-- NMI is accepted unless it is blocked (R677). -/
def State.acceptedNmi (s : State) : Option Event := if s.nmiPending ∧ !s.nmiBlocked then some .nmi else none

def State.acceptedTrap (s : State) : Option Event := if s.trapPending then some .debugTrap else none

def State.acceptedOverrun (s : State) : Option Event := if s.int9Pending then some .overrun else none

/-- The event taken now, in the order of R692: the 8086 takes the single-step trap last, later processors first. The shadow
after a load of SS holds off all (spec/10_state.md R61). DESIGN CHOICE: NMI ends the shutdown state also while NMI is
blocked (log 46). -/
def State.event (s : State) : Option Event :=
  if s.cur.len ≠ 0 then none
  else match s.run with
    | .shutdown => if s.nmiPending then some .nmi else none
    | .running | .halted =>
      if s.shadow = .ss then none
      else if s.level = 0 then s.acceptedNmi.or (s.acceptedIntr.or s.acceptedTrap)
      else s.acceptedTrap.or (s.acceptedNmi.or (s.acceptedOverrun.or s.acceptedIntr))

/-- The address an event between instructions saves: that of the next instruction; in the middle of a repeated string
instruction the 8086 saves that of its last prefix (spec/46_string_bcd_control.md R481). -/
def State.resumeIp (s : State) : Dword := if s.level = 0 then (s.repeating.map (·.restart)).getD s.eip else s.eip

/-- Delivers an external interrupt; an exception meanwhile is delivered in its place (R710). -/
def State.takeExternal (s : State) (n : Byte) : Host.Outcome State Fault Refusal :=
  match interrupt n none .ext s.resumeIp s.eip s.flags.rf s with
  | .ok (_, t) => .next t
  | .error (.exn e) => s.deliverExn s.resumeIp e
  | .error .shutdown => .next s.shutDown
  | .error (.stop f) => .fault f

/-- The bits of DR6 a recorded trap sets; breakpoints that match and are not enabled may show too (93 U20). -/
def TrapRecord.dr6 (t : TrapRecord) (u : BitVec 4) : Dword :=
  bitAt t.singleStep 14 ||| bitAt t.taskSwitch 15 ||| (t.enabled ||| (t.disabled &&& u)).setWidth 32

/-- INT 1 for what is recorded: a trap, with the address of the next instruction; DR6 exists from the 80386. -/
def State.takeTrap (s : State) : Host.Outcome State Fault Refusal :=
  let bits := if 3 ≤ s.level then s.trap.dr6 ((Config.free s.oracle).setWidth 4) else 0
  { s with trap := .clear, oracle := s.oracle + 1 }.deliverExn s.resumeIp
    { Exn.fault 1 none with cls := .trap, dr6 := bits }

/-- Takes an event. -/
def State.take (s : State) (e : Event) : Host.Outcome State Fault Refusal :=
  match e with
  | .debugTrap => s.takeTrap
  | .nmi => { s with nmiPending := false, nmiBlocked := decide (3 ≤ s.level) }.takeExternal 2
  | .overrun =>
    { s with int9Pending := false }.deliverExn s.resumeIp { Exn.fault 9 none with cls := .abort }
  | .intr n => { s with pins := { s.pins with intr := none } }.takeExternal n

/-- What happens instead of an instruction, if anything: RESET, a cache flush by the FLUSH pin, an event, or nothing while
the processor is halted or shut down. -/
def State.insteadOfInstr (s : State) : Option (Host.Outcome State Fault Refusal) :=
  if s.pins.reset then some (.next s.applyReset)
  else if s.pins.flush then some (.next { s.flushCache with pins := { s.pins with flush := false } })
  else match s.event with
    | some e => some (s.take e)
    | none => if s.run = .running then none else some (.next s)

end Sys2Proof.Machine
end

