-- ==== Sys2Proof/Machine/Fetch.lean ====
section
/-! DEFINITION. Fetching and decoding the instruction at CS:IP (spec/10_state.md R15, spec/30_encoding.md R241, R283;
spec/21_protection.md R136; spec/20_memory.md R110; spec/92_eei_decisions.md D3, D14). -/
namespace Sys2Proof.Machine

/-- The instruction breakpoint: INT 1 before anything else of the instruction, its prefixes and the iterations of a repeated
one included, unless RF = 1 (spec/61_tasks_v86_debug.md R795, R796). -/
def instrBreak : M Unit := do
  let s ← get
  if s.cur.len = 0 ∧ s.repeating = none ∧ s.flags.rf = false ∧ s.instrHits s.eip true ≠ 0 then
    let u ← freeBits 4
    raise { Exn.fault 1 none with dr6 := (s.instrHits s.eip true ||| (s.instrHits s.eip false &&& u)).setWidth 32 }
  else pure ()

/-- The checks of a fetch at the next offset (R136, D3): none on the 8086; running off the segment before the first change
of CS after reset stops the 80386 and later (spec/70_reset_and_hazards.md R816). -/
def fetchCheck : M Unit := do
  let s ← get
  if s.level = 0 then pure ()
  else
    check (s.cs.valid && s.cs.executable) gp0
    if s.cs.inLimit s.nextIp.toNat 1 then pure ()
    else if s.resetLatch ∧ 3 ≤ s.level then fun _ => .error .shutdown
    else gp0

/-- The byte the prefetch queue delivers for an address whose memory holds `b`: that, or the value it had when the queue may
have taken it (D14). -/
def queuedByte (a : Nat) (b : Byte) : M Byte := do
  let s ← get
  match (s.stale.filter fun e => decide (e.addr = a ∧ e.ahead = s.cur.len)).map (·.old) with
  | [] => return b
  | old :: more =>
    let k ← freeBelow (more.length + 2)
    return (b :: old :: more).getD k b

/-- Fetches the byte after those fetched of the instruction from memory. -/
def fetchMemory : M Byte := do
  let s ← get
  check (match s.cfg.maxLength with | none => true | some n => decide (s.cur.len < n)) gp0
  fetchCheck
  let ps ← placesOf .cs .read s.nextIp.toNat 1
  let bs ← readPlaces ps
  queuedByte ((ps.map (·.addr)).headD 0) (bs.headD 0)

/-- The byte a repeated instruction was first fetched as, at the position reached (spec/46_string_bcd_control.md R480: its
iterations are one instruction, fetched once). -/
def State.repeatedByte (s : State) : Option Byte := s.repeating.bind fun r => r.code[s.cur.len]?

/-- A byte is recorded as fetched. -/
def State.noteByte (s : State) (b : Byte) : State :=
  { s with cur := { s.cur with len := s.cur.len + 1, code := s.cur.code ++ [b] } }

/-- Fetches the next instruction byte. -/
def fetchByte : M Byte := do
  let s ← get
  let b ← match s.repeatedByte with
    | some b => pure b
    | none => fetchMemory
  modify fun s => s.noteByte b
  return b

noncomputable section

/-- Fetches bytes until they make an instruction; `bs` are those already fetched of it. -/
def fetchInstr (c : DecodeCtx) : Nat → List Byte → M Instr
  | 0, _ => undefinedOpcode
  | n + 1, bs => do
    let b ← fetchByte
    match decode c (bs ++ [b]) with
    | .ok i _ => return i
    | .more => fetchInstr c n (bs ++ [b])
    | .undef => undefinedOpcode

/-- The instruction at CS:IP, after the prefixes recorded; no instruction is longer than 15 bytes without prefixes. -/
def fetch : M Instr := do
  instrBreak
  let s ← get
  fetchInstr s.decodeCtx 15 []

end

/-- Where the byte `i` of the next instruction is fetched from. -/
def State.fetchAddr (s : State) (i : Nat) : Nat :=
  let t := { s with cur := { s.cur with len := s.cur.len + i } }
  match placesOf .cs .read t.nextIp.toNat 1 t with
  | .ok ([p], _) => p.addr
  | _ => s.physical (t.linear .cs t.nextIp.toNat)

/-- Stores bytes where the next instruction is fetched, from byte `i` on. -/
def State.placeCode (s : State) (i : Nat) : List Byte → List Host.Cell → List Host.Cell
  | [], m => m
  | b :: rest, m => s.placeCode (i + 1) rest (Memory.write m (s.fetchAddr i) b)

/-- The bytes at the fetch address, seen by the next fetch: nothing of the cache or the prefetch queue hides them. -/
def State.withCode (s : State) (bs : List Byte) : State :=
  { s with
    mem := s.placeCode 0 bs s.mem
    cache := if s.cacheOn then s.flushCache.cache else s.cache
    stale := []
    repeating := none }

end Sys2Proof.Machine
end

