-- ==== Sys2Proof/Machine/Step.lean ====
section
/-! DEFINITION. One step of the machine: what the outside world or the last instruction asks for, or else one instruction
(or prefix byte, or iteration of a repeated string instruction). -/
namespace Sys2Proof.Machine

noncomputable section

/-- Fetches and runs one instruction; a fault of the fetch is delivered. -/
def State.runInstr (s : State) : Host.Outcome State Fault Refusal :=
  match fetch s with
  | .ok (i, t) => exec i t
  | .error (.exn e) => s.deliverExn s.nextIp e
  | .error .shutdown => .next s.shutDown
  | .error (.stop f) => .fault f

/-- One step. -/
def step (s : State) : Host.Outcome State Fault Refusal :=
  match s.insteadOfInstr with
  | some o => o
  | none => s.runInstr

/-- The state with the instruction of a table word where the next step fetches it. -/
def State.withFetchWord (s : State) (nbits w : Nat) : State := s.withCode (tableBytes nbits w)

end

end Sys2Proof.Machine
end

