-- ==== Sys2Proof/Machine/FpuData.lean ====
section
/-! DEFINITION. The data of the floating-point unit: the register stack and the tag word (spec/10_state.md R55, R58), the
formats and special values (spec/49_486_fpu_instructions.md R653, R654, R656) and the recording of errors (R657, R658).
No instruction of the spec calls these: the numeric effect of an ESC opcode is `Config.fpuExec` (R660). They say what the
registers that State holds mean. -/
namespace Sys2Proof

/-! ## Formats (R654) -/

/-- A real format: widths of the exponent and mantissa, the bias, and whether the leading one is stored. -/
structure RealFormat where
  expBits : Nat
  manBits : Nat
  bias : Nat
  leadStored : Bool
deriving DecidableEq, Repr

def RealFormat.single : RealFormat := { expBits := 8, manBits := 23, bias := 0x7F, leadStored := false }
def RealFormat.double : RealFormat := { expBits := 11, manBits := 52, bias := 0x3FF, leadStored := false }
def RealFormat.extended : RealFormat := { expBits := 15, manBits := 64, bias := 0x3FFF, leadStored := true }

/-- The width of the format. -/
def RealFormat.width (f : RealFormat) : Nat := 1 + f.expBits + f.manBits

/-- Sign, stored exponent and stored mantissa of a number. -/
structure RealParts where
  sign : Bool
  exp : Nat
  man : Nat
deriving DecidableEq, Repr

/-- The fields, from the top bit down: S, exponent, mantissa. -/
def RealFormat.parts (f : RealFormat) (v : Nat) : RealParts where
  sign := decide (v / 2 ^ (f.expBits + f.manBits) % 2 = 1)
  exp := v / 2 ^ f.manBits % 2 ^ f.expBits
  man := v % 2 ^ f.manBits

/-- The bits of the fields. -/
def RealFormat.pack (f : RealFormat) (p : RealParts) : Nat :=
  p.sign.toNat * 2 ^ (f.expBits + f.manBits) + p.exp % 2 ^ f.expBits * 2 ^ f.manBits + p.man % 2 ^ f.manBits

/-- Bits of the mantissa below the leading one. -/
def RealFormat.fracBits (f : RealFormat) : Nat := if f.leadStored then f.manBits - 1 else f.manBits

/-- Kinds of contents (R656). -/
inductive RealKind where
  | zero | normal | denormal | infinity | signaling | quiet
  /-- A nonzero exponent without the stored leading one (extended format only). -/
  | unsupported
deriving DecidableEq, Repr

/-- The kind of a number. DESIGN CHOICE: an extended number with exponent field 0 is a denormal also when its stored leading
bit is 1 (log 15). -/
def RealFormat.kind (f : RealFormat) (v : Nat) : RealKind :=
  let p := f.parts v
  let frac := p.man % 2 ^ f.fracBits
  let lead := decide (p.man / 2 ^ f.fracBits = 1)
  if p.exp = 0 then (if p.man = 0 then .zero else .denormal)
  else if f.leadStored && !lead then .unsupported
  else if p.exp = 2 ^ f.expBits - 1 then
    if frac = 0 then .infinity else if frac < 2 ^ (f.fracBits - 1) then .signaling else .quiet
  else .normal

/-- The mantissa with its leading one, an integer: the value of a normal number is `(-1)^sign * significand *
2^(exp - bias - fracBits)` (R654). No hidden one is added with exponent 0: a zero or a denormal (R656). -/
def RealFormat.significand (f : RealFormat) (p : RealParts) : Nat :=
  if f.leadStored ∨ p.exp = 0 then p.man else p.man + 2 ^ f.fracBits

/-- The bits of an infinity (R656). -/
def RealFormat.infinity (f : RealFormat) (sign : Bool) : Nat :=
  f.pack { sign := sign, exp := 2 ^ f.expBits - 1, man := if f.leadStored then 2 ^ f.fracBits else 0 }

/-- The largest finite number. -/
def RealFormat.largest (f : RealFormat) (sign : Bool) : Nat :=
  f.pack { sign := sign, exp := 2 ^ f.expBits - 2, man := 2 ^ f.manBits - 1 }

/-- A quiet or signaling NaN. -/
def RealKind.isNan : RealKind → Bool
  | .signaling | .quiet => true
  | .zero | .normal | .denormal | .infinity | .unsupported => false

/-- The place of a number that is no NaN in the order of R656: between the infinities, both zeros together. -/
def RealFormat.rank (f : RealFormat) (v : Nat) : Int :=
  let size : Int := (v % 2 ^ (f.width - 1) : Nat)
  if (f.parts v).sign then -size else size

/-- The indefinite value of a real format (R656): sign 1 PRESUMED, as the rule marks it. -/
def RealFormat.indefinite (f : RealFormat) : Nat :=
  f.pack
    { sign := true, exp := 2 ^ f.expBits - 1
      man := (if f.leadStored then 2 ^ f.fracBits else 0) + 2 ^ (f.fracBits - 1) }

/-- The indefinite value of an integer format of `w` bits. -/
def integerIndefinite (w : Nat) : BitVec w := BitVec.intMin w

/-- A packed BCD number of 18 digits, digit 0 lowest, the sign in bit 79 (R653). -/
def bcdDigits : Nat → BitVec 80 → Nat
  | 0, _ => 0
  | n + 1, v => v.toNat % 16 + 10 * bcdDigits n (v >>> 4)

def bcdValue (v : BitVec 80) : Int := if v.msb then -(bcdDigits 18 v : Int) else bcdDigits 18 v

/-- The packed BCD digits of a number, digit 0 lowest. -/
def bcdPack : Nat → Nat → Nat
  | 0, _ => 0
  | n + 1, v => v % 10 + 16 * bcdPack n (v / 10)

/-- The packed BCD form of an integer of at most 18 digits. -/
def bcdOf (n : Int) : BitVec 80 := BitVec.ofNat 80 (bcdPack 18 n.natAbs + if n < 0 then 2 ^ 79 else 0)

/-! ## Errors, rounding, conversion (R653, R656, R657; rounding directions and the sign of an overflow PRESUMED from the
IEEE standard that R653 names) -/

/-- The six errors, by the number of their flag and mask bit. -/
inductive FpuError where
  | invalid | denormal | zeroDivide | overflow | underflow | precision
deriving DecidableEq, Repr

/-- Rounding directions (spec/10_state.md R56). -/
inductive Rounding where
  | nearest | down | up | truncate
deriving DecidableEq, Repr

/-- A direction rounds a number of a sign away from zero, where what is dropped is `rest` of `unit` and `odd` says that the
kept part is odd. -/
def Rounding.away (r : Rounding) (sign odd : Bool) (rest unit : Nat) : Bool :=
  match r with
  | .nearest => decide (unit < 2 * rest) || (decide (2 * rest = unit) && odd)
  | .down => sign && decide (rest ≠ 0)
  | .up => !sign && decide (rest ≠ 0)
  | .truncate => false

/-- The exact number `(-1)^sign * man * 2^exp`. -/
structure Exact where
  sign : Bool
  man : Nat
  exp : Int
deriving DecidableEq, Repr

/-- A finite number of a format; the exponent field 0 stands for the exponent 1. -/
def RealFormat.exact (f : RealFormat) (v : Nat) : Exact :=
  let p := f.parts v
  { sign := p.sign, man := f.significand p, exp := (max p.exp 1 : Nat) - (f.bias : Int) - f.fracBits }

/-- An integer, of any of the integer formats or of packed BCD. -/
def Exact.ofInt (n : Int) : Exact := { sign := decide (n < 0), man := n.natAbs, exp := 0 }

/-- The multiple of `2^q` a number is rounded to, in that unit, and whether it changed. -/
def Exact.roundAt (x : Exact) (r : Rounding) (q : Int) : Nat × Bool :=
  if q ≤ x.exp then (x.man * 2 ^ (x.exp - q).toNat, false)
  else
    let unit := 2 ^ (q - x.exp).toNat
    let kept := x.man / unit
    let rest := x.man % unit
    (kept + (r.away x.sign (decide (kept % 2 = 1)) rest unit).toNat, decide (rest ≠ 0))

/-- Masked overflow (R657): the largest finite number or infinity, as the direction says. -/
def RealFormat.overflowed (f : RealFormat) (r : Rounding) (sign : Bool) : Nat :=
  match r, sign with
  | .nearest, _ | .up, false | .down, true => f.infinity sign
  | .truncate, _ | .up, true | .down, false => f.largest sign

/-- An exact number in a format, with the errors of R657 it makes; the number is their masked result: infinity or the
largest for an overflow, a denormal or zero for an underflow, else rounded. A nonzero number that comes out below the
smallest normalised one is both of R657's rows, the denormal result ("nenormalizovaný výsledek") and the underflow.
DESIGN CHOICE: how small it is is judged after rounding, and an exact denormal counts too. PRESUMED: a zero keeps the sign
of the number it comes from, a negative number that underflows gives -0 (log 15). -/
def RealFormat.ofExact (f : RealFormat) (r : Rounding) (x : Exact) : Nat × List FpuError :=
  if x.man = 0 then (f.pack { sign := x.sign, exp := 0, man := 0 }, [])
  else
    let low : Int := 1 - (f.bias : Int) - f.fracBits
    let q := max ((Nat.log2 x.man : Int) + x.exp - f.fracBits) low
    let (m, inexact) := x.roundAt r q
    let (m, q) := if 2 ^ (f.fracBits + 1) ≤ m then (m / 2, q + 1) else (m, q)
    let field := if m < 2 ^ f.fracBits then 0 else (q - low).toNat + 1
    let lost := if inexact then [FpuError.precision] else []
    if 2 ^ f.expBits - 1 ≤ field then (f.overflowed r x.sign, .overflow :: .precision :: [])
    else
      (f.pack { sign := x.sign, exp := field, man := m },
        if field = 0 then .denormal :: .underflow :: lost else lost)

/-- A number of a real format in the 80-bit form the unit holds it in (R653), with its errors: every NaN and an unsupported
form are refused as invalid (R656, R657), a denormal is reported as one. -/
def RealFormat.widen (f : RealFormat) (v : Nat) : Nat × List FpuError :=
  let p := f.parts v
  let x := RealFormat.extended
  match f.kind v with
  | .zero => (x.pack { sign := p.sign, exp := 0, man := 0 }, [])
  | .infinity => (x.infinity p.sign, [])
  | .quiet | .signaling | .unsupported => (x.indefinite, [.invalid])
  | .denormal => if f.leadStored then (v, [.denormal]) else ((x.ofExact .nearest (f.exact v)).1, [.denormal])
  | .normal => ((x.ofExact .nearest (f.exact v)).1, [])

/-- An integer in the 80-bit form: exact, it has 64 bits of mantissa. -/
def widenInt (n : Int) : Nat := (RealFormat.extended.ofExact .nearest (.ofInt n)).1

/-- The 80-bit form in a real format, with its errors (R653, R657), those of the operand and of the result, each once. -/
def RealFormat.narrow (f : RealFormat) (r : Rounding) (v : Nat) : Nat × List FpuError :=
  let x := RealFormat.extended
  let p := x.parts v
  match x.kind v with
  | .zero => (f.pack { sign := p.sign, exp := 0, man := 0 }, [])
  | .infinity => (f.infinity p.sign, [])
  | .quiet | .signaling | .unsupported => (f.indefinite, [.invalid])
  | .denormal => let (n, e) := f.ofExact r (x.exact v); (n, e.insert .denormal)
  | .normal => f.ofExact r (x.exact v)

/-- The 80-bit form rounded to an integer between two bounds, none (an invalid operation) for what is no number there.
DESIGN CHOICE: a value outside the bounds, an infinity too, is an invalid operation and no overflow (log 15). -/
def toInteger (r : Rounding) (lo hi : Int) (v : Nat) : Option (Int × List FpuError) :=
  let x := RealFormat.extended
  match x.kind v with
  | .infinity | .quiet | .signaling | .unsupported => none
  | .zero | .denormal | .normal =>
    let (m, inexact) := (x.exact v).roundAt r 0
    let n : Int := if (x.exact v).sign then -m else m
    if n < lo ∨ hi < n then none
    else some (n, (if x.kind v = .denormal then [.denormal] else []) ++ if inexact then [.precision] else [])

/-- The 80-bit form in an integer format of `w` bits: the indefinite value when it is invalid (R657). -/
def narrowInt (w : Nat) (r : Rounding) (v : Nat) : BitVec w × List FpuError :=
  match toInteger r (-2 ^ (w - 1)) (2 ^ (w - 1) - 1) v with
  | some (n, e) => (BitVec.ofInt w n, e)
  | none => (integerIndefinite w, [.invalid])

/-- The 80-bit form in packed BCD. -/
def narrowBcd (r : Rounding) (v : Nat) : BitVec 80 × List FpuError :=
  match toInteger r (-(10 ^ 18 - 1)) (10 ^ 18 - 1) v with
  | some (n, e) => (bcdOf n, e)
  | none => (Config.bcdIndefinite, [.invalid])

/-- The operations R657 names. -/
inductive FpuOp where
  | add | sub | mul | div
deriving DecidableEq, Repr

/-- The invalid operations of R657: a NaN operand, an unsupported form, a forbidden operation (PRESUMED, IEEE: the quotient of
infinities among them). -/
def FpuOp.invalid (op : FpuOp) (a b : Nat) : Bool :=
  let x := RealFormat.extended
  let ka := x.kind a
  let kb := x.kind b
  let apart := (x.parts a).sign != (x.parts b).sign
  ka.isNan || kb.isNan || decide (ka = .unsupported) || decide (kb = .unsupported) ||
    match op with
    | .add => decide (ka = .infinity ∧ kb = .infinity) && apart
    | .sub => decide (ka = .infinity ∧ kb = .infinity) && !apart
    | .mul => decide (ka = .zero ∧ kb = .infinity) || decide (ka = .infinity ∧ kb = .zero)
    | .div => decide (ka = .zero ∧ kb = .zero) || decide (ka = .infinity ∧ kb = .infinity)

/-- What decides an operation on 80-bit numbers before any arithmetic (R657): the error and its masked result, the quiet
NaN of an invalid operation or the infinity of a division by zero. -/
def FpuOp.early (op : FpuOp) (a b : Nat) : Option (Nat × FpuError) :=
  let x := RealFormat.extended
  if op.invalid a b then some (x.indefinite, .invalid)
  else if op = .div ∧ x.kind b = .zero ∧ x.kind a ≠ .infinity then
    some (x.infinity ((x.parts a).sign != (x.parts b).sign), .zeroDivide)
  else none

/-- A denormal operand is reported like a denormal result (`RealFormat.ofExact`), and the computation goes on: R657 gives as
the cause "a value" below the smallest normalised number (log 15). -/
def denormalOperand (a b : Nat) : Bool :=
  decide (RealFormat.extended.kind a = .denormal) || decide (RealFormat.extended.kind b = .denormal)

/-! ## Status, control and tags (spec/10_state.md R55 to R58) -/

def FpuError.bit : FpuError → Nat
  | .invalid => 0
  | .denormal => 1
  | .zeroDivide => 2
  | .overflow => 3
  | .underflow => 4
  | .precision => 5

/-- Field TOP. -/
def Fpu.top (f : Fpu) : Nat := (f.status.extractLsb' 11 3).toNat

/-- TOP replaced. -/
def Fpu.setTop (f : Fpu) (t : Nat) : Fpu :=
  { f with status := (f.status &&& 0xC7FF) ||| (BitVec.ofNat 16 (t % 8) <<< 11) }

/-- The register ST(i) names. -/
def Fpu.stIndex (f : Fpu) (i : Nat) : Fin 8 := ⟨(f.top + i) % 8, Nat.mod_lt _ (by decide)⟩

/-- ST(i). -/
def Fpu.st (f : Fpu) (i : Nat) : BitVec 80 := f.regs[f.stIndex i]

/-- The tag of a register. -/
def Fpu.tag (f : Fpu) (r : Fin 8) : BitVec 2 := f.tags.extractLsb' (2 * r.val) 2

/-- A tag replaced. -/
def Fpu.setTag (f : Fpu) (r : Fin 8) (t : BitVec 2) : Fpu :=
  { f with tags := (f.tags &&& ~~~((3 : Word) <<< (2 * r.val))) ||| (t.setWidth 16 <<< (2 * r.val)) }

/-- The tag of contents (R58). -/
def tagOf (v : BitVec 80) : BitVec 2 :=
  match RealFormat.extended.kind v.toNat with
  | .zero => 1
  | .normal => 0
  | .denormal | .infinity | .signaling | .quiet | .unsupported => 2

/-- An error is recorded: its flag, and the summary when it is not masked (R657, R658). -/
def Fpu.note (f : Fpu) (e : FpuError) : Fpu :=
  { f with status := f.status ||| (1 : Word) <<< e.bit }.settle

/-- An error is masked. -/
def Fpu.masked (f : Fpu) (e : FpuError) : Bool := f.control.getLsbD e.bit

/-- A stack fault: invalid operation with SF, and C1 telling overflow from underflow (R55, R57). -/
def Fpu.stackFault (f : Fpu) (full : Bool) : Fpu :=
  let g := { f with status := (f.status &&& 0xFDFF) ||| 0x40 ||| (if full then 0x200 else 0) }
  g.note .invalid

/-- A push (R55): TOP first goes down, then the register takes the value; onto a register that is not empty it is a stack
fault, whose result when masked is the indefinite quiet NaN (R657). DESIGN CHOICE: an unmasked stack fault leaves TOP, the
registers and the tags as they were, here and in `Fpu.pop` (log 15). -/
def Fpu.push (f : Fpu) (v : BitVec 80) : Fpu :=
  let g := f.setTop (f.top + 7)
  let put (g : Fpu) (v : BitVec 80) : Fpu :=
    { g with regs := g.regs.set (g.stIndex 0) v }.setTag (g.stIndex 0) (tagOf v)
  if g.tag (g.stIndex 0) = 3 then put g v
  else if f.masked .invalid then put (g.stackFault true) (BitVec.ofNat 80 RealFormat.extended.indefinite)
  else f.stackFault true

/-- A pop (R55): the value of the top register, which becomes empty, then TOP goes up; of an empty register it is a stack
fault. -/
def Fpu.pop (f : Fpu) : BitVec 80 × Fpu :=
  let gone (g : Fpu) : Fpu := (g.setTag (g.stIndex 0) 3).setTop (g.top + 1)
  if f.tag (f.stIndex 0) ≠ 3 then (f.st 0, gone f)
  else if f.masked .invalid then (BitVec.ofNat 80 RealFormat.extended.indefinite, gone (f.stackFault false))
  else (f.st 0, f.stackFault false)

/-- Field PC: the precision in bits, none for the unused code (R56). -/
def Fpu.precision (f : Fpu) : Option Nat :=
  match (f.control.extractLsb' 8 2).toNat with
  | 0 => some 24
  | 2 => some 53
  | 3 => some 64
  | _ => none

/-- Field RC. -/
def Fpu.rounding (f : Fpu) : Rounding :=
  match (f.control.extractLsb' 10 2).toNat with
  | 0 => .nearest
  | 1 => .down
  | 2 => .up
  | _ => .truncate

end Sys2Proof
end

