-- ==== Sys2Proof/Safety.lean ====
section
/-! DEFINITION. What a state keeps while the machine runs, what a safe run is, and the terms in which claims speak of
operands, memory and what an instruction leaves alone. -/
namespace Sys2Proof.Machine

/-! ## What every step keeps -/

/-- Memory has its canonical form (`Memory.wf`). -/
def State.memoryOk (s : State) : Bool := Memory.wf s.mem

/-- CR0 holds no combination the processor refuses: paging only in protected mode (spec/92_eei_decisions.md D6), NW only
with CD (spec/10_state.md R38), bit 4 fixed on the 80486 (R38), no bits of later processors. -/
def State.cr0Ok (s : State) : Bool :=
  (!s.cr0.pg || s.cr0.pe) && (!s.cr0.nw || s.cr0.cd) && (decide (s.level ≠ 4) || s.cr0.et) &&
    (decide (s.level = 4) || (!s.cr0.ne && !s.cr0.wp && !s.cr0.am && !s.cr0.nw && !s.cr0.cd)) &&
    (decide (3 ≤ s.level) || !s.cr0.pg)

/-- V86 mode is part of protected mode (spec/10_state.md R33). -/
def State.vmOk (s : State) : Bool := !s.flags.vm || s.cr0.pe

/-- The bits of DR6 and DR7 that are no state are not kept (93 U11). -/
def State.debugOk (s : State) : Bool := decide (s.dr6 &&& ~~~dr6Mask = 0) && decide (s.dr7 &&& ~~~dr7Mask = 0)

/-- What every step keeps. -/
def State.inv (s : State) : Bool := s.memoryOk && s.cr0Ok && s.vmOk && s.debugOk

/-- A state the machine can go on from: it is not shut down (spec/60_exceptions.md R711). -/
def State.alive (s : State) : Bool := decide (s.run ≠ .shutdown)

/-- An outcome that is a next state meeting a condition. -/
def nextWith (p : State → Bool) (o : Host.Outcome State Fault Refusal) : Bool :=
  match o with
  | .next s => p s
  | .fault _ => false
  | .refused _ => false

/-! ## When an instruction may run -/

/-- The LOCK prefix does not stop the instruction (spec/20_memory.md R103): it is absent, or allowed there. -/
def State.lockOk (s : State) (lockable : Bool) : Bool :=
  !s.cur.lock || decide (s.level = 0) ||
    (if s.level = 2 then s.real || decide (s.cpl ≤ s.flags.iopl.toNat)
    else lockable && (!s.v86 || decide (s.flags.iopl = 3)))

/-! ## Memory with paging off -/

/-- Paging is off and no cache is modelled: an address goes straight to memory, which has its canonical form. -/
def State.flat (s : State) : Bool := (!s.cr0.pg || decide (s.level < 3)) && !s.cacheOn && s.memoryOk

/-- The physical address of byte `i` of an object at an offset, with paging off: bytes of an object wrap at 2^16 on the 8086
(spec/92_eei_decisions.md D8), at 2^24 or 2^32 later. -/
def State.placeAt (s : State) (r : SReg) (off : Dword) (i : Nat) : Nat :=
  if s.level = 0 then s.physical (s.linear r ((off.toNat + i) % 65536))
  else if s.level < 3 then s.physical (s.linear r (off.toNat + i))
  else s.physical ((s.linear r off.toNat + i) % 2 ^ 32)

/-- The address map lets an access of a kind through: reads of RAM and ROM, writes of RAM (spec/20_memory.md R99). -/
def State.mapped (s : State) (k : AccessKind) (a : Nat) : Bool :=
  match s.cfg.regionKind a with
  | .ram => true
  | .rom => !k.writes
  | .absent => false

/-- The segment register allows the access (spec/21_protection.md R135; nothing is checked on the 8086). -/
def State.segOk (s : State) (r : SReg) (k : AccessKind) (off n : Nat) : Bool :=
  decide (s.level = 0) || ((s.seg r).valid && (s.seg r).allows k && (s.seg r).inLimit off n)

/-- No alignment interrupt (spec/20_memory.md R92). -/
def State.aligned (s : State) (lin boundary : Nat) : Bool :=
  !(decide (s.level = 4) && s.cr0.am && s.flags.ac && decide (s.cpl = 3) && decide (lin % boundary ≠ 0))

/-- An access of `n` bytes at an offset succeeds, with paging off: in the segment, allowed, aligned, and mapped. -/
def State.reaches (s : State) (r : SReg) (k : AccessKind) (off : Dword) (n boundary : Nat) : Bool :=
  s.flat && s.segOk r k off.toNat n && s.aligned (s.linear r off.toNat) boundary &&
    (List.range n).all fun i => s.mapped k (s.placeAt r off i)

/-- Two objects that follow each other at a memory operand, of `n` bytes and of `k`, can be read; the second lies below 2^32:
the sum is exact (spec/00_scope.md R8). -/
def State.reachesPair (s : State) (m : Mem) (n k : Nat) : Bool :=
  s.reaches (s.memSeg m) .read (s.memOff m) n n && decide ((s.memOff m).toNat + n < 2 ^ 32) &&
    s.reaches (s.memSeg m) .read (s.memOff m + BitVec.ofNat 32 n) k k

/-- The bytes of an object. -/
def State.memBytes (s : State) (r : SReg) (off : Dword) (n : Nat) : List Byte :=
  (List.range n).map fun i => Memory.read s.mem (s.placeAt r off i)

/-- The little-endian value of `w` bits at an offset. -/
def State.memVal (s : State) (w : Nat) (r : SReg) (off : Dword) : BitVec w := leValue w (s.memBytes r off (w / 8))

/-- Memory of `t` is that of `s` but for `n` bytes at an offset. -/
def State.sameMemBut (s t : State) (r : SReg) (off : Dword) (n : Nat) : Prop :=
  ∀ a, (∀ i, i < n → s.placeAt r off i ≠ a) → Memory.read t.mem a = Memory.read s.mem a

/-- `t` holds the value `v` at an offset and is otherwise like `s` in memory. -/
def State.stores {w : Nat} (s t : State) (r : SReg) (off : Dword) (v : BitVec w) : Prop :=
  s.sameMemBut t r off (w / 8) ∧ ({ s with mem := t.mem } : State).memVal w r off = v

/-! ## Operands -/

/-- The value of a byte operand. -/
def State.val8 (s : State) : Rm8 → Byte
  | .reg r => s.reg8 r
  | .mem m => s.memVal 8 (s.memSeg m) (s.memOff m)

/-- The value of a word or doubleword operand. -/
def State.valv (s : State) (w : Nat) : Rmv → BitVec w
  | .reg r => s.reg w r
  | .mem m => s.memVal w (s.memSeg m) (s.memOff m)

/-- A byte operand can be accessed. -/
def State.ready8 (s : State) (k : AccessKind) : Rm8 → Bool
  | .reg _ => true
  | .mem m => s.reaches (s.memSeg m) k (s.memOff m) 1 1

/-- A word or doubleword operand can be accessed. -/
def State.readyv (s : State) (k : AccessKind) (w : Nat) : Rmv → Bool
  | .reg _ => true
  | .mem m => s.reaches (s.memSeg m) k (s.memOff m) (w / 8) (w / 8)

/-- From `s` to `t`, of registers and memory just a byte operand changed, to `v`. -/
def State.wrote8 (s t : State) (d : Rm8) (v : Byte) : Prop :=
  match d with
  | .reg r => t.regs = (s.setReg8 r v).regs ∧ t.mem = s.mem
  | .mem m => t.regs = s.regs ∧ s.stores t (s.memSeg m) (s.memOff m) v

/-- From `s` to `t`, of registers and memory just a word or doubleword operand changed, to `v`. -/
def State.wrotev {w : Nat} (s t : State) (d : Rmv) (v : BitVec w) : Prop :=
  match d with
  | .reg r => t.regs = (s.setReg r v).regs ∧ t.mem = s.mem
  | .mem m => t.regs = s.regs ∧ s.stores t (s.memSeg m) (s.memOff m) v

/-- A source operand of the two-operand instructions. -/
inductive Src8 where
  | rm (m : Rm8)
  | imm (b : Byte)

def Src8.ready (s : State) : Src8 → Bool
  | .rm m => s.ready8 .read m
  | .imm _ => true

def Src8.val (s : State) : Src8 → Byte
  | .rm m => s.val8 m
  | .imm b => b

/-- The same for words and doublewords; a byte immediate is sign-extended. -/
inductive Srcv where
  | rm (m : Rmv)
  | imm (v : Dword)
  | imm8 (b : Byte)

def Srcv.ready (s : State) (w : Nat) : Srcv → Bool
  | .rm m => s.readyv .read w m
  | .imm _ => true
  | .imm8 _ => true

def Srcv.val (s : State) (w : Nat) : Srcv → BitVec w
  | .rm m => s.valv w m
  | .imm v => v.setWidth w
  | .imm8 b => b.signExtend w

/-! ## What an instruction leaves alone -/

/-- An exception of the instruction about to run, delivered: nothing of its own effect remains (spec/60_exceptions.md R680). -/
def State.faults (s : State) (vec : Byte) (err : Option Word) : Host.Outcome State Fault Refusal :=
  s.deliverExn s.nextIp { Exn.fault vec err with oracle := s.oracle }

/-- `t` differs from `s` at most in general registers, flags, memory, the instruction pointer and the model's bookkeeping
(prefixes, the repeated instruction in progress, the interrupt shadow, recorded debug causes, the prefetch queue's old bytes, the count of
free values): every segment, control, system, debug, test and floating-point register, the TLB and cache, the run state,
the pending events, the pins and the ports are the same. -/
def State.agrees (s t : State) : Prop :=
  { t with
    regs := s.regs, flags := s.flags, mem := s.mem, eip := s.eip, cur := s.cur, repeating := s.repeating
    shadow := s.shadow, trap := s.trap, stale := s.stale, oracle := s.oracle } = s

/-- The state after an instruction that completed and went on to the next one, with no interrupt shadow left. -/
def State.ran (s t : State) : Prop := s.agrees t ∧ t.eip = s.nextIp ∧ t.cur = .start ∧ t.shadow = .none

/-- Control went to an offset. -/
def State.wentTo (s t : State) (v : Dword) : Prop := s.agrees t ∧ t.eip = v ∧ t.cur = .start ∧ t.shadow = .none

/-- The flags after an instruction that changes none: RF is cleared (spec/61_tasks_v86_debug.md R796). -/
def Flags.kept (f : Flags) : Flags := { f with rf := false }

/-- SF, ZF and PF say what they should of a result (spec/10_state.md R22, R24, R25). -/
def Flags.tells {w : Nat} (f : Flags) (r : BitVec w) : Prop :=
  f.sf = decide (r.toInt < 0) ∧ f.zf = decide (r.toNat = 0) ∧
    f.pf = decide ((List.range 8).countP (fun i => r.getLsbD i) % 2 = 0)

/-- `g` has the flags of `f` but for the six result flags, and RF is clear. -/
def Flags.sixFrom (f g : Flags) : Prop :=
  g = { f with cf := g.cf, pf := g.pf, af := g.af, zf := g.zf, sf := g.sf, ovf := g.ovf, rf := false }

/-- Bit `k` of the image of the flags (spec/10_state.md R20, spec/92_eei_decisions.md D4). -/
def Flags.bit (f : Flags) (level k : Nat) : Bool :=
  match k with
  | 0 => f.cf
  | 1 => true
  | 2 => f.pf
  | 4 => f.af
  | 6 => f.zf
  | 7 => f.sf
  | 8 => f.tf
  | 9 => f.intf
  | 10 => f.df
  | 11 => f.ovf
  | 12 => decide (2 ≤ level) && f.iopl.getLsbD 0
  | 13 => decide (2 ≤ level) && f.iopl.getLsbD 1
  | 14 => decide (2 ≤ level) && f.nt
  | 16 => decide (3 ≤ level) && f.rf
  | 17 => decide (3 ≤ level) && f.vm
  | 18 => decide (4 ≤ level) && f.ac
  | _ => false

/-- A value is the image of the flags. -/
def Flags.seenIn {w : Nat} (f : Flags) (level : Nat) (v : BitVec w) : Prop := ∀ k, k < w → v.getLsbD k = f.bit level k

/-- The flags a stack image of `w` bits leaves (spec/44_stack_flags_interrupt.md R411): IOPL only at CPL 0, IF only when
CPL ≤ IOPL, AC only from 32 bits on the 80486, VM never; the 8086 loads its nine flags. -/
def State.loads {w : Nat} (s : State) (v : BitVec w) (rf : Bool) : Flags where
  cf := v.getLsbD 0
  pf := v.getLsbD 2
  af := v.getLsbD 4
  zf := v.getLsbD 6
  sf := v.getLsbD 7
  tf := v.getLsbD 8
  intf := if s.level = 0 ∨ s.cpl ≤ s.flags.iopl.toNat then v.getLsbD 9 else s.flags.intf
  df := v.getLsbD 10
  ovf := v.getLsbD 11
  iopl := if s.level ≠ 0 ∧ s.cpl = 0 then v.extractLsb' 12 2 else s.flags.iopl
  nt := if s.level ≠ 0 then v.getLsbD 14 else s.flags.nt
  rf := rf
  vm := s.flags.vm
  ac := if w = 32 ∧ s.level = 4 then v.getLsbD 18 else s.flags.ac

/-- Bit `k` of CR0 or the MSW as read (spec/10_state.md R36 to R38, spec/92_eei_decisions.md D5). -/
def Cr0.bit (c : Cr0) (level k : Nat) : Bool :=
  match k with
  | 0 => c.pe
  | 1 => c.mp
  | 2 => c.em
  | 3 => c.ts
  | 4 => if level ≤ 2 then true else c.et
  | 5 => if level ≤ 2 then true else decide (level = 4) && c.ne
  | 16 => decide (level = 4) && c.wp
  | 18 => decide (level = 4) && c.am
  | 29 => decide (level = 4) && c.nw
  | 30 => decide (level = 4) && c.cd
  | 31 => decide (3 ≤ level) && c.pg
  | k => decide (level ≤ 2 ∧ k < 16)

/-! ## Descriptors and system tables with paging off -/

/-- The physical address of byte `i` of a system table. -/
def State.tablePlace (s : State) (lin i : Nat) : Nat := s.physical ((lin % s.linearMod + i) % 2 ^ 32)

/-- The processor's own access to `n` bytes of a table succeeds. -/
def State.tableOk (s : State) (k : AccessKind) (lin n : Nat) : Bool :=
  s.flat && !s.cr0.pg && (List.range n).all fun i => s.mapped k (s.tablePlace lin i)

/-- The value of `w` bits of a table. -/
def State.tableVal (s : State) (w lin : Nat) : BitVec w :=
  leValue w ((List.range (w / 8)).map fun i => Memory.read s.mem (s.tablePlace lin i))

/-- A selector finds a descriptor `d`, which lies at a linear address and can be read. -/
def State.finds (s : State) (sel : Word) (d : Descriptor) (a : Nat) : Prop :=
  s.descAddr sel = some a ∧ s.tableOk .read a 8 = true ∧ s.tableVal 64 a = d

/-- A selector names a descriptor that can also be marked accessed or busy. -/
def State.names (s : State) (sel : Word) (d : Descriptor) (a : Nat) : Prop :=
  s.finds sel d a ∧ s.tableOk .write (a + 5) 1 = true

/-- Memory of `t` is that of `s`, but that the descriptor at an address may be marked accessed (spec/21_protection.md
R183). -/
def State.marked (s t : State) (a : Nat) : Prop :=
  (∀ x, x ≠ s.tablePlace (a + 5) 0 → Memory.read t.mem x = Memory.read s.mem x) ∧
    Memory.read t.mem (s.tablePlace (a + 5) 0) = Memory.read s.mem (s.tablePlace (a + 5) 0) ||| 1

/-- The hidden part a descriptor gives (spec/21_protection.md R138). -/
def SegReg.shows (g : SegReg) (level : Nat) (sel : Word) (d : Descriptor) : Prop :=
  g.sel = sel ∧ g.valid = true ∧ g.realKind = false ∧ g.base = dBase level d ∧ g.limit = dLimit level d ∧
    g.access = dAccess d ||| 1 ∧ g.big = dBig level d

/-- CS after a far transfer of real or V86 mode (spec/43_control_transfer.md R374, R389 c; spec/10_state.md R66). -/
def State.tookCs (s t : State) (sel : Word) : Prop :=
  t.cs.sel = sel ∧ t.cs.valid = true ∧ t.cs.base.toNat = 16 * sel.toNat ∧
    t.cs.limit = (if s.real then s.cs.limit else 0xFFFF) ∧ t.resetLatch = false

/-- The state but for CS. -/
def State.withCsOf (s t : State) : State := { s with cs := t.cs, resetLatch := t.resetLatch }

/-! ## Results by exact arithmetic -/

/-- CF, AF and OF of a sum `a + b + c` (spec/41_arithmetic.md R311): carries out of the top bit and out of bit 3, and the
signed sum not being the result. -/
def Flags.ofSum {w : Nat} (g : Flags) (a b r : BitVec w) (c : Bool) : Prop :=
  g.cf = decide (2 ^ w ≤ a.toNat + b.toNat + c.toNat) ∧
    g.af = decide (16 ≤ a.toNat % 16 + b.toNat % 16 + c.toNat) ∧
    g.ovf = decide (r.toInt ≠ a.toInt + b.toInt + c.toNat)

/-- CF, AF and OF of a difference `a - b - c` (R312). -/
def Flags.ofDiff {w : Nat} (g : Flags) (a b r : BitVec w) (c : Bool) : Prop :=
  g.cf = decide (a.toNat < b.toNat + c.toNat) ∧ g.af = decide (a.toNat % 16 < b.toNat % 16 + c.toNat) ∧
    g.ovf = decide (r.toInt ≠ a.toInt - b.toInt - c.toNat)

/-- The result of a two-operand instruction, `c` being CF before (R313 to R317, spec/42_logic_rotate_shift.md R342 to
R344). -/
def Alu.result {w : Nat} (op : Alu) (a b : BitVec w) (c : Bool) : BitVec w :=
  match op with
  | .add => BitVec.ofNat w (a.toNat + b.toNat)
  | .adc => BitVec.ofNat w (a.toNat + b.toNat + c.toNat)
  | .sub => BitVec.ofInt w (a.toInt - b.toInt)
  | .sbb => BitVec.ofInt w (a.toInt - b.toInt - c.toNat)
  | .and => a &&& b
  | .or => a ||| b
  | .xor => a ^^^ b

/-- The flags after a two-operand instruction: AF after a logical one is open. -/
def Alu.sets {w : Nat} (op : Alu) (a b : BitVec w) (c : Bool) (g : Flags) : Prop :=
  g.tells (op.result a b c) ∧
    match op with
    | .add => g.ofSum a b (op.result a b c) false
    | .adc => g.ofSum a b (op.result a b c) c
    | .sub => g.ofDiff a b (op.result a b c) false
    | .sbb => g.ofDiff a b (op.result a b c) c
    | .and | .or | .xor => g.cf = false ∧ g.ovf = false

/-- Result and CF of a shift or rotate by `n > 0` positions, `c` being CF before, in closed form: a rotate through carry is
a rotate of CF and the operand together (spec/42_logic_rotate_shift.md R350 to R356). -/
def ShiftKind.closed {w : Nat} (k : ShiftKind) (a : BitVec w) (c : Bool) (n : Nat) : BitVec w × Bool :=
  match k with
  | .shl => (a <<< n, decide (n ≤ w) && a.getLsbD (w - n))
  | .shr => (a >>> n, a.getLsbD (n - 1))
  | .sar => (a.sshiftRight n, (a.sshiftRight (n - 1)).getLsbD 0)
  | .rol => (a.rotateLeft n, (a.rotateLeft n).getLsbD 0)
  | .ror => (a.rotateRight n, (a.rotateRight n).msb)
  | .rcl => (((BitVec.cons c a).rotateLeft n).setWidth w, ((BitVec.cons c a).rotateLeft n).msb)
  | .rcr => (((BitVec.cons c a).rotateRight n).setWidth w, ((BitVec.cons c a).rotateRight n).msb)

/-- What a bit instruction makes of the bit (spec/48_386_instructions.md R600 to R603). -/
def BitOp.newBit (op : BitOp) (b : Bool) : Bool :=
  match op with
  | .test => b
  | .set => true
  | .reset => false
  | .complement => !b

/-- `v` is `a` with bit `k` as the instruction makes it. -/
def BitOp.makes {w : Nat} (op : BitOp) (a : BitVec w) (k : Nat) (v : BitVec w) : Prop :=
  ∀ j, v.getLsbD j = if j = k then op.newBit (a.getLsbD k) else a.getLsbD j

/-! ## The stack -/

/-- The offset a push of `w` bits stores to, and the stack pointer after it (spec/44_stack_flags_interrupt.md R400). -/
def State.pushAt (s : State) (w : Nat) : Dword := s.stackOff (s.sp - BitVec.ofNat 32 (w / 8))

/-- The stack pointer after a pop (R401). -/
def State.popAt (s : State) (w : Nat) : Dword := s.stackOff (s.sp + BitVec.ofNat 32 (w / 8))

/-- A push of `w` bits succeeds. -/
def State.canPush (s : State) (w : Nat) : Bool := s.reaches .ss .write (s.pushAt w) (w / 8) (w / 8)

/-- A pop of `w` bits succeeds. -/
def State.canPop (s : State) (w : Nat) : Bool := s.reaches .ss .read s.sp (w / 8) (w / 8)

/-- The item on top of the stack. -/
def State.top (s : State) (w : Nat) : BitVec w := s.memVal w .ss s.sp

/-- From `s` to `t` a value was pushed: it stands on top, and of registers just the stack pointer changed. -/
def State.pushed {w : Nat} (s t : State) (v : BitVec w) : Prop :=
  t.regs = (s.setSp (s.pushAt w)).regs ∧ s.stores t .ss (s.pushAt w) v

/-- The offset of the `i`-th item of `w` bits below the top of the stack. -/
def State.down (s : State) (w i : Nat) : Dword := s.stackOff (s.sp - BitVec.ofNat 32 (w / 8 * i))

/-- The offset of the `i`-th item above the top of the stack, the top being number 0. -/
def State.up (s : State) (w i : Nat) : Dword := s.stackOff (s.sp + BitVec.ofNat 32 (w / 8 * i))

/-- The places below the top of the stack for `n` items can be written. -/
def State.roomFor (s : State) (w n : Nat) : Prop :=
  ∀ i, 1 ≤ i → i ≤ n → s.reaches .ss .write (s.down w i) (w / 8) (w / 8) = true

/-- The top `n` items of the stack can be read. -/
def State.holds (s : State) (w n : Nat) : Prop := ∀ i, i < n → s.reaches .ss .read (s.up w i) (w / 8) (w / 8) = true

/-- An address is none of the `n` items below the top of the stack. -/
def State.offStack (s : State) (w n a : Nat) : Prop :=
  ∀ i k, 1 ≤ i → i ≤ n → k < w / 8 → s.placeAt .ss (s.down w i) k ≠ a

/-- The `i`-th item below the stack top of `s`, as memory of `t` has it. -/
def State.pushedAt (s t : State) (w i : Nat) : BitVec w := ({ s with mem := t.mem } : State).memVal w .ss (s.down w i)

/-- From `s` to `t` of registers just the stack pointer changed, by `n` items pushed, of memory just those items. -/
def State.pushedItems (s t : State) (w n : Nat) : Prop :=
  t.regs = (s.setSp (s.down w n)).regs ∧ ∀ a, s.offStack w n a → Memory.read t.mem a = Memory.read s.mem a

/-! ## Fetching -/

/-- The byte `k` of the instruction at CS:IP, after those already fetched of it, can be fetched (paging off). -/
def State.fetchable (s : State) (k : Nat) : Prop :=
  let u : State := { s with cur := { s.cur with len := s.cur.len + k } }
  (s.level = 0 ∨ (s.cs.valid = true ∧ s.cs.executable = true ∧ s.cs.inLimit u.nextIp.toNat 1 = true)) ∧
    s.mapped .read (s.placeAt .cs u.nextIp 0) = true

/-! ## Loads of segment registers -/

/-- An instruction that loads a segment register with a selector, which can be read, and leaves these general registers: MOV
(spec/40_mov.md R301), POP (spec/44_stack_flags_interrupt.md R404), LDS, LES, LFS, LGS, LSS (spec/45_loop_io_data.md R454). -/
def State.segForm (s : State) (i : Instr) (g : SReg) (sel : Word) (regs : Gpr) : Prop :=
  let w := s.opWidth
  (∃ m, i = .movSregRm16 g m ∧ s.readyv .read 16 m = true ∧ sel = s.valv 16 m ∧ regs = s.regs) ∨
    ((i = .popEs ∧ g = .es ∨ i = .popSs ∧ g = .ss ∨ i = .popDs ∧ g = .ds ∨ i = .popFs ∧ g = .fs ∨ i = .popGs ∧ g = .gs) ∧
      s.reaches .ss .read s.sp (w / 8) 2 = true ∧ sel = (s.top w).setWidth 16 ∧ regs = (s.setSp (s.popAt w)).regs) ∨
    ∃ r m, (i = .ldsRvM16v r m ∧ g = .ds ∨ i = .lesRvM16v r m ∧ g = .es ∨ i = .lfsRvM16v r m ∧ g = .fs ∨
        i = .lgsRvM16v r m ∧ g = .gs ∨ i = .lssRvM16v r m ∧ g = .ss) ∧
      s.reachesPair m (w / 8) 2 = true ∧ sel = s.memVal 16 (s.memSeg m) (s.memOff m + BitVec.ofNat 32 (w / 8)) ∧
      regs = (s.setReg r (s.memVal w (s.memSeg m) (s.memOff m))).regs

/-- The interrupt shadow a load of a segment register opens: MOV and POP of SS do, LSS does not (spec/40_mov.md R304). -/
def shadowOf (i : Instr) (g : SReg) : Shadow :=
  match i, g with
  | .lssRvM16v _ _, _ => .none
  | _, .ss => .ss
  | _, _ => .none

/-! ## TLB and cache -/

/-- The decision bits of a set after a way was used (spec/22_paging_cache.md R219). -/
def Lru.usedFor (l l' : Lru) (way : Nat) : Prop :=
  if way < 2 then l' = { r0 := true, r1 := decide (way = 0), r2 := l.r2 }
  else l' = { r0 := false, r1 := l.r1, r2 := decide (way = 2) }

/-- A way of the set of a physical address holds its line (R214, R215). -/
def State.caches (s : State) (a : Nat) (k : Fin 4) : Prop :=
  let l := (cacheGet s.cache (a / 16 % 128)).ways[k]
  l.valid = true ∧ l.tag = BitVec.ofNat 21 (a / 2048)

/-- From `s` to `t` only the set of a physical address changed of the cache, in one way and in its decision bits, by that way's
use (R219). -/
def State.usedWay (s t : State) (a : Nat) (k : Fin 4) : Prop :=
  let c := cacheGet s.cache (a / 16 % 128)
  let c' := cacheGet t.cache (a / 16 % 128)
  (∀ n, n ≠ a / 16 % 128 → cacheGet t.cache n = cacheGet s.cache n) ∧ (∀ j, j ≠ k → c'.ways[j] = c.ways[j]) ∧
    c.lru.usedFor c'.lru k.val

/-- Byte `i` of a line. -/
def CacheLine.at (l : CacheLine) (i : Nat) : Byte := l.data.extractLsb' (8 * i) 8

/-! ## Ports -/

/-- The ports `p`, `p + 1`, … supply these bytes, each the first that is queued for its port, and `rest` stays queued; a byte
that nothing is queued for is the device's open answer (spec/92_eei_decisions.md D11). -/
def portsGive : List (Nat × Byte) → Nat → List Byte → List (Nat × Byte) → Prop
  | q, _, [], rest => rest = q
  | q, p, b :: bs, rest =>
    match takePort q p with
    | some (v, left) => b = v ∧ portsGive left (p + 1) bs rest
    | none => (∃ k, b = Config.portRead k p) ∧ portsGive q (p + 1) bs rest

/-- Offset in the TSS of the byte of the I/O permission map that a port's bit is in (spec/21_protection.md R179). -/
def State.ioMapAt (s : State) (p : Nat) : Nat := (s.tableVal 16 (s.tr.base.toNat + 102)).toNat + p / 8

/-- A port's bit in the map: 1 beyond the limit of the TSS (R178). -/
def State.ioBit (s : State) (p : Nat) : Bool :=
  decide (s.tr.limit.toNat < s.ioMapAt p) || (s.tableVal 8 (s.tr.base.toNat + s.ioMapAt p)).getLsbD (p % 8)

/-- The map can be read for `n` ports, with paging off. -/
def State.ioMapReadable (s : State) (p n : Nat) : Prop :=
  s.tableOk .read (s.tr.base.toNat + 102) 2 = true ∧
    ∀ k, k < n → s.ioMapAt (p + k) ≤ s.tr.limit.toNat →
      s.tableOk .read (s.tr.base.toNat + s.ioMapAt (p + k)) 1 = true

/-- `n` ports may be used (R178): in real mode, in protected mode with CPL ≤ IOPL, and from the 80386 where the map has a 0
for each of them. -/
def State.ioAllowed (s : State) (p n : Nat) : Prop :=
  s.real = true ∨ (s.prot = true ∧ s.cpl ≤ s.flags.iopl.toNat) ∨
    (s.level ≠ 2 ∧ s.tr.is386 = true ∧ s.ioMapReadable p n ∧ ∀ k, k < n → s.ioBit (p + k) = false)

/-- `n` ports may not be used: above IOPL on the 80286; from the 80386 above IOPL or in V86 mode, with an 80286 TSS or a 1
in the map. -/
def State.ioRefused (s : State) (p n : Nat) : Prop :=
  s.real = false ∧ (s.level = 2 ∨ s.prot = true → s.flags.iopl.toNat < s.cpl) ∧
    (s.level ≠ 2 → s.tr.is386 = false ∨ (s.ioMapReadable p n ∧ ∃ k, k < n ∧ s.ioBit (p + k) = true))

/-! ## Far transfers -/

/-- A far JMP or CALL (`call`) to a selector and an offset, given in the instruction or read from memory
(spec/43_control_transfer.md R374, R375, R382, R383). -/
def State.farForm (s : State) (i : Instr) (call : Bool) (sel : Word) (off : Dword) : Prop :=
  let w := s.opWidth
  (call = false ∧ i = .jmpPtr16v off sel) ∨ (call = true ∧ i = .callPtr16v off sel) ∨
    ∃ m, (call = false ∧ i = .jmpM16v m ∨ call = true ∧ i = .callM16v m) ∧
      s.reachesPair m (w / 8) 2 = true ∧ off = (s.memVal w (s.memSeg m) (s.memOff m)).setWidth 32 ∧
      sel = s.memVal 16 (s.memSeg m) (s.memOff m + BitVec.ofNat 32 (w / 8))

/-- RETF with the bytes it removes, or an IRET that stays in its task and in protected mode, with its items readable
(spec/43_control_transfer.md R386, spec/44_stack_flags_interrupt.md R424). -/
def State.returnForm (s : State) (i : Instr) (n : Word) : Prop :=
  let w := s.opWidth
  ((i = .retf ∧ n = 0 ∨ i = .retfImm16 n) ∧ s.holds w 2) ∨
    (i = .iret ∧ n = 0 ∧ s.holds w 3 ∧ s.flags.nt = false ∧
      ¬(s.op32 = true ∧ (s.memVal w .ss (s.up w 2)).getLsbD 17 = true ∧ s.cpl = 0))

/-- How many items of the stack a return takes: offset and selector, for IRET the flags too. -/
def returnItems (i : Instr) : Nat :=
  match i with
  | .iret => 3
  | _ => 2

/-- The flags after a return: IRET loads them, RF only from 32 bits (spec/61_tasks_v86_debug.md R796 d). -/
def State.returnedFlags (s : State) (i : Instr) : Flags :=
  match i with
  | .iret =>
    s.loads (s.memVal s.opWidth .ss (s.up s.opWidth 2))
      (if s.opWidth = 32 then (s.memVal s.opWidth .ss (s.up s.opWidth 2)).getLsbD 16 else false)
  | _ => s.flags.kept

/-- The state but for the blocking of NMI, which IRET ends (spec/60_exceptions.md R677). -/
def State.unblocked (s : State) (i : Instr) : State :=
  match i with
  | .iret => { s with nmiBlocked := false }
  | _ => s

/-- Memory of `t` is that of `s` but for `n` items below the top of the stack of `u`, and the descriptors at some addresses,
marked accessed (spec/21_protection.md R183). -/
def State.pushedAndMarked (s u t : State) (w n : Nat) (as : List Nat) : Prop :=
  (∀ x, u.offStack w n x → (∀ a, a ∈ as → x ≠ s.tablePlace (a + 5) 0) → Memory.read t.mem x = Memory.read s.mem x) ∧
    ∀ a, a ∈ as → Memory.read t.mem (s.tablePlace (a + 5) 0) = Memory.read s.mem (s.tablePlace (a + 5) 0) ||| 1

/-- There is room for `n` items below the top of the stack, none of them on the access byte of these descriptors. -/
def State.roomApart (u : State) (w n : Nat) (as : List Nat) : Prop :=
  u.roomFor w n ∧ ∀ a, a ∈ as → u.offStack w n (u.tablePlace (a + 5) 0)

/-- Control is at an offset of the code segment a descriptor gives, at an instruction boundary. -/
def State.arrivedAt (s t : State) (sel : Word) (d : Descriptor) (v : Dword) : Prop :=
  t.eip = v ∧ t.cur = .start ∧ t.shadow = .none ∧ t.resetLatch = false ∧ t.cs.shows s.level sel d

/-! ## Interrupts and exceptions -/

/-- What an exception leaves in CR2, DR6 and DR7 before its handler runs (spec/60_exceptions.md R737,
spec/61_tasks_v86_debug.md R790, R797). -/
def State.noted (s : State) (e : Exn) : State :=
  { s with
    cr2 := e.cr2.getD s.cr2, dr6 := s.dr6 ||| e.dr6
    dr7 := if e.dr6.getLsbD 13 then s.dr7 &&& ~~~(0x2000 : Dword) else s.dr7 }

/-- Delivering interrupt `n` is answered by `out`: that of a software interrupt (`soft`), of an exception or of an external
interrupt; with its error word, the address saved (spec/60_exceptions.md R680, R683, R690), RF in the saved image
(spec/61_tasks_v86_debug.md R796 a), and the state with what the exception leaves in CR2, DR6 and DR7 (R737, R790, R797). -/
def State.raises (s : State) (out : Host.Outcome State Fault Refusal) (soft : Bool) (n : Byte) (err : Option Word)
    (ret : Dword) (rf : Bool) (c : State) : Prop :=
  (soft = true ∧ s.lockOk false = true ∧ err = none ∧ ret = s.nextIp ∧ rf = s.flags.rf ∧ c = s ∧
    ((n = 3 ∧ out = exec .int3 s) ∨ (out = exec (.intImm8 n) s ∧ (s.v86 = true → s.flags.iopl = 3)) ∨
      (n = 4 ∧ s.flags.ovf = true ∧ out = exec .into s))) ∨
  (soft = false ∧ err = none ∧ ret = s.resumeIp ∧ rf = s.flags.rf ∧ c = s ∧ out = s.takeExternal n) ∨
  (∃ e next, soft = false ∧ e.newTask = none ∧ n = e.vec ∧ err = e.err ∧ out = s.deliverExn next e ∧
    ret = (if e.cls = .trap ∨ s.level = 0 then next else s.eip) ∧ rf = (decide (e.cls = .fault) || s.flags.rf) ∧
    c = s.noted e)

/-- The processor shut down with nothing of the interrupted program changed (spec/60_exceptions.md R711). -/
def State.shutsDown (c : State) (out : Host.Outcome State Fault Refusal) : Prop :=
  ∃ t, out = .next t ∧ t.run = .shutdown ∧ ({ c with run := .shutdown } : State).agrees t ∧ t.regs = c.regs ∧
    t.mem = c.mem ∧ t.flags = c.flags ∧ t.eip = c.eip

/-- The entry of the IDT for interrupt `n` lies in the table, can be read, and is a gate. -/
def State.idtGives (s : State) (n : Byte) (gate : Descriptor) : Prop :=
  let entry := s.idtr.base.toNat + n.toNat * 8
  n.toNat * 8 + 7 ≤ s.idtr.limit.toNat ∧ s.tableOk .read entry 8 = true ∧ s.tableVal 64 entry = gate

/-- An interrupt or trap gate this processor knows, present; a software interrupt (`soft`) may use it (spec/60_exceptions.md
R686, R687 steps 1, 2). -/
def State.entryGate (s : State) (soft : Bool) (gate : Descriptor) : Prop :=
  dIsSystem gate = true ∧ (dType gate ∈ [6, 7] ∨ 3 ≤ s.level ∧ dType gate ∈ [14, 15]) ∧ dPresent gate = true ∧
    (soft = true → s.cpl ≤ dDpl gate)

/-- The flags a gate leaves (spec/60_exceptions.md R687 step 13). -/
def Flags.gated (f : Flags) (gate : Descriptor) : Flags :=
  { f with
    tf := false, nt := false, vm := false, rf := false
    intf := if dType gate = 6 ∨ dType gate = 14 then false else f.intf }

/-- ENTRY INTO A HANDLER OF THE SAME LEVEL through interrupt or trap gate `n` (spec/60_exceptions.md R687): the flags with
RF as given, CS, the address `ret` and the error word are pushed in the width of the gate. -/
def State.entersSame (s c : State) (out : Host.Outcome State Fault Refusal) (soft : Bool) (n : Byte) (err : Option Word)
    (ret : Dword) (rf : Bool) : Prop :=
  ∀ gate d a, s.idtGives n gate → s.entryGate soft gate → selNull (gateSel gate) = false →
    s.names (gateSel gate) d a → dIsCode d = true → dPresent d = true →
    (if dConforming d then dDpl d ≤ s.cpl else dDpl d = s.cpl) → (gateOffset gate).toNat ≤ (dLimit s.level d).toNat →
    let w := if 8 ≤ dType gate then 32 else 16
    let k := if err.isSome then 4 else 3
    s.roomApart w k [a] →
    ∃ t, out = .next t ∧ ({ c.withCsOf t with run := .running } : State).agrees t ∧ t.run = .running ∧
      s.arrivedAt t (selWithRpl (gateSel gate) s.cpl) d (gateOffset gate) ∧ t.flags = s.flags.gated gate ∧
      t.regs = (s.setSp (s.down w k)).regs ∧ s.pushedAndMarked s t w k [a] ∧
      ({ s.flags with rf := rf } : Flags).seenIn s.level (s.pushedAt t w 1) ∧
      (s.pushedAt t w 2).setWidth 16 = s.cs.sel ∧ s.pushedAt t w 3 = ret.setWidth w ∧
      ∀ e, err = some e → s.pushedAt t w 4 = e.setWidth w

/-- ENTRY INTO A HANDLER through entry `n` of the real-mode vector table (spec/60_exceptions.md R681). -/
def State.entersReal (s c : State) (out : Host.Outcome State Fault Refusal) (n : Byte) (ret : Dword) : Prop :=
  let entry := (if s.level = 0 then 0 else s.idtr.base.toNat) + n.toNat * 4
  s.roomFor 16 3 → s.tableOk .read entry 2 = true → s.tableOk .read (entry + 2) 2 = true →
    (∀ k, k < 2 → s.offStack 16 3 (s.tablePlace entry k) ∧ s.offStack 16 3 (s.tablePlace (entry + 2) k)) →
    ∃ t, out = .next t ∧
      ({ c.withCsOf t with run := .running } : State).wentTo t ((s.tableVal 16 entry).setWidth 32) ∧
      s.tookCs t (s.tableVal 16 (entry + 2)) ∧
      t.flags = { s.flags with intf := false, tf := false, rf := false } ∧ s.pushedItems t 16 3 ∧
      s.flags.seenIn s.level (s.pushedAt t 16 1) ∧ s.pushedAt t 16 2 = s.cs.sel ∧
      s.pushedAt t 16 3 = ret.setWidth 16

/-- The inner stack of a privilege level, SS and SP, stands in the current TSS (spec/61_tasks_v86_debug.md R751, R752). -/
def State.innerStackIs (s : State) (level : Nat) (ss : Word) (sp : Dword) : Prop :=
  let base := s.tr.base.toNat
  if s.tr.is386 then
    s.tableOk .read (base + 4 + 8 * level) 4 = true ∧ s.tableVal 32 (base + 4 + 8 * level) = sp ∧
      s.tableOk .read (base + 8 + 8 * level) 2 = true ∧ s.tableVal 16 (base + 8 + 8 * level) = ss
  else
    s.tableOk .read (base + 2 + 4 * level) 2 = true ∧ (s.tableVal 16 (base + 2 + 4 * level)).setWidth 32 = sp ∧
      s.tableOk .read (base + 4 + 4 * level) 2 = true ∧ s.tableVal 16 (base + 4 + 4 * level) = ss

/-- A selector finds a stack segment for a privilege level (spec/21_protection.md R139). -/
def State.findsStack (s : State) (level : Nat) (ss : Word) (d : Descriptor) (a : Nat) : Prop :=
  selNull ss = false ∧ s.names ss d a ∧ selRpl ss = level ∧ dIsWritableData d = true ∧ dDpl d = level ∧
    dPresent d = true

/-- The state at an inner privilege level on its stack, for the stack's own predicates. -/
def State.atInner (s : State) (level : Nat) (ss : Word) (sp : Dword) (d : Descriptor) : State :=
  { s with
    flags := { s.flags with vm := false }, cs := { s.cs with sel := selWithRpl s.cs.sel level }
    ss := SegReg.ofDescriptor s.level ss d
    regs := if s.tr.is386 then (s.setReg .esp sp).regs else (s.setReg .esp (sp.setWidth 16 : Word)).regs }

/-- The state but for the segment registers, which a change of level or task loads. -/
def State.withSegsOf (s t : State) : State :=
  { s with cs := t.cs, ss := t.ss, ds := t.ds, es := t.es, fs := t.fs, gs := t.gs, resetLatch := t.resetLatch }

/-- A segment register after a return to an outer level (spec/43_control_transfer.md R386 step 6): null when it is data or
non-conforming code of a level further in. -/
def SegReg.leftOuter (g h : SegReg) (level : Nat) : Prop :=
  if g.valid = true ∧ ¬(accIsCode g.access = true ∧ accBit2 g.access = true) ∧ accDpl g.access < level then
    h.sel = 0 ∧ h.valid = false
  else h = g

/-! ## Task switches -/

/-- A register value as a field of a TSS shows it: the 80286 format holds its low 16 bits (spec/61_tasks_v86_debug.md R751,
R752). -/
def taskWord (is386 : Bool) (v : Dword) : Dword := if is386 then v else low16 v

/-- Field `i` of the register part of a TSS at a linear address (R751, R752): instruction pointer, flags, the eight general
registers, ES, CS, SS, DS; then FS, GS, LDTR in the 80386 format, LDTR in that of the 80286. -/
def State.tssField (s : State) (is386 : Bool) (base i : Nat) : Dword :=
  if is386 then s.tableVal 32 (base + 32 + 4 * i) else (s.tableVal 16 (base + 14 + 2 * i)).setWidth 32

/-- A TSS holds these general registers. -/
def State.tssHolds (s : State) (is386 : Bool) (base : Nat) (g : Gpr) : Prop :=
  let order : List Reg := [.eax, .ecx, .edx, .ebx, .esp, .ebp, .esi, .edi]
  ∀ i, i < 8 → s.tssField is386 base (i + 2) = taskWord is386 (g.get (order.getD i .eax))

/-- The selector a TSS gives a segment register; that of the 80286 has none for FS and GS. -/
def State.tssSel (s : State) (is386 : Bool) (base : Nat) (g : SReg) : Word :=
  match g with
  | .es => (s.tssField is386 base 10).setWidth 16
  | .cs => (s.tssField is386 base 11).setWidth 16
  | .ss => (s.tssField is386 base 12).setWidth 16
  | .ds => (s.tssField is386 base 13).setWidth 16
  | .fs => if is386 then (s.tssField is386 base 14).setWidth 16 else 0
  | .gs => if is386 then (s.tssField is386 base 15).setWidth 16 else 0

/-- The selector a TSS gives LDTR. -/
def State.tssLdt (s : State) (is386 : Bool) (base : Nat) : Word :=
  (s.tssField is386 base (if is386 then 16 else 14)).setWidth 16

/-- The state with the memory of another. -/
def State.withMemOf (s t : State) : State := { s with mem := t.mem }

/-- The address of the access byte of a selector's descriptor in the GDT. -/
def State.busyAt (s : State) (sel : Word) : Nat := s.gdtr.base.toNat + selIndex sel * 8 + 5

/-- What LDTR holds in a task whose TSS gives it a selector: null, or that of an LDT of the GDT (R757 d); its descriptor is one
of those at these addresses. -/
def State.taskLdt (s : State) (sel : Word) (l : LdtReg) (as : List Nat) : Prop :=
  if selNull sel then l = { s.ldtr with sel := sel, valid := false }
  else ∃ d a, a ∈ as ∧ selLocal sel = false ∧ s.finds sel d a ∧ dIsSystem d = true ∧ dType d = 2 ∧ dPresent d = true ∧
    l = { sel := sel, valid := true, base := dBase s.level d, limit := dLimitWord s.level d }

/-- A segment register of a task at a privilege level can be loaded from a selector and its descriptor (R757 f to h). -/
def State.taskSeg (s : State) (g : SReg) (level : Nat) (sel : Word) (d : Descriptor) (a : Nat) : Prop :=
  match g with
  | .cs => selNull sel = false ∧ s.names sel d a ∧ dIsCode d = true ∧ dPresent d = true ∧
      if dConforming d then dDpl d ≤ level else dDpl d = level
  | .ss => s.findsStack level sel d a
  | .ds | .es | .fs | .gs => selNull sel = true ∨ (s.names sel d a ∧ dIsReadable d = true ∧ dPresent d = true ∧
      (dConforming d = true ∨ max level (selRpl sel) ≤ dDpl d))

/-- What a segment register shows in a task: a V86 segment, the segment of the descriptor, or nothing usable. -/
def SegReg.inTask (g : SegReg) (level : Nat) (vm : Bool) (sel : Word) (d : Descriptor) : Prop :=
  if vm then g.sel = sel ∧ g.valid = true ∧ g.base.toNat = 16 * sel.toNat ∧ g.limit = 0xFFFF
  else if selNull sel then g.sel = sel ∧ g.valid = false
  else g.shows level sel d

/-- VM in the flags image of a TSS. -/
def State.tssVm (s : State) (is386 : Bool) (base : Nat) : Bool := (s.tssField is386 base 1).getLsbD 17

/-- A selector finds the TSS of a task that a switch of a kind may enter (R755 steps 1 to 4, R757), in memory that can be read:
its LDTR is `l`, the descriptors of its segments are `segs`, at addresses in `as`; a V86 task needs none of these. -/
def State.taskFits (s : State) (kind : SwitchKind) (sel : Word) (d : Descriptor) (l : LdtReg)
    (segs : SReg → Descriptor × Nat) (as : List Nat) : Prop :=
  let f := decide (8 ≤ dType d)
  let base := (dBase s.level d).toNat
  let eip := (s.tssField f base 0).toNat
  selNull sel = false ∧ selLocal sel = false ∧ (∃ a, s.finds sel d a) ∧ dIsSystem d = true ∧
    dType d ∈ (if kind = .iret then [3, 11] else [1, 9]) ∧ (f = true → 3 ≤ s.level) ∧ dPresent d = true ∧
    (if f then 103 else 43) ≤ (dLimit s.level d).toNat ∧
    (if f then s.tableOk .read (base + 32) 72 = true else s.tableOk .read (base + 14) 30 = true) ∧
    s.taskLdt (s.tssLdt f base) l as ∧
    if s.tssVm f base then eip ≤ 0xFFFF
    else eip ≤ (dLimit s.level (segs .cs).1).toNat ∧
      ∀ g, (selNull (s.tssSel f base g) = false → (segs g).2 ∈ as) ∧
        ({ s with ldtr := l } : State).taskSeg g (selRpl (s.tssSel f base .cs)) (s.tssSel f base g) (segs g).1 (segs g).2

/-- Bytes of the register part of the current TSS that a switch writes, by number. -/
def State.savedAt (s : State) (x : Nat) : Prop :=
  if s.tr.is386 then ∃ k, k < 64 ∧ x = s.tablePlace (s.tr.base.toNat + 32) k
  else ∃ k, k < 28 ∧ x = s.tablePlace (s.tr.base.toNat + 14) k

/-- The places a switch writes can be written and lie apart: the registers of the current TSS, the access bytes of the two TSS
descriptors, the back link, the access bytes of the descriptors at `as`; but for these access bytes none of them is read of
the new TSS or of those descriptors. -/
def State.switchRoom (s : State) (kind : SwitchKind) (sel : Word) (d : Descriptor) (as : List Nat) : Prop :=
  let f := decide (8 ≤ dType d)
  let base := (dBase s.level d).toNat
  let own := s.tr.base.toNat
  let taken (x : Nat) : Prop := ∃ k, k < (if f then 104 else 44) ∧ x = s.tablePlace base k
  let b1 := s.tablePlace (s.busyAt s.tr.sel) 0
  let b2 := s.tablePlace (s.busyAt sel) 0
  selNull s.tr.sel = false ∧
    (if s.tr.is386 then s.tableOk .write (own + 32) 64 = true else s.tableOk .write (own + 14) 28 = true) ∧
    s.tableOk .update (s.busyAt s.tr.sel) 1 = true ∧ s.tableOk .update (s.busyAt sel) 1 = true ∧
    (kind = .nest → s.tableOk .write base (if f then 4 else 2) = true) ∧ b1 ≠ b2 ∧
    (∀ x, s.savedAt x → x ≠ b1 ∧ x ≠ b2 ∧ ¬taken x) ∧ ¬taken b1 ∧ ¬taken b2 ∧
    ∀ a, a ∈ as → (∀ k, k < 8 → let x := s.tablePlace a k; x ≠ b1 ∧ x ≠ b2 ∧ ¬s.savedAt x ∧ ¬taken x) ∧
      ∀ a', a' ∈ as → ∀ k, k < 8 → s.tablePlace a' k = s.tablePlace (a + 5) 0 → k = 5

/-- What the incoming task starts as (R755 to R757): the general registers, flags, segment registers, LDTR and TR of the new
TSS; NT is that of the kind of switch; the rest of the machine is `c`. -/
def State.startsTask (s c u : State) (kind : SwitchKind) (sel : Word) (d : Descriptor) (l : LdtReg)
    (segs : SReg → Descriptor × Nat) : Prop :=
  let f := decide (8 ≤ dType d)
  let base := (dBase s.level d).toNat
  let image := s.tssField f base 1
  let vm := s.tssVm f base
  ({ c.withSegsOf u with
      cr0 := { s.cr0 with ts := true }, dr7 := c.dr7 &&& ~~~(0x155 : Dword), ldtr := l
      tr := { sel := sel, base := dBase s.level d, limit := dLimitWord s.level d, is386 := f } } : State).agrees u ∧
    u.eip = s.tssField f base 0 ∧ u.cur = .start ∧ u.shadow = .none ∧ u.resetLatch = false ∧ s.tssHolds f base u.regs ∧
    (∀ k, k ∈ [0, 2, 4, 6, 7, 8, 9, 10, 11, 12, 13, 16, 17] ∨ k = 18 ∧ s.level = 4 →
      u.flags.bit s.level k = image.getLsbD k) ∧
    u.flags.nt = (match kind with | .jump => false | .nest => true | .iret => image.getLsbD 14) ∧
    (∀ g, (u.seg g).inTask s.level vm (s.tssSel f base g) (segs g).1) ∧
    (f = true → (s.tableVal 8 (base + 100)).getLsbD 0 = true → u.trap.taskSwitch = true)

/-- What a task switch leaves in memory (R755, R756): the outgoing registers in the old TSS, in its format, to resume at `ret`;
the busy marks, and the back link of a nested task; the descriptors of the new segments are marked accessed (spec/21_protection.md
R183); all else stays. -/
def State.switchedMem (s u : State) (kind : SwitchKind) (sel : Word) (d : Descriptor)
    (segs : SReg → Descriptor × Nat) (ret : Dword) : Prop :=
  let f := decide (8 ≤ dType d)
  let own := s.tr.base.toNat
  let base := (dBase s.level d).toNat
  let old (i : Nat) : Dword := (s.withMemOf u).tssField s.tr.is386 own i
  let flags : Flags := if kind = .iret then { s.flags with nt := false } else s.flags
  let selectors : List Word := [s.es.sel, s.cs.sel, s.ss.sel, s.ds.sel, s.fs.sel, s.gs.sel]
  let b1 := s.tablePlace (s.busyAt s.tr.sel) 0
  let b2 := s.tablePlace (s.busyAt sel) 0
  let marks (g : SReg) : Prop := s.tssVm f base = false ∧ selNull (s.tssSel f base g) = false
  let mark (g : SReg) : Nat := s.tablePlace ((segs g).2 + 5) 0
  old 0 = taskWord s.tr.is386 ret ∧
    (if s.tr.is386 then flags.seenIn s.level (old 1) else flags.seenIn s.level ((old 1).setWidth 16 : Word)) ∧
    (s.withMemOf u).tssHolds s.tr.is386 own s.regs ∧
    (∀ i, i < (if s.tr.is386 then 6 else 4) → old (10 + i) = (selectors.getD i 0).setWidth 32) ∧
    Memory.read u.mem b1 = (if kind = .nest then Memory.read s.mem b1 else Memory.read s.mem b1 &&& 0xFD) ∧
    Memory.read u.mem b2 = (if kind = .iret then Memory.read s.mem b2 else Memory.read s.mem b2 ||| 2) ∧
    (kind = .nest → if f then (s.withMemOf u).tableVal 32 base = s.tr.sel.setWidth 32
      else (s.withMemOf u).tableVal 16 base = s.tr.sel) ∧
    (∀ g, marks g → Memory.read u.mem (mark g) = Memory.read s.mem (mark g) ||| 1) ∧
    ∀ x, x ≠ b1 → x ≠ b2 → ¬s.savedAt x → (kind = .nest → ∀ k, k < (if f then 4 else 2) → x ≠ s.tablePlace base k) →
      (∀ g, marks g → x ≠ mark g) → Memory.read u.mem x = Memory.read s.mem x

/-- A TASK SWITCH (spec/61_tasks_v86_debug.md R755 to R757), between tasks of either format and to a V86 task: `out` is the
incoming task; an error word is pushed in it, in the width of its TSS (spec/60_exceptions.md R687 step 3). -/
def State.switches (s c : State) (out : Host.Outcome State Fault Refusal) (kind : SwitchKind) (sel : Word)
    (ret : Dword) (err : Option Word) : Prop :=
  ∀ d l segs as, s.taskFits kind sel d l segs as → s.switchRoom kind sel d as →
    ∃ u, s.startsTask c u kind sel d l segs ∧ s.switchedMem u kind sel d segs ret ∧
      match err with
      | none => out = .next u
      | some e =>
        let w := if 8 ≤ dType d then 32 else 16
        let test := s.tablePlace ((dBase s.level d).toNat + 100) 0
        u.canPush w = true → (∀ k, k < w / 8 → u.placeAt .ss (u.pushAt w) k ≠ test) →
        ∃ t, out = .next t ∧ u.wentTo t u.eip ∧ t.flags = u.flags ∧ t.trap.taskSwitch = u.trap.taskSwitch ∧
          u.pushed t (e.setWidth w)

/-! ## String instructions -/

/-- The register after a string instruction moved it past an element of `n` bytes (spec/46_string_bcd_control.md R470). -/
def State.moved (s : State) (r : Reg) (n : Nat) : State :=
  if s.flags.df then s.setReg r (s.reg s.addrWidth r - BitVec.ofNat s.addrWidth n)
  else s.setReg r (s.reg s.addrWidth r + BitVec.ofNat s.addrWidth n)

/-- The counter goes down under a repeat prefix (R480 step 4). -/
def State.counted (s : State) : State :=
  if s.cur.rep.isSome then s.setReg .ecx (s.reg s.addrWidth .ecx - 1) else s

/-- Under a repeat prefix the counter is not used up by this element. -/
def State.countLeft (s : State) : Bool := s.cur.rep.isSome && decide (s.reg s.addrWidth .ecx ≠ 1)

/-- An element is processed: no repeat prefix, or a counter that is not 0 (R480 step 1). -/
def State.takesElement (s : State) : Prop := s.cur.rep = none ∨ s.reg s.addrWidth .ecx ≠ 0

/-- One element of a string instruction was processed; with `more` the instruction stays where it is to go on (R480 step
5), from the bytes it was fetched as, and the interrupt shadow before it lasts (spec/40_mov.md R304). -/
def State.stepped (s t : State) (more : Bool) : Prop :=
  s.agrees t ∧ t.eip = (if more then s.eip else s.nextIp) ∧ t.cur = .start ∧
    t.shadow = (if more then s.shadow else .none) ∧
    t.repeating.map (·.code) = if more then some s.cur.code else none

/-- The flags after a step of a string instruction that sets none: RF is cleared when the instruction ends. -/
def Flags.keptIf (f : Flags) (more : Bool) : Flags := if more then f else f.kept

/-! ## Accesses -/

/-- An instruction whose first access to memory is of `n` bytes at an offset of segment register `g`: MOV with a memory operand,
PUSH, POP, near CALL and RET, and an element of a string. -/
def State.accessForm (s : State) (i : Instr) (g : SReg) (k : AccessKind) (off : Dword) (n : Nat) : Prop :=
  let w := s.opWidth
  (∃ m, g = s.memSeg m ∧ off = s.memOff m ∧
    ((∃ r, n = w / 8 ∧ (i = .movRvRmv r (.mem m) ∧ k = .read ∨ i = .movRmvRv (.mem m) r ∧ k = .write)) ∨
      ∃ r, n = 1 ∧ (i = .movR8Rm8 r (.mem m) ∧ k = .read ∨ i = .movRm8R8 (.mem m) r ∧ k = .write))) ∨
    (g = .ss ∧ n = w / 8 ∧
      (k = .write ∧ off = s.pushAt w ∧ ((∃ r, i = .pushRv r) ∨ (∃ v, i = .pushImmv v) ∨ (∃ b, i = .pushImm8s b) ∨
          ∃ v, i = .callRelv v ∧ s.targetOk (targetOf s.op32 (s.nextIp + v)) = true) ∨
        k = .read ∧ off = s.sp ∧ ((∃ d, i = .popMv d) ∨ (∃ r, i = .popRv r) ∨ i = .ret ∨ ∃ v, i = .retImm16 v))) ∨
    (s.takesElement ∧
      (n = 1 ∧ (i = .movsb ∨ i = .cmpsb ∨ i = .lodsb) ∨ n = w / 8 ∧ (i = .movsv ∨ i = .cmpsv ∨ i = .lodsv)) ∧
        k = .read ∧ g = s.cur.seg.getD .ds ∧ off = s.pointer .esi) ∨
    (s.takesElement ∧
      (n = 1 ∧ (i = .stosb ∧ k = .write ∨ i = .scasb ∧ k = .read) ∨
        n = w / 8 ∧ (i = .stosv ∧ k = .write ∨ i = .scasv ∧ k = .read)) ∧ g = .es ∧ off = s.pointer .edi)

/-- An instruction with a second object after the first at a memory operand: far pointers and bounds. -/
def pairForm (i : Instr) (m : Mem) : Prop :=
  (∃ r, i = .ldsRvM16v r m ∨ i = .lesRvM16v r m ∨ i = .lfsRvM16v r m ∨ i = .lgsRvM16v r m ∨ i = .lssRvM16v r m ∨
    i = .boundRvM r m) ∨ i = .jmpM16v m ∨ i = .callM16v m

/-! ## Families of instructions, form by form -/

noncomputable section

/-- A two-operand instruction with its destination and source. -/
structure Form8 where
  instr : Instr
  dst : Rm8
  src : Src8

structure Formv where
  instr : Instr
  dst : Rmv
  src : Srcv

/-- The byte forms of spec/41_arithmetic.md R310. -/
def forms8 (i1 i2 i3 i4 i5 : Instr) (d : Rm8) (r : Reg8) (b : Byte) : List Form8 :=
  [{ instr := i1, dst := d, src := .rm (.reg r) }, { instr := i2, dst := .reg r, src := .rm d },
    { instr := i3, dst := .reg .al, src := .imm b }, { instr := i4, dst := d, src := .imm b },
    { instr := i5, dst := d, src := .imm b }]

/-- The word and doubleword forms of R310. -/
def formsv (i1 i2 i3 i4 i5 : Instr) (d : Rmv) (r : Reg) (v : Dword) (b : Byte) : List Formv :=
  [{ instr := i1, dst := d, src := .rm (.reg r) }, { instr := i2, dst := .reg r, src := .rm d },
    { instr := i3, dst := .reg .eax, src := .imm v }, { instr := i4, dst := d, src := .imm v },
    { instr := i5, dst := d, src := .imm8 b }]

/-- ADD, OR, ADC, SBB, AND, SUB, XOR on bytes. -/
def Alu.forms8 (op : Alu) (d : Rm8) (r : Reg8) (b : Byte) : List Form8 :=
  match op with
  | .add => Sys2Proof.Machine.forms8 (.addRm8R8 d r) (.addR8Rm8 r d) (.addAlImm8 b) (.addRm8Imm8 d b) (.addRm8Imm8Alias82 d b) d r b
  | .or => Sys2Proof.Machine.forms8 (.orRm8R8 d r) (.orR8Rm8 r d) (.orAlImm8 b) (.orRm8Imm8 d b) (.orRm8Imm8Alias82 d b) d r b
  | .adc => Sys2Proof.Machine.forms8 (.adcRm8R8 d r) (.adcR8Rm8 r d) (.adcAlImm8 b) (.adcRm8Imm8 d b) (.adcRm8Imm8Alias82 d b) d r b
  | .sbb => Sys2Proof.Machine.forms8 (.sbbRm8R8 d r) (.sbbR8Rm8 r d) (.sbbAlImm8 b) (.sbbRm8Imm8 d b) (.sbbRm8Imm8Alias82 d b) d r b
  | .and => Sys2Proof.Machine.forms8 (.andRm8R8 d r) (.andR8Rm8 r d) (.andAlImm8 b) (.andRm8Imm8 d b) (.andRm8Imm8Alias82 d b) d r b
  | .sub => Sys2Proof.Machine.forms8 (.subRm8R8 d r) (.subR8Rm8 r d) (.subAlImm8 b) (.subRm8Imm8 d b) (.subRm8Imm8Alias82 d b) d r b
  | .xor => Sys2Proof.Machine.forms8 (.xorRm8R8 d r) (.xorR8Rm8 r d) (.xorAlImm8 b) (.xorRm8Imm8 d b) (.xorRm8Imm8Alias82 d b) d r b

/-- ADD, OR, ADC, SBB, AND, SUB, XOR on words and doublewords. -/
def Alu.formsv (op : Alu) (d : Rmv) (r : Reg) (v : Dword) (b : Byte) : List Formv :=
  match op with
  | .add => Sys2Proof.Machine.formsv (.addRmvRv d r) (.addRvRmv r d) (.addEaxImmv v) (.addRmvImmv d v) (.addRmvImm8s d b) d r v b
  | .or => Sys2Proof.Machine.formsv (.orRmvRv d r) (.orRvRmv r d) (.orEaxImmv v) (.orRmvImmv d v) (.orRmvImm8s d b) d r v b
  | .adc => Sys2Proof.Machine.formsv (.adcRmvRv d r) (.adcRvRmv r d) (.adcEaxImmv v) (.adcRmvImmv d v) (.adcRmvImm8s d b) d r v b
  | .sbb => Sys2Proof.Machine.formsv (.sbbRmvRv d r) (.sbbRvRmv r d) (.sbbEaxImmv v) (.sbbRmvImmv d v) (.sbbRmvImm8s d b) d r v b
  | .and => Sys2Proof.Machine.formsv (.andRmvRv d r) (.andRvRmv r d) (.andEaxImmv v) (.andRmvImmv d v) (.andRmvImm8s d b) d r v b
  | .sub => Sys2Proof.Machine.formsv (.subRmvRv d r) (.subRvRmv r d) (.subEaxImmv v) (.subRmvImmv d v) (.subRmvImm8s d b) d r v b
  | .xor => Sys2Proof.Machine.formsv (.xorRmvRv d r) (.xorRvRmv r d) (.xorEaxImmv v) (.xorRmvImmv d v) (.xorRmvImm8s d b) d r v b

/-- CMP on bytes. -/
def cmpForms8 (d : Rm8) (r : Reg8) (b : Byte) : List Form8 :=
  forms8 (.cmpRm8R8 d r) (.cmpR8Rm8 r d) (.cmpAlImm8 b) (.cmpRm8Imm8 d b) (.cmpRm8Imm8Alias82 d b) d r b

/-- CMP on words and doublewords. -/
def cmpFormsv (d : Rmv) (r : Reg) (v : Dword) (b : Byte) : List Formv :=
  formsv (.cmpRmvRv d r) (.cmpRvRmv r d) (.cmpEaxImmv v) (.cmpRmvImmv d v) (.cmpRmvImm8s d b) d r v b

/-- TEST on bytes (spec/42_logic_rotate_shift.md R346). -/
def testForms8 (d : Rm8) (r : Reg8) (b : Byte) : List Form8 :=
  [{ instr := .testRm8R8 d r, dst := d, src := .rm (.reg r) }, { instr := .testRm8Imm8 d b, dst := d, src := .imm b },
    { instr := .testAlImm8 b, dst := .reg .al, src := .imm b }]

/-- TEST on words and doublewords. -/
def testFormsv (d : Rmv) (r : Reg) (v : Dword) : List Formv :=
  [{ instr := .testRmvRv d r, dst := d, src := .rm (.reg r) }, { instr := .testRmvImmv d v, dst := d, src := .imm v },
    { instr := .testEaxImmv v, dst := .reg .eax, src := .imm v }]

/-- A shift or rotate count: a constant or CL (spec/42_logic_rotate_shift.md R347). -/
inductive Count where
  | one
  | imm (b : Byte)
  | cl

/-- The count an instruction sees. -/
def Count.val (s : State) : Count → Byte
  | .one => 1
  | .imm b => b
  | .cl => s.reg8 .cl

/-- The shift or rotate of a byte operand by a count. -/
def ShiftKind.instr8 (k : ShiftKind) (d : Rm8) (c : Count) : Instr :=
  match k, c with
  | .rol, .one => .rolRm8One d
  | .rol, .imm b => .rolRm8Imm8 d b
  | .rol, .cl => .rolRm8Cl d
  | .ror, .one => .rorRm8One d
  | .ror, .imm b => .rorRm8Imm8 d b
  | .ror, .cl => .rorRm8Cl d
  | .rcl, .one => .rclRm8One d
  | .rcl, .imm b => .rclRm8Imm8 d b
  | .rcl, .cl => .rclRm8Cl d
  | .rcr, .one => .rcrRm8One d
  | .rcr, .imm b => .rcrRm8Imm8 d b
  | .rcr, .cl => .rcrRm8Cl d
  | .shl, .one => .shlRm8One d
  | .shl, .imm b => .shlRm8Imm8 d b
  | .shl, .cl => .shlRm8Cl d
  | .shr, .one => .shrRm8One d
  | .shr, .imm b => .shrRm8Imm8 d b
  | .shr, .cl => .shrRm8Cl d
  | .sar, .one => .sarRm8One d
  | .sar, .imm b => .sarRm8Imm8 d b
  | .sar, .cl => .sarRm8Cl d

/-- The shift or rotate of a word or doubleword operand by a count. -/
def ShiftKind.instrv (k : ShiftKind) (d : Rmv) (c : Count) : Instr :=
  match k, c with
  | .rol, .one => .rolRmvOne d
  | .rol, .imm b => .rolRmvImm8 d b
  | .rol, .cl => .rolRmvCl d
  | .ror, .one => .rorRmvOne d
  | .ror, .imm b => .rorRmvImm8 d b
  | .ror, .cl => .rorRmvCl d
  | .rcl, .one => .rclRmvOne d
  | .rcl, .imm b => .rclRmvImm8 d b
  | .rcl, .cl => .rclRmvCl d
  | .rcr, .one => .rcrRmvOne d
  | .rcr, .imm b => .rcrRmvImm8 d b
  | .rcr, .cl => .rcrRmvCl d
  | .shl, .one => .shlRmvOne d
  | .shl, .imm b => .shlRmvImm8 d b
  | .shl, .cl => .shlRmvCl d
  | .shr, .one => .shrRmvOne d
  | .shr, .imm b => .shrRmvImm8 d b
  | .shr, .cl => .shrRmvCl d
  | .sar, .one => .sarRmvOne d
  | .sar, .imm b => .sarRmvImm8 d b
  | .sar, .cl => .sarRmvCl d

/-- A condition's number in the opcodes (spec/43_control_transfer.md R376). -/
def Cond.number : Cond → Nat
  | .o => 0
  | .no => 1
  | .b => 2
  | .ae => 3
  | .e => 4
  | .ne => 5
  | .be => 6
  | .a => 7
  | .s => 8
  | .ns => 9
  | .p => 10
  | .np => 11
  | .l => 12
  | .ge => 13
  | .le => 14
  | .g => 15

/-- A conditional jump with a byte displacement (spec/43_control_transfer.md R377, R378). -/
def Cond.jump8 (c : Cond) (b : Byte) : Instr :=
  match c with
  | .o => .joRel8 b
  | .no => .jnoRel8 b
  | .b => .jbRel8 b
  | .ae => .jaeRel8 b
  | .e => .jeRel8 b
  | .ne => .jneRel8 b
  | .be => .jbeRel8 b
  | .a => .jaRel8 b
  | .s => .jsRel8 b
  | .ns => .jnsRel8 b
  | .p => .jpRel8 b
  | .np => .jnpRel8 b
  | .l => .jlRel8 b
  | .ge => .jgeRel8 b
  | .le => .jleRel8 b
  | .g => .jgRel8 b

/-- A conditional jump with a word or doubleword displacement (spec/43_control_transfer.md R377, R378). -/
def Cond.jumpv (c : Cond) (v : Dword) : Instr :=
  match c with
  | .o => .joRelv v
  | .no => .jnoRelv v
  | .b => .jbRelv v
  | .ae => .jaeRelv v
  | .e => .jeRelv v
  | .ne => .jneRelv v
  | .be => .jbeRelv v
  | .a => .jaRelv v
  | .s => .jsRelv v
  | .ns => .jnsRelv v
  | .p => .jpRelv v
  | .np => .jnpRelv v
  | .l => .jlRelv v
  | .ge => .jgeRelv v
  | .le => .jleRelv v
  | .g => .jgRelv v

/-- SETcond (spec/48_386_instructions.md R615). -/
def Cond.set8 (c : Cond) (d : Rm8) : Instr :=
  match c with
  | .o => .setoRm8 d
  | .no => .setnoRm8 d
  | .b => .setbRm8 d
  | .ae => .setaeRm8 d
  | .e => .seteRm8 d
  | .ne => .setneRm8 d
  | .be => .setbeRm8 d
  | .a => .setaRm8 d
  | .s => .setsRm8 d
  | .ns => .setnsRm8 d
  | .p => .setpRm8 d
  | .np => .setnpRm8 d
  | .l => .setlRm8 d
  | .ge => .setgeRm8 d
  | .le => .setleRm8 d
  | .g => .setgRm8 d

/-- The instructions LOCK may precede from the 80386 (spec/20_memory.md R103), their memory forms; a prefix passes it on. -/
def mayLock : Instr → Bool
  | .addRm8R8 d _ | .orRm8R8 d _ | .adcRm8R8 d _ | .sbbRm8R8 d _ | .andRm8R8 d _ | .subRm8R8 d _ | .xorRm8R8 d _ => d.isMem
  | .addRmvRv d _ | .orRmvRv d _ | .adcRmvRv d _ | .sbbRmvRv d _ | .andRmvRv d _ | .subRmvRv d _ | .xorRmvRv d _ => d.isMem
  | .addRm8Imm8 d _ | .orRm8Imm8 d _ | .adcRm8Imm8 d _ | .sbbRm8Imm8 d _ | .andRm8Imm8 d _ | .subRm8Imm8 d _
  | .xorRm8Imm8 d _ => d.isMem
  | .addRm8Imm8Alias82 d _ | .orRm8Imm8Alias82 d _ | .adcRm8Imm8Alias82 d _ | .sbbRm8Imm8Alias82 d _
  | .andRm8Imm8Alias82 d _ | .subRm8Imm8Alias82 d _ | .xorRm8Imm8Alias82 d _ => d.isMem
  | .addRmvImmv d _ | .orRmvImmv d _ | .adcRmvImmv d _ | .sbbRmvImmv d _ | .andRmvImmv d _ | .subRmvImmv d _
  | .xorRmvImmv d _ => d.isMem
  | .addRmvImm8s d _ | .orRmvImm8s d _ | .adcRmvImm8s d _ | .sbbRmvImm8s d _ | .andRmvImm8s d _ | .subRmvImm8s d _
  | .xorRmvImm8s d _ => d.isMem
  | .incRm8 d | .decRm8 d | .negRm8 d | .notRm8 d | .xchgRm8R8 d _ | .xaddRm8R8 d _ | .cmpxchgRm8R8 d _ => d.isMem
  | .incRmv d | .decRmv d | .negRmv d | .notRmv d | .xchgRmvRv d _ | .xaddRmvRv d _ | .cmpxchgRmvRv d _ => d.isMem
  | .btRmvRv d _ | .btsRmvRv d _ | .btrRmvRv d _ | .btcRmvRv d _ => d.isMem
  | .btRmvImm8 d _ | .btsRmvImm8 d _ | .btrRmvImm8 d _ | .btcRmvImm8 d _ => d.isMem
  | .prefixEs | .prefixCs | .prefixSs | .prefixDs | .prefixFs | .prefixGs | .prefixOperandSize | .prefixAddressSize
  | .prefixLock | .prefixRep | .prefixRepne => true
  | _ => false

/-- The eleven prefix bytes. -/
def isPrefix : Instr → Bool
  | .prefixEs | .prefixCs | .prefixSs | .prefixDs | .prefixFs | .prefixGs | .prefixOperandSize | .prefixAddressSize
  | .prefixLock | .prefixRep | .prefixRepne => true
  | _ => false

/-- BT, BTS, BTR, BTC with a register bit number (spec/48_386_instructions.md R600 to R603). -/
def BitOp.instrReg (op : BitOp) (d : Rmv) (r : Reg) : Instr :=
  match op with
  | .test => .btRmvRv d r
  | .set => .btsRmvRv d r
  | .reset => .btrRmvRv d r
  | .complement => .btcRmvRv d r

/-- BT, BTS, BTR, BTC with an immediate bit number. -/
def BitOp.instrImm (op : BitOp) (d : Rmv) (b : Byte) : Instr :=
  match op with
  | .test => .btRmvImm8 d b
  | .set => .btsRmvImm8 d b
  | .reset => .btrRmvImm8 d b
  | .complement => .btcRmvImm8 d b

end

end Sys2Proof.Machine
end

