-- ==== Sys2Proof/Certificates/Slice0/Obligations.lean ====
section
/-! DEFINITION. The statements for the provers. -/

open Sys2Proof Sys2Proof.Machine

/-! ## Arithmetic and logic -/

/-- ADD, OR, ADC, SBB, AND, SUB and XOR on bytes, in every form: the destination takes the result, the six flags tell of
it (AF after the logical ones is open), nothing else changes. The model's own choices here: AF after the logical ones is
open (log 62). -/
def Obligations.AluBytes : Prop :=
  ∀ (op : Alu) (d : Rm8) (r : Reg8) (b : Byte) (f : Form8) (s : State), f ∈ op.forms8 d r b →
    s.lockOk f.dst.isMem = true → f.src.ready s = true → s.ready8 .update f.dst = true →
    ∃ t, exec f.instr s = .next t ∧ s.ran t ∧
      s.wrote8 t f.dst (op.result (s.val8 f.dst) (f.src.val s) s.flags.cf) ∧
      s.flags.sixFrom t.flags ∧ op.sets (s.val8 f.dst) (f.src.val s) s.flags.cf t.flags

/-- The same on words and doublewords, by the operand size. The model's own choices here: AF after the logical ones is
open (log 62). -/
def Obligations.AluWords : Prop :=
  ∀ (op : Alu) (d : Rmv) (r : Reg) (v : Dword) (b : Byte) (f : Formv) (s : State), f ∈ op.formsv d r v b →
    s.lockOk f.dst.isMem = true → f.src.ready s s.opWidth = true → s.readyv .update s.opWidth f.dst = true →
    ∃ t, exec f.instr s = .next t ∧ s.ran t ∧
      s.wrotev t f.dst (op.result (s.valv s.opWidth f.dst) (f.src.val s s.opWidth) s.flags.cf) ∧
      s.flags.sixFrom t.flags ∧ op.sets (s.valv s.opWidth f.dst) (f.src.val s s.opWidth) s.flags.cf t.flags

/-- CMP and TEST in every form: the flags of the difference, or of the conjunction with CF and OF clear (AF then open);
registers and memory stay. The model's own choices here: AF after TEST is open (log 62). -/
def Obligations.CompareAndTest : Prop :=
  (∀ (d : Rm8) (r : Reg8) (b : Byte) (f : Form8) (s : State),
    s.lockOk false = true → f.src.ready s = true → s.ready8 .read f.dst = true →
    (f ∈ cmpForms8 d r b → ∃ t, exec f.instr s = .next t ∧ s.ran t ∧ t.regs = s.regs ∧ t.mem = s.mem ∧
      s.flags.sixFrom t.flags ∧ Alu.sub.sets (s.val8 f.dst) (f.src.val s) s.flags.cf t.flags) ∧
    (f ∈ testForms8 d r b → ∃ t, exec f.instr s = .next t ∧ s.ran t ∧ t.regs = s.regs ∧ t.mem = s.mem ∧
      s.flags.sixFrom t.flags ∧ Alu.and.sets (s.val8 f.dst) (f.src.val s) s.flags.cf t.flags)) ∧
  (∀ (d : Rmv) (r : Reg) (v : Dword) (b : Byte) (f : Formv) (s : State),
    s.lockOk false = true → f.src.ready s s.opWidth = true → s.readyv .read s.opWidth f.dst = true →
    (f ∈ cmpFormsv d r v b → ∃ t, exec f.instr s = .next t ∧ s.ran t ∧ t.regs = s.regs ∧ t.mem = s.mem ∧
      s.flags.sixFrom t.flags ∧
      Alu.sub.sets (s.valv s.opWidth f.dst) (f.src.val s s.opWidth) s.flags.cf t.flags) ∧
    (f ∈ testFormsv d r v → ∃ t, exec f.instr s = .next t ∧ s.ran t ∧ t.regs = s.regs ∧ t.mem = s.mem ∧
      s.flags.sixFrom t.flags ∧
      Alu.and.sets (s.valv s.opWidth f.dst) (f.src.val s s.opWidth) s.flags.cf t.flags))

/-- INC, DEC, NEG and NOT: the result and the flags. INC and DEC leave CF, NEG is the subtraction from 0, NOT changes no
flag. -/
def Obligations.UnaryInstructions : Prop :=
  (∀ (d : Rm8) (s : State), s.lockOk d.isMem = true → s.ready8 .update d = true →
    (∃ t, exec (.incRm8 d) s = .next t ∧ s.ran t ∧ s.wrote8 t d (s.val8 d + 1) ∧ s.flags.sixFrom t.flags ∧
      t.flags.cf = s.flags.cf ∧ t.flags.tells (s.val8 d + 1) ∧ t.flags.af = decide ((s.val8 d).toNat % 16 = 15) ∧
      t.flags.ovf = decide (s.val8 d = 0x7F)) ∧
    (∃ t, exec (.decRm8 d) s = .next t ∧ s.ran t ∧ s.wrote8 t d (s.val8 d - 1) ∧ s.flags.sixFrom t.flags ∧
      t.flags.cf = s.flags.cf ∧ t.flags.tells (s.val8 d - 1) ∧ t.flags.af = decide ((s.val8 d).toNat % 16 = 0) ∧
      t.flags.ovf = decide (s.val8 d = 0x80)) ∧
    (∃ t, exec (.negRm8 d) s = .next t ∧ s.ran t ∧ s.wrote8 t d (-s.val8 d) ∧ s.flags.sixFrom t.flags ∧
      t.flags.cf = decide (s.val8 d ≠ 0) ∧ t.flags.tells (-s.val8 d) ∧
      t.flags.af = decide ((s.val8 d).toNat % 16 ≠ 0) ∧ t.flags.ovf = decide (s.val8 d = 0x80)) ∧
    (∃ t, exec (.notRm8 d) s = .next t ∧ s.ran t ∧ s.wrote8 t d (~~~s.val8 d) ∧ t.flags = s.flags.kept)) ∧
  (∀ (d : Rmv) (s : State), s.lockOk d.isMem = true → s.readyv .update s.opWidth d = true →
    let a := s.valv s.opWidth d
    (∃ t, exec (.incRmv d) s = .next t ∧ s.ran t ∧ s.wrotev t d (a + 1) ∧ s.flags.sixFrom t.flags ∧
      t.flags.cf = s.flags.cf ∧ t.flags.tells (a + 1) ∧ t.flags.af = decide (a.toNat % 16 = 15) ∧
      t.flags.ovf = decide (a = BitVec.intMax s.opWidth)) ∧
    (∃ t, exec (.decRmv d) s = .next t ∧ s.ran t ∧ s.wrotev t d (a - 1) ∧ s.flags.sixFrom t.flags ∧
      t.flags.cf = s.flags.cf ∧ t.flags.tells (a - 1) ∧ t.flags.af = decide (a.toNat % 16 = 0) ∧
      t.flags.ovf = decide (a = BitVec.intMin s.opWidth)) ∧
    (∃ t, exec (.negRmv d) s = .next t ∧ s.ran t ∧ s.wrotev t d (-a) ∧ s.flags.sixFrom t.flags ∧
      t.flags.cf = decide (a ≠ 0) ∧ t.flags.tells (-a) ∧ t.flags.af = decide (a.toNat % 16 ≠ 0) ∧
      t.flags.ovf = decide (a = BitVec.intMin s.opWidth)) ∧
    (∃ t, exec (.notRmv d) s = .next t ∧ s.ran t ∧ s.wrotev t d (~~~a) ∧ t.flags = s.flags.kept)) ∧
  (∀ (r : Reg) (s : State), s.lockOk false = true →
    let a := s.reg s.opWidth r
    (∃ t, exec (.incRv r) s = .next t ∧ s.ran t ∧ s.wrotev t (.reg r) (a + 1) ∧ s.flags.sixFrom t.flags ∧
      t.flags.cf = s.flags.cf ∧ t.flags.tells (a + 1) ∧ t.flags.af = decide (a.toNat % 16 = 15) ∧
      t.flags.ovf = decide (a = BitVec.intMax s.opWidth)) ∧
    (∃ t, exec (.decRv r) s = .next t ∧ s.ran t ∧ s.wrotev t (.reg r) (a - 1) ∧ s.flags.sixFrom t.flags ∧
      t.flags.cf = s.flags.cf ∧ t.flags.tells (a - 1) ∧ t.flags.af = decide (a.toNat % 16 = 0) ∧
      t.flags.ovf = decide (a = BitVec.intMin s.opWidth)))

/-- MUL and IMUL: with one operand the double-length product by exact arithmetic, with two and three operands the
product cut to the operand size; CF and OF tell whether the part kept alone says it all; the other four result flags are
open. The model's own choices here: the other four flags are open (log 62). -/
def Obligations.Multiplications : Prop :=
  (∀ (d : Rm8) (s : State), s.lockOk false = true → s.ready8 .read d = true →
    (∃ t, exec (.mulRm8 d) s = .next t ∧ s.ran t ∧ t.mem = s.mem ∧ s.flags.sixFrom t.flags ∧
      t.regs = (s.setReg .eax (BitVec.ofNat 16 ((s.reg8 .al).toNat * (s.val8 d).toNat))).regs ∧
      t.flags.cf = decide (256 ≤ (s.reg8 .al).toNat * (s.val8 d).toNat) ∧ t.flags.ovf = t.flags.cf) ∧
    (∃ t, exec (.imulRm8 d) s = .next t ∧ s.ran t ∧ t.mem = s.mem ∧ s.flags.sixFrom t.flags ∧
      t.regs = (s.setReg .eax (BitVec.ofInt 16 ((s.reg8 .al).toInt * (s.val8 d).toInt))).regs ∧
      t.flags.cf = decide (¬(-128 ≤ (s.reg8 .al).toInt * (s.val8 d).toInt ∧
        (s.reg8 .al).toInt * (s.val8 d).toInt ≤ 127)) ∧ t.flags.ovf = t.flags.cf)) ∧
  (∀ (d : Rmv) (s : State), s.lockOk false = true → s.readyv .read s.opWidth d = true →
    let w := s.opWidth
    let n := (s.reg w .eax).toNat * (s.valv w d).toNat
    let z := (s.reg w .eax).toInt * (s.valv w d).toInt
    (∃ t, exec (.mulRmv d) s = .next t ∧ s.ran t ∧ t.mem = s.mem ∧ s.flags.sixFrom t.flags ∧
      t.regs = ((s.setReg .eax (BitVec.ofNat w n)).setReg .edx (BitVec.ofNat w (n / 2 ^ w))).regs ∧
      t.flags.cf = decide (2 ^ w ≤ n) ∧ t.flags.ovf = t.flags.cf) ∧
    (∃ t, exec (.imulRmv d) s = .next t ∧ s.ran t ∧ t.mem = s.mem ∧ s.flags.sixFrom t.flags ∧
      t.regs = ((s.setReg .eax (BitVec.ofInt w z)).setReg .edx (BitVec.ofInt w (z.fdiv (2 ^ w)))).regs ∧
      t.flags.cf = decide ((BitVec.ofInt w z).toInt ≠ z) ∧ t.flags.ovf = t.flags.cf)) ∧
  (∀ (r : Reg) (m : Rmv) (imm : Dword) (b : Byte) (s : State), s.lockOk false = true →
    s.readyv .read s.opWidth m = true →
    let w := s.opWidth
    ∀ (i : Instr) (x : BitVec w),
      (i = .imulRvRmv r m ∧ x = s.reg w r) ∨ (i = .imulRvRmvImmv r m imm ∧ x = imm.setWidth w) ∨
        (i = .imulRvRmvImm8s r m b ∧ x = b.signExtend w) →
      ∃ t, exec i s = .next t ∧ s.ran t ∧ t.mem = s.mem ∧ s.flags.sixFrom t.flags ∧
        t.regs = (s.setReg r (BitVec.ofInt w ((s.valv w m).toInt * x.toInt))).regs ∧
        t.flags.cf = decide ((BitVec.ofInt w ((s.valv w m).toInt * x.toInt)).toInt ≠ (s.valv w m).toInt * x.toInt) ∧
        t.flags.ovf = t.flags.cf)

/-- DIV: quotient and remainder where the quotient fits; otherwise INT 0, with nothing changed. The flags are open. The
model's own choices here: INT 0 changes no register (log 68). -/
def Obligations.DivideUnsigned : Prop :=
  (∀ (d : Rm8) (s : State), s.lockOk false = true → s.ready8 .read d = true →
    let n := (s.reg 16 .eax).toNat
    let k := (s.val8 d).toNat
    (k ≠ 0 ∧ n / k < 256 → ∃ t, exec (.divRm8 d) s = .next t ∧ s.ran t ∧ t.mem = s.mem ∧
      s.flags.sixFrom t.flags ∧
      t.regs = ((s.setReg8 .al (BitVec.ofNat 8 (n / k))).setReg8 .ah (BitVec.ofNat 8 (n % k))).regs) ∧
    (¬(k ≠ 0 ∧ n / k < 256) →
      exec (.divRm8 d) s = s.faults 0 none)) ∧
  (∀ (d : Rmv) (s : State), s.lockOk false = true → s.readyv .read s.opWidth d = true →
    let w := s.opWidth
    let n := (s.reg w .edx).toNat * 2 ^ w + (s.reg w .eax).toNat
    let k := (s.valv w d).toNat
    (k ≠ 0 ∧ n / k < 2 ^ w → ∃ t, exec (.divRmv d) s = .next t ∧ s.ran t ∧ t.mem = s.mem ∧
      s.flags.sixFrom t.flags ∧
      t.regs = ((s.setReg .eax (BitVec.ofNat w (n / k))).setReg .edx (BitVec.ofNat w (n % k))).regs) ∧
    (¬(k ≠ 0 ∧ n / k < 2 ^ w) →
      exec (.divRmv d) s = s.faults 0 none))

/-- IDIV: the quotient truncated toward zero and the remainder with the dividend's sign, where the quotient fits (on the
8086 the most negative quotient does not: spec/92_eei_decisions.md D20); otherwise INT 0, with nothing changed. The
model's own choices here: truncation toward zero, and the most negative quotient on the 8086 (log 68). -/
def Obligations.DivideSigned : Prop :=
  (∀ (d : Rm8) (s : State), s.lockOk false = true → s.ready8 .read d = true →
    let n := (s.reg 16 .eax).toInt
    let k := (s.val8 d).toInt
    let fits := k ≠ 0 ∧ (if s.level = 0 then -127 else -128) ≤ n.tdiv k ∧ n.tdiv k ≤ 127
    (fits → ∃ t, exec (.idivRm8 d) s = .next t ∧ s.ran t ∧ t.mem = s.mem ∧ s.flags.sixFrom t.flags ∧
      t.regs = ((s.setReg8 .al (BitVec.ofInt 8 (n.tdiv k))).setReg8 .ah (BitVec.ofInt 8 (n.tmod k))).regs) ∧
    (¬fits → exec (.idivRm8 d) s = s.faults 0 none)) ∧
  (∀ (d : Rmv) (s : State), s.lockOk false = true → s.readyv .read s.opWidth d = true →
    let w := s.opWidth
    let n := (s.reg w .edx).toInt * 2 ^ w + (s.reg w .eax).toNat
    let k := (s.valv w d).toInt
    let fits := k ≠ 0 ∧ (if s.level = 0 then 1 - 2 ^ (w - 1) else -(2 ^ (w - 1))) ≤ n.tdiv k ∧ n.tdiv k < 2 ^ (w - 1)
    (fits → ∃ t, exec (.idivRmv d) s = .next t ∧ s.ran t ∧ t.mem = s.mem ∧ s.flags.sixFrom t.flags ∧
      t.regs = ((s.setReg .eax (BitVec.ofInt w (n.tdiv k))).setReg .edx (BitVec.ofInt w (n.tmod k))).regs) ∧
    (¬fits → exec (.idivRmv d) s = s.faults 0 none))

/-! ## Shifts, rotates and bits -/

/-- Shifts and rotates of bytes, by 1, a constant or CL: result and CF in closed form, the count masked to five bits
from the 80286; with count 0 nothing changes; with count 1 OF tells whether the sign bit changed, above 1 it is open;
rotates keep SF, ZF, AF and PF. The model's own choices here: the open flags (log 62); a count of 0 writes a memory
operand back (log 65). -/
def Obligations.ShiftRotateBytes : Prop :=
  ∀ (k : ShiftKind) (d : Rm8) (c : Count) (s : State), s.lockOk false = true → s.ready8 .update d = true →
    let n := if s.level = 0 then (c.val s).toNat else (c.val s).toNat % 32
    let a := s.val8 d
    let x := k.closed a s.flags.cf n
    ∃ t, exec (k.instr8 d c) s = .next t ∧ s.ran t ∧
      (n = 0 → s.wrote8 t d a ∧ t.flags = s.flags.kept) ∧
      (n ≠ 0 → s.wrote8 t d x.1 ∧ s.flags.sixFrom t.flags ∧ t.flags.cf = x.2 ∧
        (n = 1 → t.flags.ovf = (a.msb != x.1.msb)) ∧
        (k.isRotate = true → t.flags.sf = s.flags.sf ∧ t.flags.zf = s.flags.zf ∧ t.flags.af = s.flags.af ∧
          t.flags.pf = s.flags.pf) ∧
        (k.isRotate = false → t.flags.tells x.1))

/-- The same for words and doublewords. The model's own choices here: the open flags (log 62); a count of 0 writes a
memory operand back (log 65). -/
def Obligations.ShiftRotateWords : Prop :=
  ∀ (k : ShiftKind) (d : Rmv) (c : Count) (s : State), s.lockOk false = true → s.readyv .update s.opWidth d = true →
    let n := if s.level = 0 then (c.val s).toNat else (c.val s).toNat % 32
    let a := s.valv s.opWidth d
    let x := k.closed a s.flags.cf n
    ∃ t, exec (k.instrv d c) s = .next t ∧ s.ran t ∧
      (n = 0 → s.wrotev t d a ∧ t.flags = s.flags.kept) ∧
      (n ≠ 0 → s.wrotev t d x.1 ∧ s.flags.sixFrom t.flags ∧ t.flags.cf = x.2 ∧
        (n = 1 → t.flags.ovf = (a.msb != x.1.msb)) ∧
        (k.isRotate = true → t.flags.sf = s.flags.sf ∧ t.flags.zf = s.flags.zf ∧ t.flags.af = s.flags.af ∧
          t.flags.pf = s.flags.pf) ∧
        (k.isRotate = false → t.flags.tells x.1))

/-- SHLD and SHRD by a constant or CL: the destination takes the upper or lower half of the shifted double-length value,
CF the last bit shifted out; count 0 changes nothing; a count above the width leaves the destination and the flags open.
The model's own choices here: what a count above the width leaves open, 93 V5 (log 62); a count of 0 writes a memory
operand back (log 65). -/
def Obligations.DoubleShifts : Prop :=
  ∀ (d : Rmv) (r : Reg) (imm : Byte) (i : Instr) (left : Bool) (count : Byte) (s : State),
    (i = .shldRmvRvImm8 d r imm ∧ left = true ∧ count = imm) ∨
      (i = .shldRmvRvCl d r ∧ left = true ∧ count = s.reg8 .cl) ∨
      (i = .shrdRmvRvImm8 d r imm ∧ left = false ∧ count = imm) ∨
      (i = .shrdRmvRvCl d r ∧ left = false ∧ count = s.reg8 .cl) →
    s.lockOk false = true → s.readyv .update s.opWidth d = true →
    let w := s.opWidth
    let n := count.toNat % 32
    let a := s.valv w d
    let b := s.reg w r
    let v : BitVec w := if left then (((a ++ b) <<< n) >>> w).setWidth w else ((b ++ a) >>> n).setWidth w
    ∃ t, exec i s = .next t ∧ s.ran t ∧
      (n = 0 → s.wrotev t d a ∧ t.flags = s.flags.kept) ∧
      (n ≠ 0 → s.flags.sixFrom t.flags) ∧
      (n ≠ 0 → n ≤ w → s.wrotev t d v ∧ t.flags.tells v ∧
        t.flags.cf = (if left then a.getLsbD (w - n) else a.getLsbD (n - 1))) ∧
      (w < n → ∃ u : BitVec w, s.wrotev t d u)

/-- BT, BTS, BTR and BTC: CF takes the old bit, the bit becomes what the instruction says, the other bits and flags
stay. A register bit number selects a place in memory around the operand (`State.bitUnit`); otherwise it counts modulo
the width. A memory operand has the alignment of a bit string. The model's own choices here: the flags that stay, and
where a register bit number leads (log 63); the boundary 4 of every memory form, at the address of the unit (log 31). -/
def Obligations.BitInstructions : Prop :=
  ∀ (op : BitOp) (s : State) (r : Reg) (b : Byte),
    let w := s.opWidth
    (∀ (q : Reg) (i : Instr) (k : Nat), s.lockOk false = true →
      (i = op.instrReg (.reg q) r ∧ k = (s.reg w r).toNat % w) ∨ (i = op.instrImm (.reg q) b ∧ k = b.toNat % w) →
      ∃ t v, exec i s = .next t ∧ s.ran t ∧ t.flags = { s.flags.kept with cf := (s.reg w q).getLsbD k } ∧
        op.makes (s.reg w q) k v ∧ s.wrotev t (.reg q) v) ∧
    (∀ (m : Mem) (i : Instr) (k : Nat) (off : Dword), s.lockOk true = true →
      (i = op.instrReg (.mem m) r ∧ k = (s.reg w r).toNat % w ∧ off = s.bitUnit w m (s.reg w r)) ∨
        (i = op.instrImm (.mem m) b ∧ k = b.toNat % w ∧ off = s.memOff m) →
      s.reaches (s.memSeg m) (if op = .test then .read else .update) off (w / 8) 4 = true →
      ∃ t v, exec i s = .next t ∧ s.ran t ∧ t.regs = s.regs ∧
        t.flags = { s.flags.kept with cf := (s.memVal w (s.memSeg m) off).getLsbD k } ∧
        op.makes (s.memVal w (s.memSeg m) off) k v ∧ s.stores t (s.memSeg m) off v ∧
        (op = .test → t.mem = s.mem))

/-- BSF and BSR: the number of the lowest or highest one bit; without one the destination stays. ZF tells which, in the
sense the parameter gives it (spec/92_eei_decisions.md D25); the other flags stay. The model's own choices here: the
kept destination and flags, and ZF as the parameter of D25 says (log 63). -/
def Obligations.BitScans : Prop :=
  ∀ (r : Reg) (m : Rmv) (s : State), s.lockOk false = true → s.readyv .read s.opWidth m = true →
    let w := s.opWidth
    let v := s.valv w m
    let zf (found : Bool) : Flags := { s.flags.kept with zf := found == decide (s.cfg.bsfZf = .source) }
    (v = 0 → ∀ i, i = .bsfRvRmv r m ∨ i = .bsrRvRmv r m →
      ∃ t, exec i s = .next t ∧ s.ran t ∧ t.mem = s.mem ∧ t.regs = s.regs ∧ t.flags = zf false) ∧
    (∀ k, v.getLsbD k = true → (∀ j, j < k → v.getLsbD j = false) →
      ∃ t, exec (.bsfRvRmv r m) s = .next t ∧ s.ran t ∧ t.mem = s.mem ∧
        t.regs = (s.setReg r (BitVec.ofNat w k)).regs ∧ t.flags = zf true) ∧
    (∀ k, v.getLsbD k = true → (∀ j, k < j → v.getLsbD j = false) →
      ∃ t, exec (.bsrRvRmv r m) s = .next t ∧ s.ran t ∧ t.mem = s.mem ∧
        t.regs = (s.setReg r (BitVec.ofNat w k)).regs ∧ t.flags = zf true)

/-! ## Data transfer -/

/-- MOV between registers and memory and of constants, byte, word and doubleword: the destination takes the source,
flags and everything else stay. -/
def Obligations.Moves : Prop :=
  (∀ (d : Rm8) (src : Src8) (r : Reg8) (b : Byte) (i : Instr) (s : State),
    (i = .movRm8R8 d r ∧ src = .rm (.reg r)) ∨ (∃ m, i = .movR8Rm8 r m ∧ d = .reg r ∧ src = .rm m) ∨
      (i = .movRm8Imm8 d b ∧ src = .imm b) ∨ (i = .movR8Imm8 r b ∧ d = .reg r ∧ src = .imm b) →
    s.lockOk false = true → src.ready s = true → s.ready8 .write d = true →
    ∃ t, exec i s = .next t ∧ s.ran t ∧ t.flags = s.flags.kept ∧ s.wrote8 t d (src.val s)) ∧
  (∀ (d : Rmv) (src : Srcv) (r : Reg) (v : Dword) (i : Instr) (s : State),
    (i = .movRmvRv d r ∧ src = .rm (.reg r)) ∨ (∃ m, i = .movRvRmv r m ∧ d = .reg r ∧ src = .rm m) ∨
      (i = .movRmvImmv d v ∧ src = .imm v) ∨ (i = .movRvImmv r v ∧ d = .reg r ∧ src = .imm v) →
    s.lockOk false = true → src.ready s s.opWidth = true → s.readyv .write s.opWidth d = true →
    ∃ t, exec i s = .next t ∧ s.ran t ∧ t.flags = s.flags.kept ∧ s.wrotev t d (src.val s s.opWidth))

/-- MOV between the accumulator and a direct offset, and XLAT: through DS or the override; XLAT reads the byte of the
table at BX (EBX) that AL numbers. -/
def Obligations.DirectMoves : Prop :=
  (∀ (off : Dword) (s : State), s.lockOk false = true →
    let g := s.cur.seg.getD .ds
    let w := s.opWidth
    (s.reaches g .read off 1 1 = true → ∃ t, exec (.movAlMoffs8 off) s = .next t ∧ s.ran t ∧
      t.flags = s.flags.kept ∧ t.mem = s.mem ∧ t.regs = (s.setReg8 .al (s.memVal 8 g off)).regs) ∧
    (s.reaches g .read off (w / 8) (w / 8) = true → ∃ t, exec (.movEaxMoffsv off) s = .next t ∧ s.ran t ∧
      t.flags = s.flags.kept ∧ t.mem = s.mem ∧ t.regs = (s.setReg .eax (s.memVal w g off)).regs) ∧
    (s.reaches g .write off 1 1 = true → ∃ t, exec (.movMoffs8Al off) s = .next t ∧ s.ran t ∧
      t.flags = s.flags.kept ∧ t.regs = s.regs ∧ s.stores t g off (s.reg8 .al)) ∧
    (s.reaches g .write off (w / 8) (w / 8) = true → ∃ t, exec (.movMoffsvEax off) s = .next t ∧ s.ran t ∧
      t.flags = s.flags.kept ∧ t.regs = s.regs ∧ s.stores t g off (s.reg w .eax))) ∧
  (∀ s : State, s.lockOk false = true →
    let g := s.cur.seg.getD .ds
    let off : Dword := BitVec.ofNat 32
      (((s.reg s.addrWidth .ebx).toNat + (s.reg8 .al).toNat) % 2 ^ s.addrWidth)
    s.reaches g .read off 1 1 = true → ∃ t, exec .xlat s = .next t ∧ s.ran t ∧ t.flags = s.flags.kept ∧
      t.mem = s.mem ∧ t.regs = (s.setReg8 .al (s.memVal 8 g off)).regs)

/-- MOV from a segment register stores its selector: 16 bits in memory; in a 32-bit register the upper half is open. The
model's own choices here: the upper half of a 32-bit register is open (log 59). -/
def Obligations.MovesFromSegment : Prop :=
  ∀ (d : Rmv) (g : SReg) (s : State), s.lockOk false = true → s.readyv .write 16 d = true →
    ∃ t, exec (.movRm16Sreg d g) s = .next t ∧ s.ran t ∧ t.flags = s.flags.kept ∧
      match d with
      | .mem m => t.regs = s.regs ∧ s.stores t (s.memSeg m) (s.memOff m) (s.seg g).sel
      | .reg q => t.mem = s.mem ∧
        ∃ v : BitVec s.opWidth, v.setWidth 16 = (s.seg g).sel ∧ t.regs = (s.setReg q v).regs

/-- CBW, CWDE, CWD, CDQ, MOVZX, MOVSX, LEA and BSWAP: the register takes the extended value, the offset, the bytes in
reverse order (a 16-bit BSWAP changes nothing: 93 U21); flags stay. The model's own choices here: BSWAP with a 16-bit
operand (log 64). -/
def Obligations.ExtensionsAndOffsets : Prop :=
  (∀ s : State, s.lockOk false = true →
    (∃ t, exec .cbw s = .next t ∧ s.ran t ∧ t.mem = s.mem ∧ t.flags = s.flags.kept ∧
      t.regs = (if s.op32 then (s.setReg .eax (BitVec.ofInt 32 (s.reg 16 .eax).toInt)).regs
        else (s.setReg .eax (BitVec.ofInt 16 (s.reg 8 .eax).toInt)).regs)) ∧
    (∃ t, exec .cwd s = .next t ∧ s.ran t ∧ t.mem = s.mem ∧ t.flags = s.flags.kept ∧
      t.regs = (s.setReg .edx (if (s.reg s.opWidth .eax).toInt < 0 then BitVec.allOnes s.opWidth else 0)).regs)) ∧
  (∀ (r : Reg) (s : State), s.lockOk false = true →
    let w := s.opWidth
    (∀ m : Rm8, s.ready8 .read m = true →
      (∃ t, exec (.movzxRvRm8 r m) s = .next t ∧ s.ran t ∧ t.flags = s.flags.kept ∧ t.mem = s.mem ∧
        t.regs = (s.setReg r (BitVec.ofNat w (s.val8 m).toNat)).regs) ∧
      (∃ t, exec (.movsxRvRm8 r m) s = .next t ∧ s.ran t ∧ t.flags = s.flags.kept ∧ t.mem = s.mem ∧
        t.regs = (s.setReg r (BitVec.ofInt w (s.val8 m).toInt)).regs)) ∧
    (∀ m : Rmv, s.readyv .read 16 m = true →
      (∃ t, exec (.movzxR32Rm16 r m) s = .next t ∧ s.ran t ∧ t.flags = s.flags.kept ∧ t.mem = s.mem ∧
        t.regs = (s.setReg r (BitVec.ofNat w (s.valv 16 m).toNat)).regs) ∧
      (∃ t, exec (.movsxR32Rm16 r m) s = .next t ∧ s.ran t ∧ t.flags = s.flags.kept ∧ t.mem = s.mem ∧
        t.regs = (s.setReg r (BitVec.ofInt w (s.valv 16 m).toInt)).regs)) ∧
    (∀ m : Mem, ∃ t, exec (.leaRvM r m) s = .next t ∧ s.ran t ∧ t.flags = s.flags.kept ∧ t.mem = s.mem ∧
      t.regs = (s.setReg r (BitVec.ofNat w (s.memOff m).toNat)).regs) ∧
    (∃ t, exec (.bswapR32 r) s = .next t ∧ s.ran t ∧ t.flags = s.flags.kept ∧ t.mem = s.mem ∧
      ∀ q i, i < 32 → (t.regs.get q).getLsbD i =
        if q = r ∧ s.op32 = true then (s.regs.get r).getLsbD (24 - 8 * (i / 8) + i % 8)
        else (s.regs.get q).getLsbD i))

/-- XCHG: the operands change places, no flag changes. XADD: the destination takes the sum, the register the old
destination (the sum when both are one register); flags as ADD. The model's own choices here: one register for both
operands (log 65). -/
def Obligations.Exchanges : Prop :=
  (∀ (d : Rm8) (r : Reg8) (s : State), s.lockOk d.isMem = true → s.ready8 .update d = true →
    ∃ t, exec (.xchgRm8R8 d r) s = .next t ∧ s.ran t ∧ t.flags = s.flags.kept ∧
      match d with
      | .reg q => t.mem = s.mem ∧ t.regs = ((s.setReg8 r (s.reg8 q)).setReg8 q (s.reg8 r)).regs
      | .mem m => t.regs = (s.setReg8 r (s.val8 d)).regs ∧ s.stores t (s.memSeg m) (s.memOff m) (s.reg8 r)) ∧
  (∀ (d : Rmv) (r : Reg) (i : Instr) (s : State),
    i = .xchgRmvRv d r ∨ (i = .xchgEaxRv r ∧ d = .reg .eax) → s.lockOk d.isMem = true →
    s.readyv .update s.opWidth d = true →
    let w := s.opWidth
    ∃ t, exec i s = .next t ∧ s.ran t ∧ t.flags = s.flags.kept ∧
      match d with
      | .reg q => t.mem = s.mem ∧ t.regs = ((s.setReg r (s.reg w q)).setReg q (s.reg w r)).regs
      | .mem m => t.regs = (s.setReg r (s.valv w d)).regs ∧ s.stores t (s.memSeg m) (s.memOff m) (s.reg w r)) ∧
  (∀ (d : Rm8) (r : Reg8) (s : State), s.lockOk d.isMem = true → s.ready8 .update d = true →
    ∃ t, exec (.xaddRm8R8 d r) s = .next t ∧ s.ran t ∧ s.flags.sixFrom t.flags ∧
      Alu.add.sets (s.val8 d) (s.reg8 r) s.flags.cf t.flags ∧
      match d with
      | .reg q => t.mem = s.mem ∧ t.regs = ((s.setReg8 r (s.reg8 q)).setReg8 q (s.reg8 q + s.reg8 r)).regs
      | .mem m => t.regs = (s.setReg8 r (s.val8 d)).regs ∧
        s.stores t (s.memSeg m) (s.memOff m) (s.val8 d + s.reg8 r)) ∧
  (∀ (d : Rmv) (r : Reg) (s : State), s.lockOk d.isMem = true → s.readyv .update s.opWidth d = true →
    let w := s.opWidth
    ∃ t, exec (.xaddRmvRv d r) s = .next t ∧ s.ran t ∧ s.flags.sixFrom t.flags ∧
      Alu.add.sets (s.valv w d) (s.reg w r) s.flags.cf t.flags ∧
      match d with
      | .reg q => t.mem = s.mem ∧ t.regs = ((s.setReg r (s.reg w q)).setReg q (s.reg w q + s.reg w r)).regs
      | .mem m => t.regs = (s.setReg r (s.valv w d)).regs ∧
        s.stores t (s.memSeg m) (s.memOff m) (s.valv w d + s.reg w r))

/-- CMPXCHG: flags as CMP of the accumulator with the destination; equal, the destination takes the register; otherwise
the accumulator takes the destination, which stays. The model's own choices here: the write after a failed comparison
(log 65). -/
def Obligations.CompareExchanges : Prop :=
  (∀ (d : Rm8) (r : Reg8) (s : State), s.lockOk d.isMem = true → s.ready8 .update d = true →
    ∃ t, exec (.cmpxchgRm8R8 d r) s = .next t ∧ s.ran t ∧ s.flags.sixFrom t.flags ∧
      Alu.sub.sets (s.reg8 .al) (s.val8 d) s.flags.cf t.flags ∧
      (s.reg8 .al = s.val8 d → s.wrote8 t d (s.reg8 r)) ∧
      (s.reg8 .al ≠ s.val8 d → t.regs = (s.setReg8 .al (s.val8 d)).regs ∧
        ∀ a, Memory.read t.mem a = Memory.read s.mem a)) ∧
  (∀ (d : Rmv) (r : Reg) (s : State), s.lockOk d.isMem = true → s.readyv .update s.opWidth d = true →
    let w := s.opWidth
    ∃ t, exec (.cmpxchgRmvRv d r) s = .next t ∧ s.ran t ∧ s.flags.sixFrom t.flags ∧
      Alu.sub.sets (s.reg w .eax) (s.valv w d) s.flags.cf t.flags ∧
      (s.reg w .eax = s.valv w d → s.wrotev t d (s.reg w r)) ∧
      (s.reg w .eax ≠ s.valv w d → t.regs = (s.setReg .eax (s.valv w d)).regs ∧
        ∀ a, Memory.read t.mem a = Memory.read s.mem a))

/-! ## Segment registers -/

/-- In real and V86 mode a load of a segment register takes any selector and gives the base 16 times it; the limit stays
in real mode and is that of a 64 KB segment in V86 mode. MOV and POP to SS open the interrupt shadow. LDS, LES, LFS, LGS
and LSS take the offset at the lower address into the register, the selector after it into the segment register. The
model's own choices here: the limit that stays (log 50); the shadow (log 48); which loads open it (log 44); where the
selector lies (log 32); a selector slot aligned to 2 (log 31). -/
def Obligations.SegmentLoads86 : Prop :=
  (∀ (g : SReg) (m : Rmv) (s : State), s.lockOk false = true → s.prot = false →
    (g ≠ .cs → s.readyv .read 16 m = true → ∃ t h, exec (.movSregRm16 g m) s = .next t ∧
      (s.setSeg g h).agrees t ∧ t.regs = s.regs ∧ t.mem = s.mem ∧ t.flags = s.flags.kept ∧ t.eip = s.nextIp ∧
      t.cur = .start ∧ t.shadow = (if g = .ss then .ss else .none) ∧
      h.sel = s.valv 16 m ∧ h.valid = true ∧ h.base.toNat = 16 * (s.valv 16 m).toNat ∧
      h.limit = (if s.real then (s.seg g).limit else 0xFFFF)) ∧
    (∀ i, (i = .popEs ∧ g = .es) ∨ (i = .popSs ∧ g = .ss) ∨ (i = .popDs ∧ g = .ds) ∨ (i = .popFs ∧ g = .fs) ∨
        (i = .popGs ∧ g = .gs) →
      s.reaches .ss .read s.sp (s.opWidth / 8) 2 = true →
      ∃ t h, exec i s = .next t ∧ (s.setSeg g h).agrees t ∧ t.regs = (s.setSp (s.popAt s.opWidth)).regs ∧
        t.mem = s.mem ∧ t.flags = s.flags.kept ∧ t.eip = s.nextIp ∧
        t.cur = .start ∧ t.shadow = (if g = .ss then .ss else .none) ∧
        h.sel = (s.top s.opWidth).setWidth 16 ∧ h.valid = true ∧
        h.base.toNat = 16 * ((s.top s.opWidth).setWidth 16 : Word).toNat ∧
        h.limit = (if s.real then (s.seg g).limit else 0xFFFF))) ∧
  (∀ (g : SReg) (r : Reg) (m : Mem) (i : Instr) (s : State), s.lockOk false = true → s.prot = false →
    (i = .ldsRvM16v r m ∧ g = .ds) ∨ (i = .lesRvM16v r m ∧ g = .es) ∨ (i = .lfsRvM16v r m ∧ g = .fs) ∨
      (i = .lgsRvM16v r m ∧ g = .gs) ∨ (i = .lssRvM16v r m ∧ g = .ss) →
    let w := s.opWidth
    let selOff := s.memOff m + BitVec.ofNat 32 (w / 8)
    let sel := s.memVal 16 (s.memSeg m) selOff
    s.reachesPair m (w / 8) 2 = true →
    ∃ t h, exec i s = .next t ∧ (s.setSeg g h).ran t ∧ t.mem = s.mem ∧ t.flags = s.flags.kept ∧
      t.regs = (s.setReg r (s.memVal w (s.memSeg m) (s.memOff m))).regs ∧
      h.sel = sel ∧ h.valid = true ∧ h.base.toNat = 16 * sel.toNat ∧
      h.limit = (if s.real then (s.seg g).limit else 0xFFFF))

/-- In protected mode a load of DS, ES, FS or GS, by MOV, POP, LDS, LES, LFS or LGS, takes a selector of a readable
segment of sufficient level that is present: the hidden part is that of the descriptor, which is marked accessed; a null
selector makes the register unusable. A load of SS, by MOV, POP or LSS, takes a writable data segment of exactly the
current level; MOV and POP open the interrupt shadow. The checks that fail raise INT 13, or INT 11 (INT 12 for SS) for a
segment not present, with the selector, and nothing changes. The model's own choices here: the accessed bit (log 88);
null selectors (log 89); the shadow (log 48); which loads open it (log 44); where the selector lies (log 32); a selector
slot aligned to 2 (log 31). -/
def Obligations.ProtectedSegmentLoads : Prop :=
  ∀ (g : SReg) (i : Instr) (sel : Word) (regs : Gpr) (s : State), s.lockOk false = true → s.prot = true →
    s.segForm i g sel regs →
    let fails (vec : Byte) : Prop := exec i s = s.faults vec (some (sel &&& 0xFFFC))
    let loads (t : State) (h : SegReg) : Prop := exec i s = .next t ∧ (s.setSeg g h).agrees t ∧ t.eip = s.nextIp ∧
      t.cur = .start ∧ t.shadow = shadowOf i g ∧ t.regs = regs ∧ t.flags = s.flags.kept
    (g = .ds ∨ g = .es ∨ g = .fs ∨ g = .gs →
      (selNull sel = true → ∃ t h, loads t h ∧ t.mem = s.mem ∧ h.sel = sel ∧ h.valid = false) ∧
      (selNull sel = false → s.descAddr sel = none → fails 13) ∧
      ∀ d a, selNull sel = false → s.names sel d a →
        let fits := dIsReadable d = true ∧ (dConforming d = true ∨ max s.cpl (selRpl sel) ≤ dDpl d)
        (fits → dPresent d = true → ∃ t h, loads t h ∧ h.shows s.level sel d ∧ s.marked t a) ∧
        (¬fits → fails 13) ∧ (fits → dPresent d = false → fails 11)) ∧
    (g = .ss →
      (selNull sel = true ∨ s.descAddr sel = none → fails 13) ∧
      ∀ d a, selNull sel = false → s.names sel d a →
        let fits := selRpl sel = s.cpl ∧ dIsWritableData d = true ∧ dDpl d = s.cpl
        (fits → dPresent d = true → ∃ t h, loads t h ∧ h.shows s.level sel d ∧ s.marked t a) ∧
        (¬fits → fails 13) ∧ (fits → dPresent d = false → fails 12))

/-! ## Ports -/

/-- IN, OUT, INS and OUTS where the port may be used: OUT and OUTS send the accumulator, or the element at DS:SI, to
adjacent ports, the lowest byte first; IN and INS take byte after byte what adjacent ports have waiting (a byte no
device supplied is open) and load the accumulator with it, or store it at ES:DI; the index register of INS and OUTS
moves past the element, and they repeat as the other string instructions. Where the port may not be used, by CPL and
IOPL or by the I/O permission map, they raise INT 13. The model's own choices here: how ports are held (log 13); how the
permission map is read (log 90); the order of the checks of INS and OUTS (log 76); one iteration a step (log 17); where
the repetition ends (log 74). -/
def Obligations.PortTransfers : Prop :=
  ∀ (b : Byte) (s : State) (w p : Nat) (i : Instr), s.lockOk false = true → w = 8 ∨ w = s.opWidth →
    let dx := (s.reg 16 .edx).toNat
    let sent (v : BitVec w) : List (Nat × Byte) :=
      ((List.range (w / 8)).map fun k => (p + k, (v >>> (8 * k)).setWidth 8)).reverse ++ s.portOut
    (w = 8 ∧ (i = .outImm8Al b ∧ p = b.toNat ∨ i = .outDxAl ∧ p = dx) ∨
        w = s.opWidth ∧ (i = .outImm8Eax b ∧ p = b.toNat ∨ i = .outDxEax ∧ p = dx) →
      (s.ioAllowed p (w / 8) → ∃ t, exec i s = .next t ∧
        ({ s with portOut := sent (s.reg w .eax) } : State).ran t ∧
        t.regs = s.regs ∧ t.mem = s.mem ∧ t.flags = s.flags.kept) ∧
      (s.ioRefused p (w / 8) → exec i s = s.faults 13 (some 0))) ∧
    (w = 8 ∧ (i = .inAlImm8 b ∧ p = b.toNat ∨ i = .inAlDx ∧ p = dx) ∨
        w = s.opWidth ∧ (i = .inEaxImm8 b ∧ p = b.toNat ∨ i = .inEaxDx ∧ p = dx) →
      (s.ioAllowed p (w / 8) → ∃ t bs, exec i s = .next t ∧ bs.length = w / 8 ∧
        portsGive s.portIn p bs t.portIn ∧ ({ s with portIn := t.portIn } : State).ran t ∧ t.mem = s.mem ∧
        t.flags = s.flags.kept ∧ t.regs = (s.setReg .eax (leValue w bs)).regs) ∧
      (s.ioRefused p (w / 8) → exec i s = s.faults 13 (some 0))) ∧
    (i = .insb ∨ i = .insv ∨ i = .outsb ∨ i = .outsv → ¬s.takesElement →
      ∃ t, exec i s = .next t ∧ s.ran t ∧ t.regs = s.regs ∧ t.mem = s.mem ∧ t.flags = s.flags.kept) ∧
    (w = 8 ∧ (i = .insb ∨ i = .outsb) ∨ w = s.opWidth ∧ (i = .insv ∨ i = .outsv) → p = dx → s.takesElement →
      s.ioRefused p (w / 8) → exec i s = s.faults 13 (some 0)) ∧
    (w = 8 ∧ i = .insb ∨ w = s.opWidth ∧ i = .insv → p = dx → s.takesElement → s.ioAllowed p (w / 8) →
      s.reaches .es .write (s.pointer .edi) (w / 8) (w / 8) = true →
      ∃ t bs, exec i s = .next t ∧ bs.length = w / 8 ∧ portsGive s.portIn p bs t.portIn ∧
        ({ s with portIn := t.portIn } : State).stepped t s.countLeft ∧ t.flags = s.flags.keptIf s.countLeft ∧
        s.stores t .es (s.pointer .edi) (leValue w bs) ∧ t.regs = (s.moved .edi (w / 8)).counted.regs) ∧
    (w = 8 ∧ i = .outsb ∨ w = s.opWidth ∧ i = .outsv → p = dx → s.takesElement → s.ioAllowed p (w / 8) →
      s.reaches (s.cur.seg.getD .ds) .read (s.pointer .esi) (w / 8) (w / 8) = true →
      ∃ t, exec i s = .next t ∧
        ({ s with portOut := sent (s.memVal w (s.cur.seg.getD .ds) (s.pointer .esi)) } : State).stepped t s.countLeft ∧
        t.flags = s.flags.keptIf s.countLeft ∧ t.mem = s.mem ∧ t.regs = (s.moved .esi (w / 8)).counted.regs)

/-! ## The stack -/

/-- PUSH of a register, memory, constants and segment registers: the value stands on the new top of the stack. PUSH SP
stores the old stack pointer, on the 8086 the new one; the upper half of a segment register's 32-bit slot is open. The
model's own choices here: the form FF /6 of PUSH SP (log 69); the upper half of a selector slot (log 59); that slot
aligned to 2 (log 31). -/
def Obligations.Pushes : Prop :=
  ∀ s : State, s.lockOk false = true →
    let w := s.opWidth
    (s.canPush w = true → ∀ (r : Reg) (i : Instr), i = .pushRv r ∨ i = .pushMv (.reg r) →
      ∃ t, exec i s = .next t ∧ s.ran t ∧ t.flags = s.flags.kept ∧
        s.pushed t (if r = .esp ∧ s.level = 0 then s.reg w .esp - 2 else s.reg w r)) ∧
    (s.canPush w = true → ∀ m : Mem, s.reaches (s.memSeg m) .read (s.memOff m) (w / 8) (w / 8) = true →
      ∃ t, exec (.pushMv (.mem m)) s = .next t ∧ s.ran t ∧ t.flags = s.flags.kept ∧
        s.pushed t (s.memVal w (s.memSeg m) (s.memOff m))) ∧
    (s.canPush w = true → ∀ v : Dword, ∃ t, exec (.pushImmv v) s = .next t ∧ s.ran t ∧ t.flags = s.flags.kept ∧
      s.pushed t (v.setWidth w)) ∧
    (s.canPush w = true → ∀ b : Byte, ∃ t, exec (.pushImm8s b) s = .next t ∧ s.ran t ∧ t.flags = s.flags.kept ∧
      s.pushed t (b.signExtend w)) ∧
    (s.reaches .ss .write (s.pushAt w) (w / 8) 2 = true → ∀ (g : SReg) (i : Instr),
      (i = .pushEs ∧ g = .es) ∨ (i = .pushCs ∧ g = .cs) ∨ (i = .pushSs ∧ g = .ss) ∨
        (i = .pushDs ∧ g = .ds) ∨ (i = .pushFs ∧ g = .fs) ∨ (i = .pushGs ∧ g = .gs) →
      ∃ t, ∃ v : BitVec w, exec i s = .next t ∧ s.ran t ∧ t.flags = s.flags.kept ∧
        v.setWidth 16 = (s.seg g).sel ∧ s.pushed t v)

/-- POP to a register or memory: the destination takes the top of the stack; a memory destination is addressed with the
stack pointer already moved, and POP SP leaves the value popped. The model's own choices here: the register form of 8F
/0 (log 100). -/
def Obligations.Pops : Prop :=
  ∀ (d : Rmv) (i : Instr) (s : State), s.lockOk false = true → s.canPop s.opWidth = true →
    i = .popMv d ∨ (∃ r, i = .popRv r ∧ d = .reg r) →
    let u := s.setSp (s.popAt s.opWidth)
    u.readyv .write s.opWidth d = true →
    ∃ t, exec i s = .next t ∧ s.ran t ∧ t.flags = s.flags.kept ∧ u.wrotev t d (s.top s.opWidth)

/-- PUSHA stores the eight registers below the stack pointer, SP as it was before; POPA takes them back, but for SP,
which moves past them all. ENTER: BP is pushed, then for nesting levels above 0 that many items of the old frame are
copied after it (where they lie apart from the new ones); BP points at the first push, and the stack pointer goes down
by the frame's size. LEAVE: the stack pointer takes BP, and BP is popped. The model's own choices here: ENTER as D24 has
it, ENTER and LEAVE where operand and stack size differ, the level modulo 32 and the room for the final stack pointer
(log 66). -/
def Obligations.RegisterBlocksAndFrames : Prop :=
  ∀ s : State, s.lockOk false = true →
    let w := s.opWidth
    let order : List Reg := [.eax, .ecx, .edx, .ebx, .esp, .ebp, .esi, .edi]
    (s.roomFor w 8 → ∃ t, exec .pusha s = .next t ∧ s.ran t ∧ t.flags = s.flags.kept ∧ s.pushedItems t w 8 ∧
      ∀ i, i < 8 → s.pushedAt t w (i + 1) = s.reg w (order.getD i .eax)) ∧
    (s.holds w 8 → ∃ t, exec .popa s = .next t ∧ s.ran t ∧ t.flags = s.flags.kept ∧ t.mem = s.mem ∧
      ∀ i r, order.getD (7 - i) .eax = r → i < 8 →
        t.regs.get r = if r = .esp then (s.setSp (s.up w 8)).regs.esp
          else mergeLow (s.regs.get r) (s.memVal w .ss (s.up w i))) ∧
    (∀ (size : Word) (level : Byte),
      let n := level.toNat % 32
      let sp := s.stackOff (s.down w (n + 1) - size.setWidth 32)
      s.roomFor w (n + 1) →
      (∀ i, i < n →
        s.reaches .ss .read (s.stackOff (s.regs.ebp - BitVec.ofNat 32 (w / 8 * i))) (w / 8) (w / 8) = true) →
      (s.level = 0 ∨ s.ss.inLimit sp.toNat 1 = true) →
      ∃ t, exec (.enterImm16Imm8 size level) s = .next t ∧ s.ran t ∧ t.flags = s.flags.kept ∧
        t.regs = ((s.setSp sp).setReg .ebp ((s.setSp (s.down w 1)).reg w .esp)).regs ∧
        (∀ a, s.offStack w (n + 1) a → Memory.read t.mem a = Memory.read s.mem a) ∧
        s.pushedAt t w 1 = s.reg w .ebp ∧
        ∀ i, i < n →
          let old := s.stackOff (s.regs.ebp - BitVec.ofNat 32 (w / 8 * i))
          (∀ k, k < w / 8 → s.offStack w (n + 1) (s.placeAt .ss old k)) → s.pushedAt t w (i + 2) = s.memVal w .ss old) ∧
    (let u := s.setSp s.regs.ebp;
      u.canPop w = true →
      ∃ t, exec .leave s = .next t ∧ s.ran t ∧ t.flags = s.flags.kept ∧ t.mem = s.mem ∧
        t.regs = ((u.setSp (u.popAt w)).setReg .ebp (u.top w)).regs)

/-! ## Flags -/

/-- STC, CLC, CMC, STD, CLD, SAHF: the flags they name take the value they say, no other changes. LAHF: AH takes the low
byte of the flags image. NOP does nothing. SETcond makes its operand 1 or 0 as its condition holds. Each of the former
has the opcode byte its rule gives. The model's own choices here: the unnamed bits of the image, by the decision D4 of
the spec (log 94). -/
def Obligations.FlagInstructions : Prop :=
  (∀ c : DecodeCtx, decode c [0xF9] = .ok .stc [] ∧ decode c [0xF8] = .ok .clc [] ∧ decode c [0xF5] = .ok .cmc [] ∧
    decode c [0xFD] = .ok .std [] ∧ decode c [0xFC] = .ok .cld [] ∧ decode c [0x9E] = .ok .sahf [] ∧
    decode c [0x9F] = .ok .lahf [] ∧ decode c [0x90] = .ok .nop []) ∧
  ∀ s : State, s.lockOk false = true →
    (∀ (i : Instr) (f : Flags),
      (i = .stc ∧ f = { s.flags with cf := true }) ∨ (i = .clc ∧ f = { s.flags with cf := false }) ∨
        (i = .cmc ∧ f = { s.flags with cf := !s.flags.cf }) ∨ (i = .std ∧ f = { s.flags with df := true }) ∨
        (i = .cld ∧ f = { s.flags with df := false }) ∨ (i = .nop ∧ f = s.flags) ∨
        (i = .sahf ∧ f = { s.flags with
          sf := (s.reg8 .ah).getLsbD 7, zf := (s.reg8 .ah).getLsbD 6, af := (s.reg8 .ah).getLsbD 4
          pf := (s.reg8 .ah).getLsbD 2, cf := (s.reg8 .ah).getLsbD 0 }) →
      ∃ t, exec i s = .next t ∧ s.ran t ∧ t.regs = s.regs ∧ t.mem = s.mem ∧ t.flags = f.kept) ∧
    (∃ t, ∃ v : Byte, exec .lahf s = .next t ∧ s.ran t ∧ t.mem = s.mem ∧ t.flags = s.flags.kept ∧
      t.regs = (s.setReg8 .ah v).regs ∧ s.flags.seenIn s.level v) ∧
    (∀ (c : Cond) (d : Rm8), s.ready8 .write d = true →
      ∃ t, exec (c.set8 d) s = .next t ∧ s.ran t ∧ t.flags = s.flags.kept ∧
        s.wrote8 t d (if c.holds s.flags then 1 else 0))

/-- PUSHF stores the image of the flags (in V86 mode with VM and RF reading 0); POPF loads what CPL and IOPL allow. In
V86 mode both need IOPL 3. The model's own choices here: VM and RF (log 70); unnamed bits (log 94). -/
def Obligations.FlagsOnStack : Prop :=
  ∀ s : State, s.lockOk false = true → (s.v86 = true → s.flags.iopl = 3) →
    let w := s.opWidth
    (s.canPush w = true → ∃ t, ∃ v : BitVec w, exec .pushf s = .next t ∧ s.ran t ∧ t.flags = s.flags.kept ∧
      s.pushed t v ∧ (if s.v86 then { s.flags with vm := false, rf := false } else s.flags : Flags).seenIn s.level v) ∧
    (s.canPop w = true → ∃ t, exec .popf s = .next t ∧ s.ran t ∧ t.mem = s.mem ∧
      t.regs = (s.setSp (s.popAt w)).regs ∧ t.flags = s.loads (s.top w) false)

/-- CF, AF and OF of the sum and the difference by exact arithmetic, SF, ZF and PF of the result, for the widths 8, 16
and 32. -/
def Obligations.SumAndDifferenceFlags : Prop :=
  ∀ (w : Nat) (f : Flags) (a b : BitVec w) (c : Bool), w = 8 ∨ w = 16 ∨ w = 32 →
    ((addOp f a b c).1.toNat = (a.toNat + b.toNat + c.toNat) % 2 ^ w ∧
      (addOp f a b c).2.ofSum a b (addOp f a b c).1 c ∧ (addOp f a b c).2.tells (addOp f a b c).1) ∧
    (((subOp f a b c).1.toNat : Int) = (a.toNat - b.toNat - c.toNat) % 2 ^ w ∧
      (subOp f a b c).2.ofDiff a b (subOp f a b c).1 c ∧ (subOp f a b c).2.tells (subOp f a b c).1)

/-- The sixteen conditions test the flags their table names, say of the flags of CMP a, b what their names say of a and
b, unsigned and signed. -/
def Obligations.Conditions : Prop :=
  (∀ g : Flags, (Cond.o.holds g ↔ g.ovf = true) ∧ (Cond.no.holds g ↔ g.ovf = false) ∧ (Cond.b.holds g ↔ g.cf = true) ∧
    (Cond.ae.holds g ↔ g.cf = false) ∧ (Cond.e.holds g ↔ g.zf = true) ∧ (Cond.ne.holds g ↔ g.zf = false) ∧
    (Cond.be.holds g ↔ g.cf = true ∨ g.zf = true) ∧ (Cond.a.holds g ↔ g.cf = false ∧ g.zf = false) ∧
    (Cond.s.holds g ↔ g.sf = true) ∧ (Cond.ns.holds g ↔ g.sf = false) ∧ (Cond.p.holds g ↔ g.pf = true) ∧
    (Cond.np.holds g ↔ g.pf = false) ∧ (Cond.l.holds g ↔ g.sf ≠ g.ovf) ∧ (Cond.ge.holds g ↔ g.sf = g.ovf) ∧
    (Cond.le.holds g ↔ g.zf = true ∨ g.sf ≠ g.ovf) ∧ (Cond.g.holds g ↔ g.zf = false ∧ g.sf = g.ovf)) ∧
  (∀ (w : Nat) (a b : BitVec w) (c : Bool) (g : Flags), w = 8 ∨ w = 16 ∨ w = 32 → Alu.sub.sets a b c g →
    Cond.b.holds g = decide (a.toNat < b.toNat) ∧ Cond.ae.holds g = decide (b.toNat ≤ a.toNat) ∧
    Cond.e.holds g = decide (a = b) ∧ Cond.ne.holds g = decide (a ≠ b) ∧
    Cond.be.holds g = decide (a.toNat ≤ b.toNat) ∧ Cond.a.holds g = decide (b.toNat < a.toNat) ∧
    Cond.l.holds g = decide (a.toInt < b.toInt) ∧ Cond.ge.holds g = decide (b.toInt ≤ a.toInt) ∧
    Cond.le.holds g = decide (a.toInt ≤ b.toInt) ∧ Cond.g.holds g = decide (b.toInt < a.toInt) ∧
    Cond.o.holds g = decide ((a - b).toInt ≠ a.toInt - b.toInt) ∧ Cond.no.holds g = !Cond.o.holds g ∧
    Cond.s.holds g = decide ((a - b).toInt < 0) ∧ Cond.ns.holds g = !Cond.s.holds g ∧
    Cond.p.holds g = decide ((List.range 8).countP (fun i => (a - b).getLsbD i) % 2 = 0) ∧
    Cond.np.holds g = !Cond.p.holds g)

/-! ## Control transfer -/

/-- Jcond, JMP to a distance or an offset, JCXZ: when the jump is taken IP becomes the target, cut to the operand size,
or INT 13 is raised when it lies outside the code segment; otherwise the next instruction follows. Nothing else changes.
The short forms have the opcode bytes 70h plus the condition's number, EBh and E3h. JCXZ tests the counter of the
address size, which is the spec's own decision (spec/92_eei_decisions.md D21). -/
def Obligations.NearJumps : Prop :=
  (∀ (c : DecodeCtx) (b : Byte), decode c [0xE3, b] = .ok (.jcxzRel8 b) [] ∧ decode c [0xEB, b] = .ok (.jmpRel8 b) [] ∧
    ∀ k : Cond, decode c [0x70 + BitVec.ofNat 8 k.number, b] = .ok (k.jump8 b) []) ∧
  ∀ (s : State) (i : Instr) (taken : Bool) (off : Dword), s.lockOk false = true →
    (∃ c b, i = Cond.jump8 c b ∧ taken = c.holds s.flags ∧ off = s.nextIp + b.signExtend 32) ∨
      (∃ c v, i = Cond.jumpv c v ∧ taken = c.holds s.flags ∧ off = s.nextIp + v) ∨
      (∃ b, i = .jmpRel8 b ∧ taken = true ∧ off = s.nextIp + b.signExtend 32) ∨
      (∃ v, i = .jmpRelv v ∧ taken = true ∧ off = s.nextIp + v) ∨
      (∃ d, i = .jmpRmv d ∧ taken = true ∧ s.readyv .read s.opWidth d = true ∧
        off = (s.valv s.opWidth d).setWidth 32) ∨
      (∃ b, i = .jcxzRel8 b ∧ taken = decide (s.reg s.addrWidth .ecx = 0) ∧ off = s.nextIp + b.signExtend 32) →
    let v := targetOf s.op32 off
    (taken = false → ∃ t, exec i s = .next t ∧ s.ran t ∧ t.regs = s.regs ∧ t.mem = s.mem ∧ t.flags = s.flags.kept) ∧
    (taken = true → s.targetOk v = true →
      ∃ t, exec i s = .next t ∧ s.wentTo t v ∧ t.regs = s.regs ∧ t.mem = s.mem ∧ t.flags = s.flags.kept) ∧
    (taken = true → s.targetOk v = false → exec i s = s.faults 13 (some 0))

/-- LOOP, LOOPE, LOOPNE: the counter goes down without touching the flags; the jump is taken when it is not 0 then and
the condition holds. A target outside the code segment raises INT 13 and the counter stays. The opcode bytes are E2h,
E1h and E0h. That the counter has the address size, and stays when the target is refused, are the spec's own decisions
(spec/92_eei_decisions.md D21, D10). -/
def Obligations.Loops : Prop :=
  (∀ (c : DecodeCtx) (b : Byte), decode c [0xE2, b] = .ok (.loopRel8 b) [] ∧ decode c [0xE1, b] = .ok (.loopeRel8 b) [] ∧
    decode c [0xE0, b] = .ok (.loopneRel8 b) []) ∧
  ∀ (s : State) (i : Instr) (b : Byte) (more : Bool), s.lockOk false = true →
    (i = .loopRel8 b ∧ more = true) ∨ (i = .loopeRel8 b ∧ more = s.flags.zf) ∨
      (i = .loopneRel8 b ∧ more = !s.flags.zf) →
    let n := s.reg s.addrWidth .ecx - 1
    let v := targetOf s.op32 (s.nextIp + b.signExtend 32)
    (¬(n ≠ 0 ∧ more = true) → ∃ t, exec i s = .next t ∧ s.ran t ∧ t.regs = (s.setReg .ecx n).regs ∧
      t.mem = s.mem ∧ t.flags = s.flags.kept) ∧
    (n ≠ 0 ∧ more = true → s.targetOk v = true → ∃ t, exec i s = .next t ∧ s.wentTo t v ∧
      t.regs = (s.setReg .ecx n).regs ∧ t.mem = s.mem ∧ t.flags = s.flags.kept) ∧
    (n ≠ 0 ∧ more = true → s.targetOk v = false → exec i s = s.faults 13 (some 0))

/-- Near CALL pushes the address of the next instruction and goes to the target, which is checked before the push. RET
goes to the offset on top of the stack and moves the stack pointer past it and past the bytes its operand counts. The
model's own choices here: the target is checked first (log 87). -/
def Obligations.NearCallsAndReturns : Prop :=
  ∀ s : State, s.lockOk false = true →
    let w := s.opWidth
    (∀ (i : Instr) (off : Dword),
      (∃ v, i = .callRelv v ∧ off = s.nextIp + v) ∨
        (∃ d, i = .callRmv d ∧ s.readyv .read w d = true ∧ off = (s.valv w d).setWidth 32) →
      let v := targetOf s.op32 off
      (s.targetOk v = true → s.canPush w = true → ∃ t, exec i s = .next t ∧ s.wentTo t v ∧
        t.flags = s.flags.kept ∧ s.pushed t (s.nextIp.setWidth w)) ∧
      (s.targetOk v = false → exec i s = s.faults 13 (some 0))) ∧
    (∀ (i : Instr) (n : Word), (i = .ret ∧ n = 0) ∨ i = .retImm16 n → s.canPop w = true →
      let v := targetOf s.op32 ((s.top w).setWidth 32)
      (s.targetOk v = true → ∃ t, exec i s = .next t ∧ s.wentTo t v ∧ t.flags = s.flags.kept ∧ t.mem = s.mem ∧
        t.regs = (s.setSp (s.stackOff (s.popAt w + n.setWidth 32))).regs) ∧
      (s.targetOk v = false → exec i s = s.faults 13 (some 0)))

/-- Far JMP, CALL and RET in real and V86 mode: CS takes the selector with base 16 times it, IP the offset; CALL first
pushes CS, then the address of the next instruction (the upper half of a 32-bit CS slot is open); RETF takes the offset,
then the selector from the stack and moves past them and past the bytes its operand counts. The model's own choices
here: the upper half of the CS slot (log 59); the target is checked first (log 87); where the selector lies (log 32). -/
def Obligations.FarTransfers86 : Prop :=
  ∀ s : State, s.lockOk false = true → s.prot = false →
    let w := s.opWidth
    (∀ (sel : Word) (off : Dword), s.targetOk (targetOf s.op32 off) = true →
      (∀ i, i = .jmpPtr16v off sel ∨
          (∃ m, i = .jmpM16v m ∧ s.reachesPair m (w / 8) 2 = true ∧
            off = (s.memVal w (s.memSeg m) (s.memOff m)).setWidth 32 ∧
            sel = s.memVal 16 (s.memSeg m) (s.memOff m + BitVec.ofNat 32 (w / 8))) →
        ∃ t, exec i s = .next t ∧ (s.withCsOf t).wentTo t (targetOf s.op32 off) ∧ s.tookCs t sel ∧
          t.regs = s.regs ∧ t.mem = s.mem ∧ t.flags = s.flags.kept) ∧
      (∀ i, i = .callPtr16v off sel ∨
          (∃ m, i = .callM16v m ∧ s.reachesPair m (w / 8) 2 = true ∧
            off = (s.memVal w (s.memSeg m) (s.memOff m)).setWidth 32 ∧
            sel = s.memVal 16 (s.memSeg m) (s.memOff m + BitVec.ofNat 32 (w / 8))) →
        s.roomFor w 2 →
        ∃ t, exec i s = .next t ∧ (s.withCsOf t).wentTo t (targetOf s.op32 off) ∧ s.tookCs t sel ∧
          t.flags = s.flags.kept ∧ s.pushedItems t w 2 ∧ (s.pushedAt t w 1).setWidth 16 = s.cs.sel ∧
          s.pushedAt t w 2 = s.nextIp.setWidth w)) ∧
    (∀ (i : Instr) (n : Word), (i = .retf ∧ n = 0) ∨ i = .retfImm16 n → s.holds w 2 →
      let v := targetOf s.op32 ((s.top w).setWidth 32)
      s.targetOk v = true →
      ∃ t, exec i s = .next t ∧ (s.withCsOf t).wentTo t v ∧
        s.tookCs t ((s.memVal w .ss (s.up w 1)).setWidth 16) ∧ t.flags = s.flags.kept ∧ t.mem = s.mem ∧
        t.regs = (s.setSp (s.stackOff (s.up w 2 + n.setWidth 32))).regs)

/-! ## Interrupts -/

/-- INTERRUPTS AND EXCEPTIONS IN REAL MODE, from INT 3, INT n and INTO, from outside, and from a faulting or trapping
instruction: the flags, CS and the return address are pushed, 16 bits each; IF and TF are cleared; CS:IP comes from the
vector table. From the 80286 an entry outside the table gives INT 8 instead, at the interrupted instruction, and with
INT 8 outside it too the processor shuts down. INTO without overflow does nothing. The model's own choices here: a
vector table above 1 MB on the 80286 (log 95); the order of pushes and reads (log 40); unnamed bits of the image (log
94); the address INT 8 saves (log 41); an interrupt from outside (log 35); the end of the shadow (log 48). -/
def Obligations.RealInterrupts : Prop :=
  (∀ (s c : State) (out : Host.Outcome State Fault Refusal) (soft : Bool) (n : Byte) (err : Option Word) (ret : Dword)
      (rf : Bool), s.raises out soft n err ret rf c → s.real = true →
    let inside (k : Byte) : Prop := s.level = 0 ∨ k.toNat * 4 + 3 ≤ s.idtr.limit.toNat
    (inside n → s.entersReal c out n ret) ∧ (¬inside n → inside 8 → s.entersReal c out 8 s.eip) ∧
    (¬inside n → ¬inside 8 → c.shutsDown out)) ∧
  ∀ s : State, s.lockOk false = true → s.flags.ovf = false →
    ∃ t, exec .into s = .next t ∧ s.ran t ∧ t.regs = s.regs ∧ t.mem = s.mem ∧ t.flags = s.flags.kept

/-- IRET in real mode takes IP, CS and the flags from the stack, and ends the blocking of NMI; RF is what a 32-bit image
has, and clear after a 16-bit one. The model's own choices here: RF from a 32-bit image (log 70); the end of the
blocking of NMI (log 91). -/
def Obligations.RealInterruptReturn : Prop :=
  ∀ s : State, s.lockOk false = true → s.real = true →
    let w := s.opWidth
    let v := targetOf s.op32 ((s.top w).setWidth 32)
    s.holds w 3 → s.targetOk v = true →
    ∃ t, exec .iret s = .next t ∧ ({ s.withCsOf t with nmiBlocked := false } : State).wentTo t v ∧
      s.tookCs t ((s.memVal w .ss (s.up w 1)).setWidth 16) ∧ t.mem = s.mem ∧
      t.regs = (s.setSp (s.up w 3)).regs ∧
      t.flags = s.loads (s.memVal w .ss (s.up w 2))
        (if w = 32 then (s.memVal w .ss (s.up w 2)).getLsbD 16 else false)

/-- In real mode with 16-bit operands IRET undoes INT n: the general registers and the flags are as before (RF clear),
control is at the instruction after INT n, CS has its selector again. The model's own choices here: the order of pushes
and reads (log 40). -/
def Obligations.InterruptThenReturn : Prop :=
  ∀ (s : State) (n : Byte), s.lockOk false = true → s.real = true → s.op32 = false → s.cur.op = false →
    let entry := (if s.level = 0 then 0 else s.idtr.base.toNat) + n.toNat * 4
    (s.level = 0 ∨ n.toNat * 4 + 3 ≤ s.idtr.limit.toNat) → s.roomFor 16 3 →
    (∀ i, 1 ≤ i → i ≤ 3 → s.reaches .ss .read (s.down 16 i) 2 2 = true) →
    s.tableOk .read entry 2 = true → s.tableOk .read (entry + 2) 2 = true →
    ∃ t u, exec (.intImm8 n) s = .next t ∧ exec .iret t = .next u ∧ u.regs = s.regs ∧ u.flags = s.flags.kept ∧
      u.eip = (s.nextIp.setWidth 16 : Word).setWidth 32 ∧ u.cs.sel = s.cs.sel ∧
      u.cs.base.toNat = 16 * s.cs.sel.toNat ∧ u.cs.limit = s.cs.limit ∧ u.ss = s.ss ∧ u.ds = s.ds ∧ u.es = s.es

/-- BOUND passes when the register lies between the signed bounds in memory, the lower first; otherwise INT 5. The
model's own choices here: where the upper bound lies (log 32). -/
def Obligations.BoundChecks : Prop :=
  ∀ (r : Reg) (m : Mem) (s : State), s.lockOk false = true →
    let w := s.opWidth
    let g := s.memSeg m
    let off2 := s.memOff m + BitVec.ofNat 32 (w / 8)
    s.reachesPair m (w / 8) (w / 8) = true →
    let inside := (s.memVal w g (s.memOff m)).toInt ≤ (s.reg w r).toInt ∧
      (s.reg w r).toInt ≤ (s.memVal w g off2).toInt
    (inside → ∃ t, exec (.boundRvM r m) s = .next t ∧ s.ran t ∧ t.regs = s.regs ∧ t.mem = s.mem ∧
      t.flags = s.flags.kept) ∧
    (¬inside → exec (.boundRvM r m) s = s.faults 5 none)

/-! ## Strings and decimal arithmetic -/

/-- MOVS, STOS and LODS: one element goes where it should and the index registers the instruction uses move past it, up
or down by DF; under a repeat prefix the counter goes down and the instruction stays until it is 0; with counter 0
nothing happens. The model's own choices here: one iteration a step (log 17); where the repetition ends (log 74). -/
def Obligations.StringMoves : Prop :=
  ∀ (s : State) (w : Nat), s.lockOk false = true →
    let src := s.pointer .esi
    let dst := s.pointer .edi
    let g := s.cur.seg.getD .ds
    let more := s.countLeft
    (∀ i, i = .movsb ∨ i = .movsv ∨ i = .stosb ∨ i = .stosv ∨ i = .lodsb ∨ i = .lodsv → ¬s.takesElement →
      ∃ t, exec i s = .next t ∧ s.ran t ∧ t.regs = s.regs ∧ t.mem = s.mem ∧ t.flags = s.flags.kept) ∧
    (∀ i, (i = .movsb ∧ w = 8) ∨ (i = .movsv ∧ w = s.opWidth) → s.takesElement →
      s.reaches g .read src (w / 8) (w / 8) = true → s.reaches .es .write dst (w / 8) (w / 8) = true →
      ∃ t, exec i s = .next t ∧ s.stepped t more ∧ t.flags = s.flags.keptIf more ∧
        s.stores t .es dst (s.memVal w g src) ∧
        t.regs = ((s.moved .esi (w / 8)).moved .edi (w / 8)).counted.regs) ∧
    (∀ i, (i = .stosb ∧ w = 8) ∨ (i = .stosv ∧ w = s.opWidth) → s.takesElement →
      s.reaches .es .write dst (w / 8) (w / 8) = true →
      ∃ t, exec i s = .next t ∧ s.stepped t more ∧ t.flags = s.flags.keptIf more ∧
        s.stores t .es dst (s.reg w .eax) ∧ t.regs = (s.moved .edi (w / 8)).counted.regs) ∧
    (∀ i, (i = .lodsb ∧ w = 8) ∨ (i = .lodsv ∧ w = s.opWidth) → s.takesElement →
      s.reaches g .read src (w / 8) (w / 8) = true →
      ∃ t, exec i s = .next t ∧ s.stepped t more ∧ t.flags = s.flags.keptIf more ∧ t.mem = s.mem ∧
        t.regs = ((s.setReg .eax (s.memVal w g src)).moved .esi (w / 8)).counted.regs)

/-- CMPS and SCAS: the flags of source minus destination, of the accumulator minus destination; under REPE or REPNE the
instruction stays while the counter is not 0 and the comparison is as the prefix says. The model's own choices here: one
iteration a step (log 17); where the repetition ends (log 74). -/
def Obligations.StringCompares : Prop :=
  ∀ (s : State) (w : Nat), s.lockOk false = true →
    let src := s.pointer .esi
    let dst := s.pointer .edi
    let g := s.cur.seg.getD .ds
    let more (a b : BitVec w) : Bool := s.countLeft && (decide (a = b) == decide (s.cur.rep = some .rep))
    let flagged (t : State) (a b : BitVec w) : Prop :=
      s.flags.sixFrom t.flags.kept ∧ Alu.sub.sets a b false t.flags ∧
        t.flags.rf = (s.flags.rf && more a b)
    (∀ i, i = .cmpsb ∨ i = .cmpsv ∨ i = .scasb ∨ i = .scasv → ¬s.takesElement →
      ∃ t, exec i s = .next t ∧ s.ran t ∧ t.regs = s.regs ∧ t.mem = s.mem ∧ t.flags = s.flags.kept) ∧
    (∀ i, (i = .cmpsb ∧ w = 8) ∨ (i = .cmpsv ∧ w = s.opWidth) → s.takesElement →
      s.reaches g .read src (w / 8) (w / 8) = true → s.reaches .es .read dst (w / 8) (w / 8) = true →
      let a : BitVec w := s.memVal w g src
      let b : BitVec w := s.memVal w .es dst
      ∃ t, exec i s = .next t ∧ s.stepped t (more a b) ∧ t.mem = s.mem ∧ flagged t a b ∧
        t.regs = ((s.moved .esi (w / 8)).moved .edi (w / 8)).counted.regs) ∧
    (∀ i, (i = .scasb ∧ w = 8) ∨ (i = .scasv ∧ w = s.opWidth) → s.takesElement →
      s.reaches .es .read dst (w / 8) (w / 8) = true →
      let a : BitVec w := s.reg w .eax
      let b : BitVec w := s.memVal w .es dst
      ∃ t, exec i s = .next t ∧ s.stepped t (more a b) ∧ t.mem = s.mem ∧ flagged t a b ∧
        t.regs = (s.moved .edi (w / 8)).counted.regs)

/-- CHANGES OF PRIVILEGE LEVEL AND OF TASK, from the 80286. RETF and IRET to an outer level take SS:SP from the stack and
close the data segments of the level left; IRET at level 0 enters V86 mode with nine items; a call gate and an interrupt, trap or
exception through a gate to an inner level, also from V86 mode, take SS:SP from the TSS and push the old stack pointer,
for a call the parameters, for V86 mode the data segment registers; far JMP and CALL to a TSS or task gate, interrupts
through a task gate, and IRET with NT set switch tasks, between TSSs of either format, with or without an LDT, to a task
in protected or V86 mode, where the error word is pushed. Nothing that was prefetched remains. The model's own choices
here: NT, and the size of the back link (log 83); FS and GS of an 80286 TSS (log 82); limits held in 16 bits (log 96);
the upper half of ESP, loaded or pushed (log 97); the level of the stack accesses (log 102); where the busy mark is
written, where the inner stack is read (log 84); data segments left from real mode (log 8); the null selector in a data
segment (log 89); the room is checked first (log 39); the RPL shown in CS and the accessed bits (log 88); gates met in
V86 mode (log 36); upper halves of selector slots (log 59); RF in the image (log 42); the end of the blocking of NMI
(log 91); the end of the shadow (log 48). -/
def Obligations.LevelChangesAndTaskSwitches : Prop :=
  (∀ (s : State) (i : Instr) (n : Word) (sel : Word) (d ds : Descriptor) (a as : Nat), s.lockOk false = true →
    s.prot = true → s.level ≠ 0 → s.returnForm i n → (s.memVal s.opWidth .ss (s.up s.opWidth 1)).setWidth 16 = sel →
    let w := s.opWidth
    let dist := returnItems i * (w / 8) + n.toNat
    let off1 := s.stackOff (s.sp + BitVec.ofNat 32 dist)
    let off2 := s.stackOff (s.sp + BitVec.ofNat 32 (dist + w / 8))
    let v : Dword := (s.top w).setWidth 32
    let sp : Dword := (s.memVal w .ss off1).setWidth 32
    let ss : Word := (s.memVal w .ss off2).setWidth 16
    selNull sel = false → s.cpl < selRpl sel → s.names sel d a → dIsCode d = true →
    (if dConforming d then dDpl d ≤ selRpl sel else dDpl d = selRpl sel) → dPresent d = true →
    v.toNat ≤ (dLimit s.level d).toNat → s.reaches .ss .read off1 (w / 8) (w / 8) = true →
    s.reaches .ss .read off2 (w / 8) (w / 8) = true → s.findsStack (selRpl sel) ss ds as →
    ∃ t, exec i s = .next t ∧ ((s.unblocked i).withSegsOf t).agrees t ∧ s.arrivedAt t sel d v ∧
      t.ss.shows s.level ss ds ∧ s.pushedAndMarked s t w 0 [a, as] ∧ t.flags = s.returnedFlags i ∧
      t.regs = (let u : State := { s with ss := t.ss }; (u.setSp (u.stackOff (sp + n.setWidth 32))).regs) ∧
      s.ds.leftOuter t.ds (selRpl sel) ∧ s.es.leftOuter t.es (selRpl sel) ∧ s.fs.leftOuter t.fs (selRpl sel) ∧
      s.gs.leftOuter t.gs (selRpl sel)) ∧
  (∀ s : State, s.lockOk false = true → s.prot = true → s.cpl = 0 → s.flags.nt = false → s.op32 = true → s.holds 32 9 →
    let item (i : Nat) : Dword := s.memVal 32 .ss (s.up 32 i)
    (item 2).getLsbD 17 = true →
    let held (g : SegReg) (i : Nat) : Prop :=
      g.sel = (item i).setWidth 16 ∧ g.valid = true ∧ g.base.toNat = 16 * g.sel.toNat ∧ g.limit = 0xFFFF
    ∃ t, exec .iret s = .next t ∧ ({ s.withSegsOf t with nmiBlocked := false } : State).agrees t ∧ t.eip = item 0 ∧
      t.cur = .start ∧ t.shadow = .none ∧ t.mem = s.mem ∧ t.regs = { s.regs with esp := item 3 } ∧
      held t.cs 1 ∧ held t.ss 4 ∧ held t.es 5 ∧ held t.ds 6 ∧ held t.fs 7 ∧ held t.gs 8 ∧
      ∀ k, k ∈ [0, 2, 4, 6, 7, 8, 9, 10, 11, 12, 13, 14, 16, 17] ∨ k = 18 ∧ s.level = 4 →
        t.flags.bit s.level k = (item 2).getLsbD k) ∧
  (∀ (s c : State) (out : Host.Outcome State Fault Refusal) (soft : Bool) (n : Byte) (err : Option Word) (ret : Dword)
      (rf : Bool) (gate d ds : Descriptor) (a as : Nat) (ss : Word) (sp : Dword),
    s.raises out soft n err ret rf c → s.real = false → 2 ≤ s.level →
    s.idtGives n gate → s.entryGate soft gate → selNull (gateSel gate) = false → s.names (gateSel gate) d a →
    dIsCode d = true → dConforming d = false → dDpl d < s.cpl → dPresent d = true →
    (s.v86 = true → dDpl d = 0 ∧ 8 ≤ dType gate ∧ s.tr.is386 = true) → s.innerStackIs (dDpl d) ss sp →
    s.findsStack (dDpl d) ss ds as → (gateOffset gate).toNat ≤ (dLimit s.level d).toNat →
    let w := if 8 ≤ dType gate then 32 else 16
    let u := s.atInner (dDpl d) ss sp ds
    let o := if s.v86 then 4 else 0
    let k := o + 5 + if err.isSome then 1 else 0
    let closed (g h : SegReg) : Prop := if s.v86 then h.sel = 0 ∧ h.valid = false else h = g
    u.roomApart w k [a, as] →
    ∃ t, out = .next t ∧ ({ c.withSegsOf t with run := .running } : State).agrees t ∧ t.run = .running ∧
      s.arrivedAt t (selWithRpl (gateSel gate) (dDpl d)) d (gateOffset gate) ∧ t.ss.shows s.level ss ds ∧
      closed s.ds t.ds ∧ closed s.es t.es ∧ closed s.fs t.fs ∧ closed s.gs t.gs ∧ t.flags = s.flags.gated gate ∧
      t.regs = (u.setSp (u.down w k)).regs ∧ s.pushedAndMarked u t w k [a, as] ∧
      (s.v86 = true → (u.pushedAt t w 1).setWidth 16 = s.gs.sel ∧ (u.pushedAt t w 2).setWidth 16 = s.fs.sel ∧
        (u.pushedAt t w 3).setWidth 16 = s.ds.sel ∧ (u.pushedAt t w 4).setWidth 16 = s.es.sel) ∧
      (u.pushedAt t w (o + 1)).setWidth 16 = s.ss.sel ∧ u.pushedAt t w (o + 2) = s.regs.esp.setWidth w ∧
      ({ s.flags with rf := rf } : Flags).seenIn s.level (u.pushedAt t w (o + 3)) ∧
      (u.pushedAt t w (o + 4)).setWidth 16 = s.cs.sel ∧ u.pushedAt t w (o + 5) = ret.setWidth w ∧
      ∀ e, err = some e → u.pushedAt t w (o + 6) = e.setWidth w) ∧
  (∀ (s : State) (i : Instr) (sel : Word) (off : Dword) (gate d ds : Descriptor) (a0 a as : Nat) (ss : Word) (sp : Dword),
    s.lockOk false = true → s.prot = true → s.level ≠ 0 → s.farForm i true sel off → selNull sel = false →
    s.finds sel gate a0 → dIsSystem gate = true → dType gate = 4 ∨ 3 ≤ s.level ∧ dType gate = 12 →
    max s.cpl (selRpl sel) ≤ dDpl gate → dPresent gate = true → selNull (gateSel gate) = false →
    s.names (gateSel gate) d a → dIsCode d = true → dConforming d = false → dDpl d < s.cpl → dPresent d = true →
    s.innerStackIs (dDpl d) ss sp → s.findsStack (dDpl d) ss ds as →
    (gateOffset gate).toNat ≤ (dLimit s.level d).toNat →
    let w := if dType gate = 12 then 32 else 16
    let u := s.atInner (dDpl d) ss sp ds
    let n := gateCount gate
    u.roomApart w (4 + n) [a, as] →
    (∀ j, j < n → s.reaches .ss .read (s.up w j) (w / 8) (w / 8) = true ∧ ∀ k, k < w / 8 →
      u.offStack w 2 (s.placeAt .ss (s.up w j) k) ∧ s.placeAt .ss (s.up w j) k ≠ s.tablePlace (as + 5) 0) →
    ∃ t, exec i s = .next t ∧ (s.withSegsOf t).agrees t ∧
      s.arrivedAt t (selWithRpl (gateSel gate) (dDpl d)) d (gateOffset gate) ∧ t.ss.shows s.level ss ds ∧
      t.ds = s.ds ∧ t.es = s.es ∧ t.fs = s.fs ∧ t.gs = s.gs ∧ t.flags = s.flags.kept ∧
      t.regs = (u.setSp (u.down w (4 + n))).regs ∧ s.pushedAndMarked u t w (4 + n) [a, as] ∧
      (u.pushedAt t w 1).setWidth 16 = s.ss.sel ∧ u.pushedAt t w 2 = s.regs.esp.setWidth w ∧
      (∀ j, j < n → u.pushedAt t w (2 + n - j) = s.memVal w .ss (s.up w j)) ∧
      (u.pushedAt t w (3 + n)).setWidth 16 = s.cs.sel ∧ u.pushedAt t w (4 + n) = s.nextIp.setWidth w) ∧
  (∀ (kind : SwitchKind) (sel : Word) (err : Option Word) (s t : State), taskSwitch kind sel err s = .ok ((), t) →
    selNull sel = false ∧ selLocal sel = false ∧ t.tr.sel = sel ∧ t.cr0 = { s.cr0 with ts := true } ∧
      t.dr7 = s.dr7 &&& ~~~(0x155 : Dword) ∧ (kind = .jump → t.flags.nt = false) ∧ (kind = .nest → t.flags.nt = true) ∧
      t.gdtr = s.gdtr ∧ t.idtr = s.idtr ∧ t.cr2 = s.cr2 ∧ t.dr6 = s.dr6 ∧ t.fpu = s.fpu ∧ t.stale = []) ∧
  (∀ (s : State) (sel : Word), s.prot = true → s.level ≠ 0 → s.lockOk false = true →
    (∀ i call named off d a, s.farForm i call named off → selNull named = false → s.finds named d a → dIsSystem d = true →
      max s.cpl (selRpl named) ≤ dDpl d →
      (dType d ∈ [1, 9] ∧ named = sel) ∨ (dType d = 5 ∧ dPresent d = true ∧ gateSel d = sel) →
      s.switches s (exec i s) (if call then .nest else .jump) sel s.nextIp none) ∧
    (s.flags.nt = true → s.tableOk .read s.tr.base.toNat 2 = true → s.tableVal 16 s.tr.base.toNat = sel →
      s.switches { s with nmiBlocked := false } (exec .iret s) .iret sel s.nextIp none)) ∧
  (∀ (s c : State) (out : Host.Outcome State Fault Refusal) (soft : Bool) (n : Byte) (err : Option Word) (ret : Dword)
      (rf : Bool) (gate : Descriptor), s.raises out soft n err ret rf c → s.real = false → s.level ≠ 0 → s.idtGives n gate →
    dIsSystem gate = true → dType gate = 5 → dPresent gate = true → (soft = true → s.cpl ≤ dDpl gate) →
    s.switches { c with run := .running } out .nest (gateSel gate) ret err)

/-- AAA, AAS, DAA, DAS, AAD and AAM: the corrected digits and the flags they define. A second byte of AAD and AAM other
than 10 acts as the base (the model's choice: 93 V4), and AAM with base 0 raises INT 0. The model's own choices here:
every input, and the base of AAD and AAM (log 67). -/
def Obligations.DecimalAdjustments : Prop :=
  ∀ s : State, s.lockOk false = true →
    let al := s.reg8 .al
    let ah := s.reg8 .ah
    let low := s.flags.af = true ∨ 9 < al.toNat % 16
    (low → ∃ t, exec .aaa s = .next t ∧ s.ran t ∧ t.mem = s.mem ∧ s.flags.sixFrom t.flags ∧ t.flags.af = true ∧
      t.flags.cf = true ∧ t.regs = ((s.setReg8 .ah (ah + 1)).setReg8 .al (BitVec.ofNat 8 ((al.toNat + 6) % 16))).regs) ∧
    (low → ∃ t, exec .aas s = .next t ∧ s.ran t ∧ t.mem = s.mem ∧ s.flags.sixFrom t.flags ∧ t.flags.af = true ∧
      t.flags.cf = true ∧ t.regs = ((s.setReg8 .ah (ah - 1)).setReg8 .al (BitVec.ofNat 8 ((al.toNat + 10) % 16))).regs) ∧
    (∀ i, i = .aaa ∨ i = .aas → ¬low → ∃ t, exec i s = .next t ∧ s.ran t ∧ t.mem = s.mem ∧
      s.flags.sixFrom t.flags ∧ t.flags.af = false ∧ t.flags.cf = false ∧ t.regs = s.regs) ∧
    (let t1 := al.toNat + (if low then 6 else 0);
      let high := 0x9F < t1 ∨ s.flags.cf = true
      let r : Byte := BitVec.ofNat 8 (t1 + (if high then 0x60 else 0))
      ∃ t, exec .daa s = .next t ∧ s.ran t ∧ t.mem = s.mem ∧ s.flags.sixFrom t.flags ∧ t.flags.af = decide low ∧
        t.flags.cf = decide high ∧ t.flags.tells r ∧ t.regs = (s.setReg8 .al r).regs) ∧
    (let t1 : Byte := if low then al - 6 else al;
      let high := 0x9F < t1.toNat ∨ s.flags.cf = true
      let r : Byte := if high then t1 - 0x60 else t1
      ∃ t, exec .das s = .next t ∧ s.ran t ∧ t.mem = s.mem ∧ s.flags.sixFrom t.flags ∧ t.flags.af = decide low ∧
        t.flags.cf = decide high ∧ t.flags.tells r ∧ t.regs = (s.setReg8 .al r).regs) ∧
    (∀ base : Byte,
      (let r : Byte := BitVec.ofNat 8 (ah.toNat * base.toNat + al.toNat);
        ∃ t, exec (.aad base) s = .next t ∧ s.ran t ∧ t.mem = s.mem ∧ s.flags.sixFrom t.flags ∧ t.flags.tells r ∧
          t.regs = ((s.setReg8 .al r).setReg8 .ah 0).regs) ∧
      (base ≠ 0 → ∃ t, exec (.aam base) s = .next t ∧ s.ran t ∧ t.mem = s.mem ∧ s.flags.sixFrom t.flags ∧
        t.flags.tells (BitVec.ofNat 8 (al.toNat % base.toNat)) ∧
        t.regs = ((s.setReg8 .ah (BitVec.ofNat 8 (al.toNat / base.toNat))).setReg8 .al
          (BitVec.ofNat 8 (al.toNat % base.toNat))).regs) ∧
      (base = 0 → exec (.aam base) s = s.faults 0 none))

/-! ## System registers -/

/-- SGDT and SIDT store the limit and the base of the table (the sixth byte is open on the 80286); LGDT and LIDT, at CPL
0, load them, the base with 24 bits when the operand size is 16. The model's own choices here: the sixth byte (log 60).
-/
def Obligations.TableRegisters : Prop :=
  ∀ (m : Mem) (s : State), s.lockOk false = true →
    let g := s.memSeg m
    let off := s.memOff m
    (∀ i r, (i = .sgdtM m ∧ r = s.gdtr) ∨ (i = .sidtM m ∧ r = s.idtr) → s.reaches g .write off 6 4 = true →
      ∃ t, ∃ v : BitVec 48, exec i s = .next t ∧ s.ran t ∧ t.regs = s.regs ∧ t.flags = s.flags.kept ∧
        s.stores t g off v ∧ v.extractLsb' 0 16 = r.limit ∧ v.extractLsb' 16 24 = r.base.extractLsb' 0 24 ∧
        (s.level ≠ 2 → v.extractLsb' 16 32 = r.base)) ∧
    (s.cpl = 0 → s.reaches g .read off 6 4 = true →
      let v : BitVec 48 := s.memVal 48 g off
      let r : TableReg :=
        { limit := v.extractLsb' 0 16
          base := if s.op32 then v.extractLsb' 16 32 else (v.extractLsb' 16 24).setWidth 32 }
      (∃ t, exec (.lgdtM m) s = .next t ∧ ({ s with gdtr := r } : State).ran t ∧ t.regs = s.regs ∧ t.mem = s.mem ∧
        t.flags = s.flags.kept) ∧
      (∃ t, exec (.lidtM m) s = .next t ∧ ({ s with idtr := r } : State).ran t ∧ t.regs = s.regs ∧ t.mem = s.mem ∧
        t.flags = s.flags.kept))

/-- SLDT and STR store a selector and SMSW the machine status word, 16 bits; LMSW, at CPL 0, loads MP, EM and TS and can
set PE but not clear it; CLTS, at CPL 0, clears TS. The model's own choices here: 16 bits of a register are written (log
59); the bits LMSW loads (log 56). -/
def Obligations.StatusRegisters : Prop :=
  ∀ (d : Rmv) (s : State), s.lockOk false = true →
    (∀ i sel, (i = .sldtRm16 d ∧ sel = s.ldtr.sel) ∨ (i = .strRm16 d ∧ sel = s.tr.sel) → s.prot = true →
      s.readyv .write 16 d = true →
      ∃ t, exec i s = .next t ∧ s.ran t ∧ t.flags = s.flags.kept ∧ s.wrotev t d sel) ∧
    (s.readyv .write 16 d = true →
      ∃ t, ∃ v : Word, exec (.smswRm16 d) s = .next t ∧ s.ran t ∧ t.flags = s.flags.kept ∧ s.wrotev t d v ∧
        ∀ k, k < 16 → v.getLsbD k = s.cr0.bit s.level k) ∧
    (s.cpl = 0 → s.readyv .read 16 d = true →
      let v := s.valv 16 d
      ∃ t, exec (.lmswRm16 d) s = .next t ∧ t.regs = s.regs ∧ t.mem = s.mem ∧ t.flags = s.flags.kept ∧
        ({ s with cr0 := { s.cr0 with
            pe := s.cr0.pe || v.getLsbD 0, mp := v.getLsbD 1, em := v.getLsbD 2, ts := v.getLsbD 3 } } : State).ran t) ∧
    (s.cpl = 0 →
      ∃ t, exec .clts s = .next t ∧ t.regs = s.regs ∧ t.mem = s.mem ∧ t.flags = s.flags.kept ∧
        ({ s with cr0 := { s.cr0 with ts := false } } : State).ran t)

/-- LLDT and LTR at CPL 0 in protected mode: the register takes selector, base and limit of an LDT descriptor, of the
TSS descriptor of an inactive task, which becomes busy; a null selector makes the LDT unusable. A selector of the wrong
table or type raises INT 13, a descriptor not present INT 11, with the selector. The model's own choices here: a null
selector (log 89); where the busy mark is written (log 84); the limit held in 16 bits (log 96). -/
def Obligations.TaskAndLdtLoads : Prop :=
  ∀ (m : Rmv) (s : State), s.lockOk false = true → s.prot = true → s.cpl = 0 → s.readyv .read 16 m = true →
    let sel := s.valv 16 m
    let err := some (sel &&& 0xFFFC)
    (selNull sel = true → ∃ t, exec (.lldtRm16 m) s = .next t ∧ t.regs = s.regs ∧ t.mem = s.mem ∧
      t.flags = s.flags.kept ∧ ({ s with ldtr := { s.ldtr with sel := sel, valid := false } } : State).ran t) ∧
    (selNull sel = true → exec (.ltrRm16 m) s = s.faults 13 err) ∧
    (∀ i, i = .lldtRm16 m ∨ i = .ltrRm16 m → selNull sel = false → selLocal sel = true ∨ s.descAddr sel = none →
      exec i s = s.faults 13 err) ∧
    (∀ d a, selNull sel = false → selLocal sel = false → s.finds sel d a →
      let isLdt := dIsSystem d = true ∧ dType d = 2
      (isLdt → dPresent d = true → ∃ t, exec (.lldtRm16 m) s = .next t ∧ t.regs = s.regs ∧ t.mem = s.mem ∧
        t.flags = s.flags.kept ∧
        ({ s with ldtr :=
          { sel := sel, valid := true, base := dBase s.level d, limit := dLimitWord s.level d } } : State).ran t) ∧
      (¬isLdt → exec (.lldtRm16 m) s = s.faults 13 err) ∧
      (isLdt → dPresent d = false → exec (.lldtRm16 m) s = s.faults 11 err) ∧
      (let isTss := dIsSystem d = true ∧ (dType d = 1 ∨ (3 ≤ s.level ∧ dType d = 9));
        (isTss → dPresent d = true → s.tableOk .write (a + 5) 1 = true →
          ∃ t, exec (.ltrRm16 m) s = .next t ∧ t.regs = s.regs ∧ t.flags = s.flags.kept ∧
            ({ s with tr :=
              { sel := sel, base := dBase s.level d, limit := dLimitWord s.level d
                is386 := decide (dType d = 9) } } : State).ran t ∧
            (∀ x, x ≠ s.tablePlace (a + 5) 0 → Memory.read t.mem x = Memory.read s.mem x) ∧
            Memory.read t.mem (s.tablePlace (a + 5) 0) = dAccess d ||| 2) ∧
        (¬isTss → exec (.ltrRm16 m) s = s.faults 13 err) ∧
        (isTss → dPresent d = false → exec (.ltrRm16 m) s = s.faults 11 err)))

/-- VERR, VERW, LAR, LSL in protected mode tell by ZF whether a selector can be used, LAR and LSL also load the access
rights or the limit then; a segment descriptor they examine is marked accessed; ARPL raises the RPL of a selector to
that of the source and tells by ZF whether it did. The model's own choices here: the types known, the accessed bit where
the test fails, and the bits 19 to 16 that are open (log 61); no write where the accessed bit is 1 already (log 88);
ARPL with ZF = 0 writes a memory operand back (log 65). -/
def Obligations.SelectorChecks : Prop :=
  (∀ (m : Rmv) (r : Reg) (s : State) (i : Instr) (sel : Word), s.lockOk false = true → s.prot = true →
    let w := s.opWidth
    (i = .verrRm16 m ∨ i = .verwRm16 m) ∧ s.readyv .read 16 m = true ∧ sel = s.valv 16 m ∨
      (i = .larRvRmv r m ∨ i = .lslRvRmv r m) ∧ s.readyv .read w m = true ∧ sel = (s.valv w m).setWidth 16 →
    (selNull sel = true ∨ s.descAddr sel = none → ∃ t, exec i s = .next t ∧ s.ran t ∧ t.regs = s.regs ∧
      t.mem = s.mem ∧ t.flags = { s.flags.kept with zf := false }) ∧
    (∀ d a, selNull sel = false → s.finds sel d a → dIsSystem d = true ∨ s.tableOk .write (a + 5) 1 = true →
      let visible := dConforming d = true ∨ max s.cpl (selRpl sel) ≤ dDpl d
      let hasRights := dIsSystem d = false ∨ dType d ∈ [1, 2, 3, 4, 5, 6, 7] ∨
        (3 ≤ s.level ∧ dType d ∈ [9, 11, 12, 14, 15])
      let hasLimit := dIsSystem d = false ∨ dType d ∈ [1, 2, 3] ∨ (3 ≤ s.level ∧ dType d ∈ [9, 11])
      let answers (t : State) (z : Bool) : Prop := exec i s = .next t ∧ s.ran t ∧
        t.flags = { s.flags.kept with zf := z } ∧ if dIsSystem d then t.mem = s.mem else s.marked t a
      let tells (z : Bool) : Prop := ∃ t, answers t z ∧ t.regs = s.regs
      (i = .verrRm16 m → (visible ∧ dIsReadable d = true → tells true) ∧
        (¬(visible ∧ dIsReadable d = true) → tells false)) ∧
      (i = .verwRm16 m → (visible ∧ dIsWritableData d = true → tells true) ∧
        (¬(visible ∧ dIsWritableData d = true) → tells false)) ∧
      (i = .larRvRmv r m → (visible ∧ hasRights → ∃ t, ∃ v : BitVec w, answers t true ∧ t.regs = (s.setReg r v).regs ∧
          ∀ k, k < w → k < 16 ∨ 20 ≤ k →
            v.getLsbD k = ((decide (8 ≤ k ∧ k < 16) || decide (20 ≤ k ∧ k < 24)) && d.getLsbD (32 + k))) ∧
        (¬(visible ∧ hasRights) → tells false)) ∧
      (i = .lslRvRmv r m → (visible ∧ hasLimit → ∃ t, answers t true ∧
          t.regs = (s.setReg r ((dLimit s.level d).setWidth w)).regs) ∧
        (¬(visible ∧ hasLimit) → tells false)))) ∧
  (∀ (d : Rmv) (r : Reg) (s : State), s.lockOk false = true → s.prot = true → s.readyv .update 16 d = true →
    let a := s.valv 16 d
    let b := s.reg 16 r
    ∃ t, exec (.arplRm16R16 d r) s = .next t ∧ s.ran t ∧
      t.flags = { s.flags.kept with zf := decide (a.toNat % 4 < b.toNat % 4) } ∧
      s.wrotev t d (BitVec.ofNat 16 (a.toNat / 4 * 4 + max (a.toNat % 4) (b.toNat % 4))))

/-- MOV between a general register and a control, debug or test register, at CPL 0: reads give the register, writes
store it; a write of CR3 empties the TLB; one of CR0 that would set PG without PE or NW without CD raises INT 13; with
GD set and RF = 0 an access to a debug register raises INT 1 and sets BD, and with GD clear or RF = 1 it completes; a
number that names no register is an undefined opcode. TR6 and TR7 write and look up TLB entries; TR3 to TR5 are plain
registers, or with the internal cache modelled write, read and empty it; a test read shows in TR4 the LRU bits of the set
before or after it. The model's own choices here: with GD set and RF = 1 the access completes, as log 43 reads "all debug
exceptions ... are ignored" of spec/61_tasks_v86_debug.md R796 c (spec/10_state.md R32); unused bits of CR3 (log 26);
unused bits of DR6 and DR7 (log 27); unused bits of TR4 to TR7, the open details of the two tests, a TLB test with PG = 1
on the 80386 (log 28); the way of a test write with H = 0 (log 25); TR3 to TR5 without a cache, and with one their order,
and commands whatever CD and NW are (log 29); numbers of no register (log 58); refused values of CR0 (log 57); bits of
breakpoints not enabled (log 92). -/
def Obligations.SpecialRegisterMoves : Prop :=
  ∀ (r : Reg) (n : BitVec 3) (s : State), s.lockOk false = true → s.cpl = 0 → 3 ≤ s.level → s.cr0Ok = true →
    let v := s.regs.get r
    let reads (i : Instr) (p : Dword → Prop) : Prop :=
      ∃ t x, exec i s = .next t ∧ s.ran t ∧ t.mem = s.mem ∧ t.flags = s.flags.kept ∧
        t.regs = (s.setReg r x).regs ∧ p x
    let writes (i : Instr) (p : State → Prop) : Prop :=
      ∃ t, exec i s = .next t ∧ t.regs = s.regs ∧ t.mem = s.mem ∧ t.flags = s.flags.kept ∧ p t
    (n = 0 → reads (.movR32CRn r n) fun x => ∀ k, k < 32 → x.getLsbD k = s.cr0.bit s.level k) ∧
    (n = 2 → reads (.movR32CRn r n) fun x => x = s.cr2) ∧
    (n = 3 → reads (.movR32CRn r n) fun x => x = s.cr3) ∧
    (n = 0 → (v.getLsbD 31 = true → v.getLsbD 0 = true) → (s.level = 4 → v.getLsbD 29 = true → v.getLsbD 30 = true) →
      writes (.movCRnR32 n r) fun t => ({ s with cr0 := t.cr0 } : State).ran t ∧
        ∀ k, k ∈ [0, 1, 2, 3, 31] ∨ (s.level = 3 ∧ k = 4) ∨ (s.level = 4 ∧ k ∈ [5, 16, 18, 29, 30]) →
          t.cr0.bit s.level k = v.getLsbD k) ∧
    (n = 0 → (v.getLsbD 31 = true ∧ v.getLsbD 0 = false) ∨
        (s.level = 4 ∧ v.getLsbD 29 = true ∧ v.getLsbD 30 = false) →
      exec (.movCRnR32 n r) s = s.faults 13 (some 0)) ∧
    (n = 2 → writes (.movCRnR32 n r) fun t => ({ s with cr2 := v } : State).ran t) ∧
    (n = 3 → writes (.movCRnR32 n r) fun t =>
      ({ s with tlb := t.tlb, cr3 := v &&& (if s.level = 4 then 0xFFFFF018 else 0xFFFFF000) } : State).ran t ∧
        ∀ (i : Fin 8) (k : Fin 4), t.tlb[i].ways[k].valid = false) ∧
    (s.dr7.getLsbD 13 = false ∨ s.flags.rf = true →
      (n = 0 → reads (.movR32DRn r n) fun x => x = s.dr0) ∧ (n = 1 → reads (.movR32DRn r n) fun x => x = s.dr1) ∧
      (n = 2 → reads (.movR32DRn r n) fun x => x = s.dr2) ∧ (n = 3 → reads (.movR32DRn r n) fun x => x = s.dr3) ∧
      (n = 6 → reads (.movR32DRn r n) fun x => x &&& dr6Mask = s.dr6 &&& dr6Mask) ∧
      (n = 7 → reads (.movR32DRn r n) fun x => x &&& dr7Mask = s.dr7 &&& dr7Mask) ∧
      (n = 0 → writes (.movDRnR32 n r) fun t => ({ s with dr0 := v } : State).ran t) ∧
      (n = 1 → writes (.movDRnR32 n r) fun t => ({ s with dr1 := v } : State).ran t) ∧
      (n = 2 → writes (.movDRnR32 n r) fun t => ({ s with dr2 := v } : State).ran t) ∧
      (n = 3 → writes (.movDRnR32 n r) fun t => ({ s with dr3 := v } : State).ran t) ∧
      (n = 6 → writes (.movDRnR32 n r) fun t => ({ s with dr6 := v &&& dr6Mask } : State).ran t) ∧
      (n = 7 → writes (.movDRnR32 n r) fun t => ({ s with dr7 := v &&& dr7Mask } : State).ran t)) ∧
    (s.dr7.getLsbD 13 = true → s.flags.rf = false → n ≠ 4 → n ≠ 5 →
      ∀ i, i = .movR32DRn r n ∨ i = .movDRnR32 n r →
        ∃ u : BitVec 4, exec i s = s.deliverExn s.nextIp { Exn.fault 1 none with
          dr6 := 0x2000 ||| (s.instrHits s.eip false &&& u).setWidth 32, oracle := s.oracle + 1 }) ∧
    (n = 6 → reads (.movR32TRn r n) fun x => x = s.tr6) ∧
    (n = 7 → reads (.movR32TRn r n) fun x => x = s.tr7) ∧
    (n = 7 → writes (.movTRnR32 n r) fun t =>
      ({ s with tr7 := v &&& (if s.level = 4 then 0xFFFFFF9C else 0xFFFFF01C) } : State).ran t) ∧
    (let lin := v.toNat / 4096 * 4096
      let j := tlbSetOf lin
      let old := s.tlb[j].ways
      let proper := v.getLsbD 10 ≠ v.getLsbD 9 ∧ v.getLsbD 8 ≠ v.getLsbD 7 ∧ v.getLsbD 6 ≠ v.getLsbD 5
      let written (e : TlbEntry) : Prop := e.valid = v.getLsbD 11 ∧ e.tag.toNat = lin / 2 ^ 15 ∧
        e.dirty = v.getLsbD 10 ∧ e.user = v.getLsbD 8 ∧ e.write = v.getLsbD 6 ∧ e.frame = s.tr7.extractLsb' 12 20 ∧
        (s.level = 4 → e.pcd = s.tr7.getLsbD 11 ∧ e.pwt = s.tr7.getLsbD 10)
      let wanted (x x' attr : Bool) : Prop := if attr then x = true else x' = true
      let found (k : Fin 4) : Prop := old[k].valid = v.getLsbD 11 ∧ old[k].tag.toNat = lin / 2 ^ 15 ∧
        wanted (v.getLsbD 10) (v.getLsbD 9) old[k].dirty ∧ wanted (v.getLsbD 8) (v.getLsbD 7) old[k].user ∧
        wanted (v.getLsbD 6) (v.getLsbD 5) old[k].write
      let same (k : Fin 4) : Prop := old[k].valid = true ∧ old[k].tag.toNat = lin / 2 ^ 15
      n = 6 → writes (.movTRnR32 n r) fun t =>
        ({ s with tr6 := v &&& 0xFFFFFFE1, tr7 := t.tr7, tlb := t.tlb } : State).ran t ∧
        (∀ j' : Fin 8, j' ≠ j → t.tlb[j'] = s.tlb[j']) ∧
        -- C = 0: the entry of TR6 and TR7 is written, with H = 1 to the way RP names
        (v.getLsbD 0 = false → t.tr7 = s.tr7 ∧ (s.level = 4 ∨ s.tr7.getLsbD 4 = true → proper →
          ∃ k : Fin 4, written t.tlb[j].ways[k] ∧ (∀ k' : Fin 4, k' ≠ k → t.tlb[j].ways[k'] = old[k']) ∧
            (s.tr7.getLsbD 4 = true → k.val = s.tr7.toNat / 4 % 4) ∧
            (s.tr7.getLsbD 4 = false → (∃ k' : Fin 4, old[k'].valid = false) → old[k].valid = false))) ∧
        -- C = 1: an entry found alone shows in TR7, else H = 0
        (v.getLsbD 0 = true → t.tlb[j].ways = old ∧
          (∀ k : Fin 4, found k → (∀ k', found k' → k' = k) → (∀ k' k'', same k' → same k'' → k' = k'') →
            t.tr7.getLsbD 4 = true ∧ t.tr7.toNat / 4 % 4 = k.val ∧ t.tr7.extractLsb' 12 20 = old[k].frame ∧
            (s.level = 4 → t.tr7.getLsbD 11 = old[k].pcd ∧ t.tr7.getLsbD 10 = old[k].pwt)) ∧
          ((∀ k, ¬found k) ∨ (∃ k k' : Fin 4, k ≠ k' ∧ same k ∧ same k') → t.tr7.getLsbD 4 = false))) ∧
    (s.level = 4 → s.cacheOn = false →
      (n = 3 → reads (.movR32TRn r n) fun x => x = s.tr3) ∧ (n = 4 → reads (.movR32TRn r n) fun x => x = s.tr4) ∧
      (n = 5 → reads (.movR32TRn r n) fun x => x = s.tr5) ∧
      (n = 3 → writes (.movTRnR32 n r) fun t => ({ s with tr3 := v } : State).ran t) ∧
      (n = 4 → writes (.movTRnR32 n r) fun t => ({ s with tr4 := v } : State).ran t) ∧
      (n = 5 → writes (.movTRnR32 n r) fun t => ({ s with tr5 := v } : State).ran t)) ∧
    (s.cacheOn = true →
      let quarter (x : BitVec 128) (i : Nat) : Dword := x.extractLsb' (32 * i) 32
      let now := s.tr5.toNat / 4 % 4
      let m := v.toNat / 16 % 128
      let k : Fin 4 := Fin.ofNat 4 (v.toNat / 4)
      let c := cacheGet s.cache m
      let line (t : State) (q : Fin 4) : CacheLine := (cacheGet t.cache m).ways[q]
      let others (t : State) : Prop := ∀ n, n ≠ m → cacheGet t.cache n = cacheGet s.cache n
      let u : State := { s with tr5 := v &&& 0x7FF }
      (n = 3 → reads (.movR32TRn r n) fun x => x = quarter s.cacheBuf now) ∧
      (n = 4 → reads (.movR32TRn r n) fun x => x = s.tr4) ∧ (n = 5 → reads (.movR32TRn r n) fun x => x = s.tr5) ∧
      (n = 3 → writes (.movTRnR32 n r) fun t => ({ s with cacheBuf := t.cacheBuf } : State).ran t ∧
        ∀ i, i < 4 → quarter t.cacheBuf i = if i = now then v else quarter s.cacheBuf i) ∧
      (n = 4 → writes (.movTRnR32 n r) fun t => ({ s with tr4 := v } : State).ran t) ∧
      -- the commands of TR5: choose a quarter, write a line, read a line, empty the cache
      (n = 5 → v.toNat % 4 = 0 → writes (.movTRnR32 n r) u.ran) ∧
      (n = 5 → v.toNat % 4 = 1 → writes (.movTRnR32 n r) fun t => ({ u with cache := t.cache } : State).ran t ∧
        others t ∧ (∀ q, q ≠ k → line t q = line s q) ∧ (line t k).valid = s.tr4.getLsbD 10 ∧
        (line t k).tag = s.tr4.extractLsb' 11 21 ∧ (line t k).data = s.cacheBuf) ∧
      (n = 5 → v.toNat % 4 = 2 → writes (.movTRnR32 n r) fun t =>
        ({ u with cache := t.cache, cacheBuf := t.cacheBuf, tr4 := t.tr4 } : State).ran t ∧ others t ∧
        (cacheGet t.cache m).ways = c.ways ∧ t.cacheBuf = (line s k).data ∧ t.tr4.extractLsb' 11 21 = (line s k).tag ∧
        t.tr4.getLsbD 10 = (line s k).valid ∧ (∀ q : Fin 4, t.tr4.getLsbD (3 + q.val) = (line s q).valid) ∧
        let after := (cacheGet t.cache m).lru
        (after = c.lru ∨ after = c.lru.touch k) ∧ ∃ l : Lru, (l = c.lru ∨ l = after) ∧
          t.tr4.getLsbD 9 = l.r2 ∧ t.tr4.getLsbD 8 = l.r1 ∧ t.tr4.getLsbD 7 = l.r0) ∧
      (n = 5 → v.toNat % 4 = 3 → writes (.movTRnR32 n r) fun t => ({ u with cache := t.cache } : State).ran t ∧
        ∀ n, (cacheGet t.cache n).lru = { r0 := false, r1 := false, r2 := false } ∧
          ∀ q : Fin 4, (cacheGet t.cache n).ways[q] = { (cacheGet s.cache n).ways[q] with valid := false })) ∧
    (s.level = 3 → n = 3 ∨ n = 4 ∨ n = 5 →
      exec (.movR32TRn r n) s = s.faults 6 none ∧ exec (.movTRnR32 n r) s = s.faults 6 none) ∧
    (n = 1 ∨ n = 4 ∨ n = 5 ∨ n = 6 ∨ n = 7 →
      exec (.movR32CRn r n) s = s.faults 6 none ∧ exec (.movCRnR32 n r) s = s.faults 6 none) ∧
    (n = 4 ∨ n = 5 → exec (.movR32DRn r n) s = s.faults 6 none ∧ exec (.movDRnR32 n r) s = s.faults 6 none) ∧
    (n = 0 ∨ n = 1 ∨ n = 2 → exec (.movR32TRn r n) s = s.faults 6 none ∧ exec (.movTRnR32 n r) s = s.faults 6 none)

/-- HLT, CLI, STI, INVD, WBINVD and INVLPG where they may run, and the prefixes: the processor halts; IF is cleared or
set, STI opening the shadow when IF was 0; every cache line, the TLB entry of the operand's page is invalidated; a
prefix is recorded for the instruction it belongs to. The model's own choices here: the shadow of STI (log 48); INVLPG
in real mode, and in every way that holds the page (log 78); WBINVD writes nothing back (log 30); a prefix is a step
(log 17). -/
def Obligations.ProcessorControl : Prop :=
  (∀ s : State, s.lockOk false = true →
    let quiet (t : State) : Prop := t.regs = s.regs ∧ t.mem = s.mem
    (s.cpl = 0 →
      (∃ t, exec .hlt s = .next t ∧ ({ s with run := .halted } : State).ran t ∧ quiet t ∧ t.flags = s.flags.kept) ∧
      (∀ i, i = .invd ∨ i = .wbinvd → ∃ t, exec i s = .next t ∧ ({ s with cache := t.cache } : State).ran t ∧
        quiet t ∧ t.flags = s.flags.kept ∧ ∀ p ∈ t.cache, ∀ k : Fin 4, p.2.ways[k].valid = false) ∧
      (s.v86 = false → ∀ m : Mem, ∃ t, exec (.invlpgM m) s = .next t ∧ ({ s with tlb := t.tlb } : State).ran t ∧
        quiet t ∧ t.flags = s.flags.kept ∧
        let lin := s.linear (s.memSeg m) (s.memOff m).toNat
        let i := tlbSetOf lin
        (∀ j : Fin 8, j ≠ i → t.tlb[j] = s.tlb[j]) ∧ t.tlb[i].lru = s.tlb[i].lru ∧
          ∀ k : Fin 4, let e := s.tlb[i].ways[k]
            t.tlb[i].ways[k] =
              if e.valid = true ∧ e.tag.toNat = lin / 2 ^ 15 % 2 ^ 17 then { e with valid := false } else e)) ∧
    (s.real = true ∨ s.cpl ≤ s.flags.iopl.toNat →
      (∃ t, exec .cli s = .next t ∧ s.ran t ∧ quiet t ∧ t.flags = { s.flags.kept with intf := false }) ∧
      (∃ t, exec .sti s = .next t ∧ s.agrees t ∧ quiet t ∧ t.flags = { s.flags.kept with intf := true } ∧
        t.eip = s.nextIp ∧ t.cur = .start ∧ t.shadow = if s.flags.intf then .none else .sti))) ∧
  (∀ (s : State) (i : Instr) (p : Prefixes),
    (i = .prefixEs ∧ p = { s.cur with seg := some .es }) ∨ (i = .prefixCs ∧ p = { s.cur with seg := some .cs }) ∨
      (i = .prefixSs ∧ p = { s.cur with seg := some .ss }) ∨ (i = .prefixDs ∧ p = { s.cur with seg := some .ds }) ∨
      (i = .prefixFs ∧ p = { s.cur with seg := some .fs }) ∨ (i = .prefixGs ∧ p = { s.cur with seg := some .gs }) ∨
      (i = .prefixOperandSize ∧ p = { s.cur with op := true }) ∨
      (i = .prefixAddressSize ∧ p = { s.cur with addr := true }) ∨
      (i = .prefixLock ∧ p = { s.cur with lock := true }) ∨
      (i = .prefixRep ∧ p = { s.cur with rep := some .rep }) ∨
      (i = .prefixRepne ∧ p = { s.cur with rep := some .repne }) →
    ∃ t, exec i s = .next t ∧ { t with cur := s.cur } = s ∧ { t.cur with last := s.cur.last } = p)

/-- ESC, WAIT and the coprocessor instructions the spec names. From the 80286 an ESC raises INT 7 with EM or TS set, INT
16 for a pending error if its opcode looks for one, and waits while the unit is busy; the 8086 does none of this. Then
FNINIT initialises the unit, FNSTSW and FNSTCW give its status and control word, FLDCW loads the control word, and any
other opcode has the effect of the uninterpreted numeric function on the unit and, in the memory forms, on the operand's
bytes: checked, read, written or both. An operand of the 80286 or 80386 that runs past its segment is not moved and
reported by INT 9 later. Without a unit an ESC does nothing; the 8086 reads the word at its operand. WAIT raises INT 7
with MP and TS set, INT 16 for a pending error, and waits while the unit is busy. The model's own choices here: the
uninterpreted numeric function and the check of the operand (log 14); FNINIT (log 11); bits of the control word that are
not described (log 99); that an ESC which waits ends its step at its own address, like WAIT, what happens without a unit,
and on the 8086 (log 79); FNSTSW AX without a unit (log 80); when INT 9 is due (log 81). -/
def Obligations.NumericInstructions : Prop :=
  ∀ (m : Mem) (s : State), s.lockOk false = true →
    let ready (code : BitVec 11) : Prop := s.level = 0 ∨
      (s.cr0.em = false ∧ s.cr0.ts = false ∧ (s.fpuErrorPending = true → Config.fpuNoWait code = true) ∧
        s.fpuBusy = false)
    let quiet (t : State) : Prop := t.mem = s.mem ∧ t.flags = s.flags.kept
    let g := s.memSeg m
    let off := s.memOff m
    let escMem (op reg : BitVec 3) : BitVec 11 := op ++ (0 : BitVec 2) ++ reg ++ (0 : BitVec 3)
    let form (i : Instr) (code : BitVec 11) : Prop :=
      (∃ op reg n, i = .esc op reg (.reg n) ∧ code = op ++ (3 : BitVec 2) ++ reg ++ n) ∨
        (∃ op reg, i = .esc op reg (.mem m) ∧ code = escMem op reg) ∨ i = .fninit ∧ code = 0x3E3 ∨
        i = .fnstswAx ∧ code = 0x7E0 ∨ i = .fnstswM16 m ∧ code = 0x538 ∨ i = .fnstcwM16 m ∧ code = 0x138 ∨
        i = .fldcwM16 m ∧ code = 0x128
    (∀ i code, form i code → s.level ≠ 0 →
      (s.cr0.em = true ∨ s.cr0.ts = true → exec i s = s.faults 7 none) ∧
      (s.cr0.em = false → s.cr0.ts = false → s.fpuErrorPending = true → Config.fpuNoWait code = false →
        exec i s = s.faults 16 none) ∧
      (s.cr0.em = false → s.cr0.ts = false → (s.fpuErrorPending = true → Config.fpuNoWait code = true) →
        s.fpuBusy = true → exec i s = .next { s with cur := .start })) ∧
    (s.cfg.hasFpu = true →
      (ready 0x3E3 → ∃ t, exec .fninit s = .next t ∧ quiet t ∧ t.regs = s.regs ∧
        ({ s with fpu := { s.fpu with control := 0x037F, status := 0, tags := 0xFFFF } } : State).ran t) ∧
      (ready 0x7E0 → ∃ t, exec .fnstswAx s = .next t ∧ quiet t ∧ s.ran t ∧ t.regs = (s.setReg .eax s.fpu.status).regs) ∧
      (s.reaches g .write off 2 2 = true →
        (ready 0x538 → ∃ t, exec (.fnstswM16 m) s = .next t ∧ s.ran t ∧ t.regs = s.regs ∧ t.flags = s.flags.kept ∧
          s.stores t g off s.fpu.status) ∧
        (ready 0x138 → ∃ t, exec (.fnstcwM16 m) s = .next t ∧ s.ran t ∧ t.regs = s.regs ∧ t.flags = s.flags.kept ∧
          s.stores t g off s.fpu.control)) ∧
      (s.reaches g .read off 2 2 = true → ready 0x128 →
        ∃ t, exec (.fldcwM16 m) s = .next t ∧ quiet t ∧ t.regs = s.regs ∧
          ({ s with fpu := t.fpu } : State).ran t ∧ t.fpu.control = s.memVal 16 g off ∧
          t.fpu.regs = s.fpu.regs ∧ t.fpu.tags = s.fpu.tags ∧
          ∀ k, k < 15 → k ≠ 7 → t.fpu.status.getLsbD k = s.fpu.status.getLsbD k) ∧
      (∀ op reg n, let code := op ++ (3 : BitVec 2) ++ reg ++ n
        ready code → ∃ t, exec (.esc op reg (.reg n)) s = .next t ∧ quiet t ∧ t.regs = s.regs ∧
          ({ s with fpu := (Config.fpuExec code s.fpu []).fpu.settle } : State).ran t) ∧
      (∀ op reg n, let code := escMem op reg
        ready code → 1 ≤ n → n ≤ 65536 →
        let moves (k : AccessKind) : Prop := s.reaches g k off n (fpuBoundary n) = true →
          let answer := Config.fpuExec code s.fpu (if k.reads then s.memBytes g off n else [])
          ∃ t, exec (.esc op reg (.mem m)) s = .next t ∧ ({ s with fpu := answer.fpu.settle } : State).ran t ∧
            t.regs = s.regs ∧ t.flags = s.flags.kept ∧
            if k.writes then s.sameMemBut t g off n ∧
              ∀ i, i < n → Memory.read t.mem (s.placeAt g off i) = answer.bytes.getD i 0
            else t.mem = s.mem
        let overruns (k : AccessKind) : Prop := s.level = 2 ∨ s.level = 3 →
          s.segOk g k off.toNat (min n 2) = true → (s.seg g).inLimit off.toNat n = false →
          ∃ t, exec (.esc op reg (.mem m)) s = .next t ∧ quiet t ∧ t.regs = s.regs ∧
            ({ s with fpu := (Config.fpuExec code s.fpu []).fpu.settle, int9Pending := true } : State).ran t
        (Config.fpuAccess (op ++ reg) = .check n → s.reaches g .read off n (fpuBoundary n) = true →
          ∃ t, exec (.esc op reg (.mem m)) s = .next t ∧ quiet t ∧ t.regs = s.regs ∧
            ({ s with fpu := (Config.fpuExec code s.fpu []).fpu.settle } : State).ran t) ∧
        (Config.fpuAccess (op ++ reg) = .read n → moves .read ∧ overruns .read) ∧
        (Config.fpuAccess (op ++ reg) = .write n → moves .write ∧ overruns .write) ∧
        (Config.fpuAccess (op ++ reg) = .update n → moves .update ∧ overruns .update))) ∧
    (s.cfg.hasFpu = false → ∀ i code, form i code → ready code → i ≠ .fnstswAx →
      (s.level = 0 → i ≠ .fninit → (∀ op reg n, i ≠ .esc op reg (.reg n)) → s.reaches g .read off 2 2 = true) →
      ∃ t, exec i s = .next t ∧ quiet t ∧ t.regs = s.regs ∧ s.ran t) ∧
    (s.cfg.hasFpu = false → ready 0x7E0 → ∃ t, ∃ v : Word, exec .fnstswAx s = .next t ∧ quiet t ∧ s.ran t ∧
      t.regs = (s.setReg .eax v).regs ∧ v.toNat % 256 ≠ 0) ∧
    (let early := s.level ≠ 0 ∧ s.cr0.mp = true ∧ s.cr0.ts = true
      let error := s.level ≠ 0 ∧ s.fpuErrorPending = true
      let busy := if s.level = 0 then s.pins.busy = true else s.cr0.mp = true ∧ s.fpuBusy = true
      (early → exec .wait s = s.faults 7 none) ∧ (¬early → error → exec .wait s = s.faults 16 none) ∧
      (¬early → ¬error → busy → exec .wait s = .next { s with cur := .start }) ∧
      (¬early → ¬error → ¬busy → ∃ t, exec .wait s = .next t ∧ quiet t ∧ t.regs = s.regs ∧ s.ran t))

/-! ## Protection -/

/-- The instructions that need CPL 0 raise INT 13 at another level; CLI and STI when CPL is above IOPL; PUSHF, POPF,
IRET and INT n in V86 mode with IOPL below 3; the protected-mode instructions are undefined opcodes in real and V86
mode, as MOV to CS is everywhere (the 8086, without INT 6, stops) and INVLPG in V86 mode. From the 80386 LOCK before an
instruction it may not precede is an undefined opcode; LOCK needs IOPL 3 in V86 mode, and CPL ≤ IOPL on the 80286 in
protected mode. The model's own choices here: the order of the checks (log 58); which instructions need IOPL 3 (log 71);
INVLPG in V86 mode (log 78); LOCK (log 73); MOV to CS on the 8086 (log 77). -/
def Obligations.Privileges : Prop :=
  (∀ (s : State) (i : Instr), s.cur.lock = true →
    (3 ≤ s.level → (s.v86 = true → s.flags.iopl = 3) → mayLock i = false → exec i s = s.faults 6 none) ∧
    (3 ≤ s.level → s.v86 = true → s.flags.iopl ≠ 3 → isPrefix i = false → exec i s = s.faults 13 (some 0)) ∧
    (s.level = 2 → s.real = false → s.flags.iopl.toNat < s.cpl → isPrefix i = false →
      exec i s = s.faults 13 (some 0))) ∧
  (∀ (s : State) (d : Rmv), s.lockOk false = true →
    (s.level ≠ 0 → exec (.movSregRm16 .cs d) s = s.faults 6 none) ∧
    (s.level = 0 → exec (.movSregRm16 .cs d) s = .fault .undefinedOpcode)) ∧
  ∀ (s : State) (m : Mem) (d : Rmv) (r : Reg) (n : BitVec 3) (b : Byte), s.lockOk false = true → s.level ≠ 0 →
    (s.cpl ≠ 0 → ∀ i, i = .lgdtM m ∨ i = .lidtM m ∨ i = .lmswRm16 d ∨ i = .clts ∨ i = .hlt ∨ i = .invd ∨ i = .wbinvd ∨
      (n ∈ [0, 2, 3] ∧ (i = .movR32CRn r n ∨ i = .movCRnR32 n r)) ∨
      (n ∈ [0, 1, 2, 3, 6, 7] ∧ (i = .movR32DRn r n ∨ i = .movDRnR32 n r)) ∨
      (n ∈ [6, 7] ∧ (i = .movR32TRn r n ∨ i = .movTRnR32 n r)) ∨
      (s.prot = true ∧ (i = .lldtRm16 d ∨ i = .ltrRm16 d ∨ i = .invlpgM m)) →
      exec i s = s.faults 13 (some 0)) ∧
    (s.real = false → s.flags.iopl.toNat < s.cpl → ∀ i, i = .cli ∨ i = .sti → exec i s = s.faults 13 (some 0)) ∧
    (s.v86 = true → s.flags.iopl ≠ 3 → ∀ i, i = .pushf ∨ i = .popf ∨ i = .iret ∨ i = .intImm8 b →
      exec i s = s.faults 13 (some 0)) ∧
    (s.prot = false → ∀ i, i = .sldtRm16 d ∨ i = .strRm16 d ∨ i = .lldtRm16 d ∨ i = .ltrRm16 d ∨ i = .verrRm16 d ∨
      i = .verwRm16 d ∨ i = .larRvRmv r d ∨ i = .lslRvRmv r d ∨ i = .arplRm16R16 d r ∨ (i = .invlpgM m ∧ s.v86 = true) →
      exec i s = s.faults 6 none)

/-- An access outside its segment, or against its rights, raises INT 13 (INT 12 past the limit of the stack segment, but
not on the 80286 in real mode), one not aligned where that is checked INT 17; nothing changes: of MOV on bytes, words
and doublewords, of the stack by PUSH, POP, near CALL and RET, of string elements. The second part of a far pointer or
of bounds past 2^32 lies outside every segment. The model's own choices here: the vector of the 80286 (log 51); the
address alignment is judged on (log 31); the second part of a pointer is not wrapped (log 32). -/
def Obligations.SegmentFaults : Prop :=
  (∀ (s : State) (i : Instr) (r : SReg) (k : AccessKind) (at_ : Dword) (n : Nat), s.lockOk false = true → s.level ≠ 0 →
    s.accessForm i r k at_ n →
    let g := s.seg r
    let off := at_.toNat
    let past := if g.expandDown then off ≤ g.limit.toNat ∨ (if g.big then 2 ^ 32 else 2 ^ 16) < off + n
      else g.limit.toNat < off + n - 1
    (g.valid = false ∨ g.allows k = false → exec i s = s.faults 13 (some 0)) ∧
    (g.valid = true → g.allows k = true → past →
      exec i s = s.faults (if r = .ss ∧ ¬(s.level = 2 ∧ s.real = true) then 12 else 13) (some 0)) ∧
    (g.valid = true → g.allows k = true → ¬past → s.level = 4 → s.cr0.am = true → s.flags.ac = true → s.cpl = 3 →
      s.linear r off % n ≠ 0 → exec i s = s.faults 17 (some 0))) ∧
  ∀ (s : State) (i : Instr) (m : Mem), s.lockOk false = true → 2 < s.level → pairForm i m →
    s.reaches (s.memSeg m) .read (s.memOff m) (s.opWidth / 8) (s.opWidth / 8) = true →
    2 ^ 32 ≤ (s.memOff m).toNat + s.opWidth / 8 →
    exec i s = s.faults (if s.memSeg m = .ss then 12 else 13) (some 0)

/-- Far JMP and CALL, RETF and IRET in protected mode that stay at their level, to a code segment or through a call
gate: CS shows the descriptor, with the CPL as RPL, IP the offset; the descriptor is marked accessed; CALL pushes CS and
the address after it. What refuses them, in order: a null selector raises INT 13, one outside its table, a data or
unknown descriptor, a segment, gate or TSS its privilege, direction or busy mark closes INT 13 with the selector, one
not present INT 11, a TSS too small INT 10, an offset past the limit INT 13, a full stack INT 12. The model's own
choices here: the RPL shown in CS and the accessed bit (log 88); the target is checked first (log 87); the room is
checked before the first push (log 39); the upper half of the CS slot (log 59); the end of the blocking of NMI (log 91).
-/
def Obligations.ProtectedTransfers : Prop :=
  ∀ (s : State) (sel : Word), s.lockOk false = true → s.prot = true →
    let w := s.opWidth
    let reachable (d : Descriptor) : Prop :=
      if dConforming d then dDpl d ≤ s.cpl else dDpl d = s.cpl ∧ selRpl sel ≤ s.cpl
    let room (call : Bool) (w a : Nat) : Prop := call = true → s.level ≠ 0 ∧ s.roomApart w 2 [a]
    let goes (i : Instr) (call : Bool) (w : Nat) (sel : Word) (d : Descriptor) (a : Nat) (v : Dword) : Prop :=
      ∃ t, exec i s = .next t ∧ (s.withCsOf t).agrees t ∧ s.arrivedAt t (selWithRpl sel s.cpl) d v ∧
        t.flags = s.flags.kept ∧ s.pushedAndMarked s t w (if call then 2 else 0) [a] ∧
        t.regs = (if call then (s.setSp (s.down w 2)).regs else s.regs) ∧
        (call = true → (s.pushedAt t w 1).setWidth 16 = s.cs.sel ∧ s.pushedAt t w 2 = s.nextIp.setWidth w)
    (∀ (off : Dword) (i : Instr) (call : Bool), s.farForm i call sel off →
      let v := targetOf s.op32 off
      let fault (n : Byte) (e : Word) : Prop := exec i s = s.faults n (some (e &&& 0xFFFC))
      (selNull sel = true → fault 13 0) ∧ (selNull sel = false → s.descAddr sel = none → fault 13 sel) ∧
      ∀ d a, selNull sel = false → s.finds sel d a →
        let passes := max s.cpl (selRpl sel) ≤ dDpl d
        let callGate := dIsSystem d = true ∧ (dType d = 4 ∨ 3 ≤ s.level ∧ dType d = 12)
        let taskGate := dIsSystem d = true ∧ dType d = 5
        let tss := dIsSystem d = true ∧ (dType d ∈ [1, 3] ∨ 3 ≤ s.level ∧ dType d ∈ [9, 11])
        (dIsCode d = false → ¬callGate → ¬taskGate → ¬tss → fault 13 sel) ∧
        (callGate ∨ taskGate ∨ tss → ¬passes → fault 13 sel) ∧
        (callGate ∨ taskGate → passes → dPresent d = false → fault 11 sel) ∧
        (tss → passes → selLocal sel = true ∨ dType d ∈ [3, 11] → fault 13 sel) ∧
        (tss → passes → selLocal sel = false → dType d ∈ [1, 9] →
          (dPresent d = false → fault 11 sel) ∧
          (dPresent d = true → (dLimit s.level d).toNat < (if dType d = 9 then 103 else 43) → fault 10 sel)) ∧
        (dIsCode d = true →
          (¬reachable d → fault 13 sel) ∧ (reachable d → dPresent d = false → fault 11 sel) ∧
          (reachable d → dPresent d = true → (dLimit s.level d).toNat < v.toNat → fault 13 0) ∧
          (reachable d → dPresent d = true → v.toNat ≤ (dLimit s.level d).toNat →
            (call = true → (∃ k, (k = 1 ∨ k = 2) ∧ s.ss.inLimit (s.down w k).toNat (w / 8) = false) → fault 12 0) ∧
            (s.names sel d a → room call w a → goes i call w sel d a v))) ∧
        (callGate → passes → dPresent d = true →
          let target := gateSel d
          let gw := if dType d = 12 then 32 else 16
          (selNull target = true → fault 13 0) ∧ (selNull target = false → s.descAddr target = none → fault 13 target) ∧
          ∀ e b, selNull target = false → s.finds target e b →
            let inside := dIsCode e = true ∧ dDpl e ≤ s.cpl
            (¬inside → fault 13 target) ∧ (inside → dPresent e = false → fault 11 target) ∧
            (inside → dPresent e = true → call = false → dConforming e = false → dDpl e < s.cpl → fault 13 target) ∧
            (inside → dPresent e = true → dConforming e = true ∨ dDpl e = s.cpl → s.names target e b → room call gw b →
              (gateOffset d).toNat ≤ (dLimit s.level e).toNat → goes i call gw target e b (gateOffset d)))) ∧
    (∀ (i : Instr) (n : Word), s.returnForm i n → (s.memVal w .ss (s.up w 1)).setWidth 16 = sel →
      let v : Dword := (s.top w).setWidth 32
      let fault (n : Byte) (e : Word) : Prop := exec i s = s.faults n (some (e &&& 0xFFFC))
      (selNull sel = true → fault 13 0) ∧ (selNull sel = false → selRpl sel < s.cpl → fault 13 sel) ∧
      (selNull sel = false → s.cpl ≤ selRpl sel → s.descAddr sel = none → fault 13 sel) ∧
      ∀ d a, selNull sel = false → s.cpl ≤ selRpl sel → s.finds sel d a →
        let fits := dIsCode d = true ∧ if dConforming d then dDpl d ≤ selRpl sel else dDpl d = selRpl sel
        (¬fits → fault 13 sel) ∧ (fits → dPresent d = false → fault 11 sel) ∧
        (fits → dPresent d = true → (dLimit s.level d).toNat < v.toNat → fault 13 0) ∧
        (fits → dPresent d = true → v.toNat ≤ (dLimit s.level d).toNat → selRpl sel = s.cpl → s.names sel d a →
          ∃ t, exec i s = .next t ∧ ((s.unblocked i).withCsOf t).agrees t ∧
            s.arrivedAt t (selWithRpl sel s.cpl) d v ∧ s.marked t a ∧ t.flags = s.returnedFlags i ∧
            t.regs = (s.setSp (s.stackOff (s.sp + (BitVec.ofNat 32 (returnItems i * (w / 8)) + n.setWidth 32)))).regs))

/-- INTERRUPTS AND EXCEPTIONS IN PROTECTED MODE that stay at their level, from INT 3, INT n and INTO, from outside, and
from a faulting or trapping instruction, through an interrupt or trap gate of the 80286 or 80386: the flags, CS, the
return address and the error word are pushed in the width of the gate; TF, NT, VM and RF are cleared, IF by an interrupt
gate; CS:EIP comes from the gate. A software interrupt whose gate is missing, of another kind or of a higher privilege
raises INT 13, one not present INT 11, naming the IDT entry. An exception whose gate is missing gives INT 8 when it is
one of INT 10 to 13, else INT 13; if that fails as well, INT 8, and if INT 8 fails the processor shuts down. The model's
own choices here: the order of the checks (log 38); the RPL shown in CS (log 88); the upper half of the CS slot (log
59); the room is checked first (log 39); which pairs give INT 8 (log 34); RF in the image (log 42); an interrupt from
outside (log 35); the end of the shadow (log 48). -/
def Obligations.GateEntry : Prop :=
  ∀ s : State, s.prot = true → 2 ≤ s.level →
    let bad (n : Byte) : Option Word := some (BitVec.ofNat 16 (n.toNat * 8 + 2))
    let outside (n : Byte) : Prop := s.idtr.limit.toNat < n.toNat * 8 + 7
    (∀ c out soft n err ret rf, s.raises out soft n err ret rf c → s.entersSame c out soft n err ret rf) ∧
    (∀ c out n err ret rf, s.raises out true n err ret rf c →
      (outside n → out = s.faults 13 (bad n)) ∧
      ∀ gate, s.idtGives n gate →
        let known := dIsSystem gate = true ∧ (dType gate ∈ [5, 6, 7] ∨ 3 ≤ s.level ∧ dType gate ∈ [14, 15])
        (¬known → out = s.faults 13 (bad n)) ∧ (known → dPresent gate = false → out = s.faults 11 (bad n)) ∧
        (known → dPresent gate = true → dDpl gate < s.cpl → out = s.faults 13 (bad n))) ∧
    (∀ (e : Exn) (next : Dword), e.newTask = none → outside e.vec →
      let out := s.deliverExn next e
      let ret := if e.cls = .trap then next else s.eip
      let double := (10 ≤ e.vec.toNat ∧ e.vec.toNat ≤ 13) ∨ outside 13
      (double → s.entersSame (s.noted e) out false 8 (some 0) ret s.flags.rf) ∧
      (double → outside 8 → (s.noted e).shutsDown out) ∧
      (¬double → s.entersSame (s.noted e) out false 13 (bad e.vec) ret true))

/-- Translation of an access that no TLB entry answers, with paging on and no cache: the directory entry and the table
entry give the frame when both are present and the lower of their two protections allows the access; their accessed
bits, and the dirty bit of the table entry for a write, are set in memory. Otherwise a page fault, with the linear
address for CR2 and an error word that says what was wrong. A TLB entry that allows the access, its page's tables being
what they were, gives the frame. THE INTERNAL CACHE: a read takes the byte of the line that holds it, or memory's,
filling a line where CD, KEN and PCD allow it, into a way that holds none or the pseudo-LRU one; a write goes to memory,
and to the line unless CD = NW = 1; the way used shows in the decision bits. The model's own choices here: the lower of
two protections (log 85); when an entry counts as that of its tables (log 24); the way of a line filled (log 25); the
decision bits after a write with CD = NW = 1 (log 101). -/
def Obligations.PageTranslation : Prop :=
  (∀ (s : State) (lin : Nat) (write user : Bool), s.cacheOn = false → lin < 2 ^ 32 →
    s.tlb[tlbSetOf lin].find s.wpOn lin write user = none →
    let place (a i : Nat) : Nat := s.physical (a + i)
    let entry (a : Nat) : Dword := leValue 32 ((List.range 4).map fun i => Memory.read s.mem (place a i))
    let da := s.cr3.toNat / 4096 * 4096 + lin / 2 ^ 22 * 4
    let pde := entry da
    let ta := pde.toNat / 4096 * 4096 + lin / 4096 % 1024 * 4
    let pte := entry ta
    (∀ i, i < 4 → s.cfg.regionKind (place da i) = .ram ∧ s.cfg.regionKind (place ta i) = .ram) →
    let faulty (present : Bool) : Prop :=
      translatePage lin write user s = .error (.exn
        { Exn.fault 14 (some (BitVec.ofNat 16 (present.toNat + 2 * write.toNat + 4 * user.toNat))) with
          cr2 := some (BitVec.ofNat 32 lin), oracle := s.oracle })
    let uw (e : Dword) : Nat := e.toNat / 2 % 4
    -- bit 1 of an entry is W, bit 2 is U: the number is U W
    let low := min (uw pde) (uw pte)
    let allowed := if user then 2 ≤ low ∧ (write = true → low % 2 = 1)
      else write = true → s.level = 4 → s.cr0.wp = true → low % 2 = 1
    (pde.getLsbD 0 = false ∨ pte.getLsbD 0 = false → faulty false) ∧
    (pde.getLsbD 0 = true → pte.getLsbD 0 = true → ¬allowed → faulty true) ∧
    (pde.getLsbD 0 = true → pte.getLsbD 0 = true → allowed →
      ∃ p t, translatePage lin write user s = .ok (p, t) ∧ p.addr = pte.toNat / 4096 * 4096 + lin % 4096 ∧
        { t with mem := s.mem, tlb := s.tlb, stale := s.stale, oracle := s.oracle } = s ∧
        (∀ x, x ≠ place da 0 → x ≠ place ta 0 → Memory.read t.mem x = Memory.read s.mem x) ∧
        (place da 0 ≠ place ta 0 →
          Memory.read t.mem (place da 0) = Memory.read s.mem (place da 0) ||| 0x20 ∧
          Memory.read t.mem (place ta 0) =
            Memory.read s.mem (place ta 0) ||| (if write then 0x60 else 0x20)))) ∧
  (∀ (s : State) (lin : Nat) (write user : Bool) (k : Fin 4),
    let j := tlbSetOf lin
    let e := s.tlb[j].ways[k]
    let page (e : TlbEntry) : Prop := e.valid = true ∧ e.tag = BitVec.ofNat 17 (lin / 2 ^ 15)
    page e → (∀ q : Fin 4, q ≠ k → ¬page s.tlb[j].ways[q]) → s.entryFresh lin e = true → (write = true → e.dirty = true) →
    (if user then e.user = true ∧ (write = true → e.write = true)
      else write = true → s.level = 4 → s.cr0.wp = true → e.write = true) →
    ∃ p t, translatePage lin write user s = .ok (p, t) ∧ p.addr = e.frame.toNat * 4096 + lin % 4096 ∧ p.pcd = e.pcd ∧
      { t with tlb := s.tlb } = s ∧ (∀ i : Fin 8, i ≠ j → t.tlb[i] = s.tlb[i]) ∧ t.tlb[j].ways = s.tlb[j].ways ∧
      (s.level = 4 → s.tlb[j].lru.usedFor t.tlb[j].lru k.val)) ∧
  ∀ (s : State) (pcd : Bool) (a : Nat) (v : Byte), s.cacheOn = true → s.memoryOk = true →
    let c := cacheGet s.cache (a / 16 % 128)
    let alone (k : Fin 4) : Prop := s.caches a k ∧ ∀ j, j ≠ k → ¬s.caches a j
    let line (t : State) (k : Fin 4) : CacheLine := (cacheGet t.cache (a / 16 % 128)).ways[k]
    let fills := s.cr0.cd = false ∧ s.pins.ken = true ∧ pcd = false
    (∀ k, alone k → ∃ t, readPhys pcd a s = .ok ((line s k).at (a % 16), t) ∧ { t with cache := s.cache } = s ∧
      s.usedWay t a k ∧ line t k = line s k) ∧
    ((∀ k, ¬s.caches a k) → fills → (∀ i, i < 16 → s.cfg.regionKind (a / 16 * 16 + i) ≠ .absent) →
      ∃ t k, readPhys pcd a s = .ok (Memory.read s.mem a, t) ∧ { t with cache := s.cache } = s ∧ s.usedWay t a k ∧
        t.caches a k ∧ (∀ i, i < 16 → (line t k).at i = Memory.read s.mem (a / 16 * 16 + i)) ∧
        if ∃ q : Fin 4, c.ways[q].valid = false then c.ways[k].valid = false
        else k.val = if c.lru.r0 then (if c.lru.r2 then 3 else 2) else if c.lru.r1 then 1 else 0) ∧
    ((∀ k, ¬s.caches a k) → ¬fills → s.cfg.regionKind a ≠ .absent → readPhys pcd a s = .ok (Memory.read s.mem a, s)) ∧
    (s.cfg.regionKind a = .ram → ∃ t, writePhys a v s = .ok ((), t) ∧
      { t with mem := s.mem, cache := s.cache, stale := s.stale } = s ∧ Memory.read t.mem a = v ∧
      (∀ x, x ≠ a → Memory.read t.mem x = Memory.read s.mem x) ∧
      ((∀ k, ¬s.caches a k) ∨ s.cr0.cd = true ∧ s.cr0.nw = true → t.cache = s.cache) ∧
      ∀ k, alone k → ¬(s.cr0.cd = true ∧ s.cr0.nw = true) → s.usedWay t a k ∧ t.caches a k ∧
        ∀ i, i < 16 → (line t k).at i = if i = a % 16 then v else (line s k).at i)

/-! ## The machine as a whole -/

/-- After reset: the registers the spec gives a value, for each processor. RESET, seen at a step whatever the machine
does, leaves that state, with memory, the ports and the other pins as they are. The model's own choices here: the
registers RESET leaves open are as after power-on (log 5); the system registers, LRU bits and invalid entries among them
(log 9); the numeric unit (log 10); RESET as a step (log 93); the other pins stay (log 12); empty memory (log 4); DS,
ES, SS, FS and GS of the members whose table does not list them (log 8); bit 1 of the flags as 1 on every member, by the
decision D4 of the spec, where R70 prints 0000h for the 8086 (log 94); only that EAX is not 0 after a failed test (log
7). -/
def Obligations.ResetValues : Prop :=
  ∀ c : Config,
    let s := State.powerOn c
    (∀ k, k < 32 → Flags.bit s.flags c.cpu.level k = decide (k = 1)) ∧ s.mem = [] ∧ s.cur = .start ∧ s.stale = [] ∧
    s.run = .running ∧ s.ds.sel = 0 ∧ s.es.sel = 0 ∧ s.ss.sel = 0 ∧ s.fs.sel = 0 ∧ s.gs.sel = 0 ∧
    s.ds.base = 0 ∧ s.es.base = 0 ∧ s.ss.base = 0 ∧ s.ds.limit = 0xFFFF ∧ s.es.limit = 0xFFFF ∧ s.ss.limit = 0xFFFF ∧
    (c.cpu = .i8086 ∨ c.cpu = .i8088 →
      s.eip = 0 ∧ s.cs.sel = 0xFFFF ∧ s.physical (s.linear .cs s.eip.toNat) = 0xFFFF0) ∧
    (c.cpu = .i80286 → s.eip = 0xFFF0 ∧ s.cs.sel = 0xF000 ∧ s.cs.base = 0xFF0000 ∧ s.cs.limit = 0xFFFF ∧
      s.idtr.base = 0 ∧ s.idtr.limit = 0xFFFF ∧ (∀ k, k < 16 → s.cr0.bit 2 k = decide (4 ≤ k)) ∧
      s.physical (s.linear .cs s.eip.toNat) = 0xFFFFF0) ∧
    (c.cpu = .i80386 ∨ c.cpu = .i80386sx ∨ c.cpu = .i80486 ∨ c.cpu = .i80486sx →
      s.eip = 0xFFF0 ∧ s.cs.sel = 0xF000 ∧ s.idtr.base = 0 ∧ s.idtr.limit = 0x3FF ∧ s.dr7 = 0 ∧
      s.linear .cs s.eip.toNat = 0xFFFFFFF0 ∧ (c.selftest = .passed → s.regs.eax = 0) ∧
      (c.selftest = .failed → s.regs.eax ≠ 0)) ∧
    (c.cpu = .i80386 ∨ c.cpu = .i80386sx →
      (∀ k, k < 32 → k ≠ 4 → s.cr0.bit 3 k = false) ∧ s.reg8 .dl = c.stepping ∧
      s.reg8 .dh = if c.cpu = .i80386 then 3 else 0x23) ∧
    (c.cpu = .i80486 → (∀ k, k < 32 → s.cr0.bit 4 k = decide (k = 4 ∨ k = 29 ∨ k = 30)) ∧
      s.reg8 .dh = 4 ∧ s.reg8 .dl = c.stepping ∧ s.cache = []) ∧
    (∀ (j : Fin 8) (k : Fin 4), s.tlb[j].ways[k].valid = false) ∧ s.nmiPending = false ∧ s.nmiBlocked = false ∧
    s.int9Pending = false ∧ s.trap = .clear ∧ s.shadow = .none ∧ s.repeating = none ∧ s.portIn = [] ∧ s.portOut = [] ∧
    ∀ u : State, u.pins.reset = true → u.cfg = c →
      ∃ t, step u = .next t ∧ t.mem = u.mem ∧ t.portIn = u.portIn ∧ t.portOut = u.portOut ∧
        t.pins = { u.pins with reset := false } ∧
        { t with mem := s.mem, portIn := s.portIn, portOut := s.portOut, pins := s.pins, oracle := s.oracle } = s

/-- The machine after reset has what every step keeps. The model's own choices here: the member State.reset describes
(log 1). -/
def Obligations.ResetHasInvariant : Prop := State.reset.inv = true ∧ State.reset.alive = true

/-- WHAT EVERY STEP KEEPS, from every state that has it: memory in its canonical form, a CR0 the processor allows, V86
only in protected mode, the bits of DR6 and DR7 that are no state at 0; and the parameters of the machine. The model's
own choices here: DR6 and DR7 without their unused bits (log 27); the canonical form (log 4). -/
def Obligations.StepKeepsInvariant : Prop :=
  ∀ s t : State, s.inv = true → step s = .next t → t.inv = true ∧ t.cfg = s.cfg

/-- A step at CPL above 0 (RESET apart) leaves the descriptor-table registers, the breakpoint addresses, the TLB test
registers and every bit of CR0 but TS alone: only a task switch touches more of the system registers, and RESET. The
model's own choices here: the level (log 49). -/
def Obligations.UserModeLimits : Prop :=
  ∀ s t : State, s.cpl ≠ 0 → s.pins.reset = false → step s = .next t →
    t.gdtr = s.gdtr ∧ t.idtr = s.idtr ∧ t.dr0 = s.dr0 ∧ t.dr1 = s.dr1 ∧ t.dr2 = s.dr2 ∧ t.dr3 = s.dr3 ∧
      t.tr6 = s.tr6 ∧ t.tr7 = s.tr7 ∧ t.cr0 = { s.cr0 with ts := t.cr0.ts }

/-- What happens at an instruction boundary, in the order of priority: the debug trap recorded (on the 8086 last), NMI
unless blocked, INT 9, INTR with IF set; a halted or shut-down processor stays so without one, and NMI wakes a shut-down
one. The trap is INT 1, with the causes in DR6 from the 80386. What is recorded: the single step after an instruction
that began with TF, but after no load of SS and no software interrupt, and the enabled breakpoints a data access meets.
An instruction breakpoint is INT 1 before the instruction. RF suppresses all of them. The model's own choices here: what
ends the halted and shut-down states, NMI while blocked included (log 46); acceptance clears the request (log 47); the
shadow (log 48); NMI (log 91); INT 9 (log 81); data breakpoints, and bits of those not enabled (log 92); the loads
without a single step (log 44); what RF suppresses (log 43); a trap in the halted state (log 45). -/
def Obligations.BoundaryEvents : Prop :=
  (∀ s : State, s.pins.reset = false → s.pins.flush = false → s.cur.len = 0 →
    let trap := s.trap.singleStep = true ∨ s.trap.taskSwitch = true ∨ s.trap.enabled ≠ 0
    let nmi := s.nmiPending = true ∧ s.nmiBlocked = false
    let intr := s.shadow ≠ .sti ∧ s.flags.intf = true ∧ s.pins.intr ≠ none
    let goesOn := s.run ≠ .shutdown ∧ s.shadow ≠ .ss
    let first := s.level ≠ 0
    (s.run = .shutdown → s.nmiPending = false → step s = .next s) ∧
    (s.run = .shutdown → s.nmiPending = true →
      step s = ({ s with nmiPending := false, nmiBlocked := decide (3 ≤ s.level) } : State).takeExternal 2) ∧
    (s.run = .halted → ¬trap → ¬nmi → s.int9Pending = false ∨ s.level = 0 → ¬intr → step s = .next s) ∧
    (goesOn → trap → first ∨ (¬nmi ∧ ¬intr) →
      ∃ o, ∃ u : BitVec 4, step s = ({ s with trap := .clear, oracle := o } : State).deliverExn s.resumeIp
        { Exn.fault 1 none with
          cls := .trap
          dr6 := if s.level < 3 then 0 else
            (if s.trap.singleStep then 0x4000 else 0) ||| (if s.trap.taskSwitch then 0x8000 else 0) |||
              (s.trap.enabled ||| (s.trap.disabled &&& u)).setWidth 32 }) ∧
    (goesOn → nmi → ¬(first ∧ trap) →
      step s = ({ s with nmiPending := false, nmiBlocked := decide (3 ≤ s.level) } : State).takeExternal 2) ∧
    (goesOn → first → ¬trap → ¬nmi → s.int9Pending = true →
      step s = ({ s with int9Pending := false } : State).deliverExn s.resumeIp { Exn.fault 9 none with cls := .abort }) ∧
    (∀ n, goesOn → ¬(first ∧ trap) → ¬nmi → s.int9Pending = false ∨ s.level = 0 → intr → s.pins.intr = some n →
      step s = ({ s with pins := { s.pins with intr := none } } : State).takeExternal n) ∧
    (s.run = .running → s.insteadOfInstr = none → s.repeating = none → s.flags.rf = false → s.instrHits s.eip true ≠ 0 →
      ∃ u : BitVec 4, step s = s.deliverExn s.nextIp { Exn.fault 1 none with
        dr6 := (s.instrHits s.eip true ||| (s.instrHits s.eip false &&& u)).setWidth 32, oracle := s.oracle + 1 })) ∧
  ∀ (s : State) (m : Mem) (r : Reg) (i : Instr), s.lockOk false = true → s.trap = .clear →
    (∀ t n, (i = .intImm8 n ∨ i = .int3 ∨ i = .into ∧ s.flags.ovf = true) → exec i s = .next t →
      t.trap.singleStep = false) ∧
    (s.flags.rf = true → instrBreak s = .ok ((), s) ∧ (∃ t, exec .nop s = .next t ∧ t.trap = .clear) ∧
      ∀ k, (i = .movRvRmv r (.mem m) ∧ k = .read) ∨ (i = .movRmvRv (.mem m) r ∧ k = .write) →
        s.readyv k s.opWidth (.mem m) = true → ∃ t, exec i s = .next t ∧ t.trap = .clear) ∧
    (s.flags.rf = false →
      (∃ t, exec .nop s = .next t ∧ t.trap.singleStep = s.flags.tf ∧ t.trap.enabled = 0) ∧
      (s.prot = false → ∃ t, exec (.movSregRm16 .ss (.reg r)) s = .next t ∧ t.trap = .clear ∧ t.shadow = .ss) ∧
      (∀ k, (i = .movRvRmv r (.mem m) ∧ k = .read) ∨ (i = .movRmvRv (.mem m) r ∧ k = .write) →
        s.readyv k s.opWidth (.mem m) = true →
        let lin := s.linear (s.memSeg m) (s.memOff m).toNat
        let meets (j : Nat) : Bool :=
          let rw := s.dr7.toNat / 2 ^ (16 + 4 * j) % 4
          let len := s.dr7.toNat / 2 ^ (18 + 4 * j) % 4 + 1
          let base := ([s.dr0, s.dr1, s.dr2, s.dr3].getD j 0).toNat / len * len
          decide (3 ≤ s.level) && (s.dr7.getLsbD (2 * j) || s.dr7.getLsbD (2 * j + 1)) && decide (len ≠ 3) &&
            (decide (rw = 3) || decide (rw = 1 ∧ k = .write)) && decide (lin < base + len) &&
            decide (base < lin + s.opWidth / 8)
        ∃ t, exec i s = .next t ∧ t.trap.singleStep = s.flags.tf ∧ ∀ j, j < 4 → t.trap.enabled.getLsbD j = meets j))

/-- A STEP RUNS THE DECODED INSTRUCTION: when nothing comes in between and the bytes at CS:IP decode to an instruction,
the step is that instruction's, run with its bytes counted as fetched (IP moves past them in `exec`: `State.nextIp`).
The model's own choices here: a prefix is a step of its own (log 17). -/
def Obligations.StepRunsDecoded : Prop :=
  ∀ (s : State) (bs : List Byte) (i : Instr), s.insteadOfInstr = none → s.repeating = none → s.flat = true →
    s.cr0.pg = false → s.stale = [] → (s.level < 3 ∨ s.cur.len ≠ 0 ∨ s.flags.rf = true ∨ s.dr7 &&& 0xFF = 0) →
    decode s.decodeCtx bs = .ok i [] → bs.length ≤ 15 →
    (∀ n, s.cfg.maxLength = some n → s.cur.len + bs.length ≤ n) →
    (∀ k, k < bs.length → s.fetchable k ∧
      bs[k]? = some (Memory.read s.mem (s.placeAt .cs
        ({ s with cur := { s.cur with len := s.cur.len + k } } : State).nextIp 0))) →
    step s = exec i { s with cur := { s.cur with len := s.cur.len + bs.length, code := s.cur.code ++ bs } }

/-- DECODING UNDOES ENCODING, for every instruction that has an encoding, with every operand at every value, whatever
bytes follow. -/
def Obligations.DecodeUndoesEncode : Prop :=
  ∀ (c : DecodeCtx) (i : Instr) (rest : List Byte), i.wf c = true → decode c (encode c i ++ rest) = .ok i rest

/-- Some words of spec/30_encoding.md and of the instruction rules decode to what the spec says. -/
def Obligations.DecodedWords : Prop :=
  let c : DecodeCtx := { cpu := .i80486, op32 := false, addr32 := false }
  decode c [0x04, 0x50] = .ok (.addAlImm8 0x50) [] ∧
    decode c [0x10, 0xC8] = .ok (.adcRm8R8 (.reg .al) .cl) [] ∧
    decode c [0xE9, 0xFD, 0xFF] = .ok (.jmpRelv 0xFFFD) [] ∧
    decode c [0xFF, 0xE3] = .ok (.jmpRmv (.reg .ebx)) [] ∧
    decode c [0xEA, 0x00, 0x00, 0xFF, 0xFF] = .ok (.jmpPtr16v 0 0xFFFF) [] ∧
    decode c [0x8D, 0x5A, 0x04] = .ok (.leaRvM .ebx (.based16 .bpsi (.d8 4))) [] ∧
    decode c [0xC5, 0x1E, 0x10, 0x00] = .ok (.ldsRvM16v .ebx (.direct16 0x10)) [] ∧
    decode c [0x6B, 0xD1, 0x0A] = .ok (.imulRvRmvImm8s .edx (.reg .ecx) 0x0A) [] ∧
    decode c [0x0F, 0xBA, 0xE0, 0x0C] = .ok (.btRmvImm8 (.reg .eax) 0x0C) [] ∧
    decode c [0x0F, 0x20, 0xC0] = .ok (.movR32CRn .eax 0) []
end

