-- ==== Sys2Proof/Laws/State.lean ====
section
/-! SUPPORT. What each update of the state does to each field: one lemma per field and update, true by rfl. -/
namespace Sys2Proof.Machine

variable (s t : State)

/-! ### setReg -/

@[simp] theorem setReg_cfg {w : Nat} (r : Reg) (v : BitVec w) : (s.setReg r v).cfg = s.cfg := rfl
@[simp] theorem setReg_eip {w : Nat} (r : Reg) (v : BitVec w) : (s.setReg r v).eip = s.eip := rfl
@[simp] theorem setReg_cs {w : Nat} (r : Reg) (v : BitVec w) : (s.setReg r v).cs = s.cs := rfl
@[simp] theorem setReg_ss {w : Nat} (r : Reg) (v : BitVec w) : (s.setReg r v).ss = s.ss := rfl
@[simp] theorem setReg_ds {w : Nat} (r : Reg) (v : BitVec w) : (s.setReg r v).ds = s.ds := rfl
@[simp] theorem setReg_es {w : Nat} (r : Reg) (v : BitVec w) : (s.setReg r v).es = s.es := rfl
@[simp] theorem setReg_fs {w : Nat} (r : Reg) (v : BitVec w) : (s.setReg r v).fs = s.fs := rfl
@[simp] theorem setReg_gs {w : Nat} (r : Reg) (v : BitVec w) : (s.setReg r v).gs = s.gs := rfl
@[simp] theorem setReg_flags {w : Nat} (r : Reg) (v : BitVec w) : (s.setReg r v).flags = s.flags := rfl
@[simp] theorem setReg_cr0 {w : Nat} (r : Reg) (v : BitVec w) : (s.setReg r v).cr0 = s.cr0 := rfl
@[simp] theorem setReg_cr2 {w : Nat} (r : Reg) (v : BitVec w) : (s.setReg r v).cr2 = s.cr2 := rfl
@[simp] theorem setReg_cr3 {w : Nat} (r : Reg) (v : BitVec w) : (s.setReg r v).cr3 = s.cr3 := rfl
@[simp] theorem setReg_gdtr {w : Nat} (r : Reg) (v : BitVec w) : (s.setReg r v).gdtr = s.gdtr := rfl
@[simp] theorem setReg_idtr {w : Nat} (r : Reg) (v : BitVec w) : (s.setReg r v).idtr = s.idtr := rfl
@[simp] theorem setReg_ldtr {w : Nat} (r : Reg) (v : BitVec w) : (s.setReg r v).ldtr = s.ldtr := rfl
@[simp] theorem setReg_tr {w : Nat} (r : Reg) (v : BitVec w) : (s.setReg r v).tr = s.tr := rfl
@[simp] theorem setReg_dr0 {w : Nat} (r : Reg) (v : BitVec w) : (s.setReg r v).dr0 = s.dr0 := rfl
@[simp] theorem setReg_dr1 {w : Nat} (r : Reg) (v : BitVec w) : (s.setReg r v).dr1 = s.dr1 := rfl
@[simp] theorem setReg_dr2 {w : Nat} (r : Reg) (v : BitVec w) : (s.setReg r v).dr2 = s.dr2 := rfl
@[simp] theorem setReg_dr3 {w : Nat} (r : Reg) (v : BitVec w) : (s.setReg r v).dr3 = s.dr3 := rfl
@[simp] theorem setReg_dr6 {w : Nat} (r : Reg) (v : BitVec w) : (s.setReg r v).dr6 = s.dr6 := rfl
@[simp] theorem setReg_dr7 {w : Nat} (r : Reg) (v : BitVec w) : (s.setReg r v).dr7 = s.dr7 := rfl
@[simp] theorem setReg_tr3 {w : Nat} (r : Reg) (v : BitVec w) : (s.setReg r v).tr3 = s.tr3 := rfl
@[simp] theorem setReg_tr4 {w : Nat} (r : Reg) (v : BitVec w) : (s.setReg r v).tr4 = s.tr4 := rfl
@[simp] theorem setReg_tr5 {w : Nat} (r : Reg) (v : BitVec w) : (s.setReg r v).tr5 = s.tr5 := rfl
@[simp] theorem setReg_tr6 {w : Nat} (r : Reg) (v : BitVec w) : (s.setReg r v).tr6 = s.tr6 := rfl
@[simp] theorem setReg_tr7 {w : Nat} (r : Reg) (v : BitVec w) : (s.setReg r v).tr7 = s.tr7 := rfl
@[simp] theorem setReg_fpu {w : Nat} (r : Reg) (v : BitVec w) : (s.setReg r v).fpu = s.fpu := rfl
@[simp] theorem setReg_tlb {w : Nat} (r : Reg) (v : BitVec w) : (s.setReg r v).tlb = s.tlb := rfl
@[simp] theorem setReg_cache {w : Nat} (r : Reg) (v : BitVec w) : (s.setReg r v).cache = s.cache := rfl
@[simp] theorem setReg_cacheBuf {w : Nat} (r : Reg) (v : BitVec w) : (s.setReg r v).cacheBuf = s.cacheBuf := rfl
@[simp] theorem setReg_cur {w : Nat} (r : Reg) (v : BitVec w) : (s.setReg r v).cur = s.cur := rfl
@[simp] theorem setReg_repeating {w : Nat} (r : Reg) (v : BitVec w) : (s.setReg r v).repeating = s.repeating := rfl
@[simp] theorem setReg_run {w : Nat} (r : Reg) (v : BitVec w) : (s.setReg r v).run = s.run := rfl
@[simp] theorem setReg_resetLatch {w : Nat} (r : Reg) (v : BitVec w) : (s.setReg r v).resetLatch = s.resetLatch := rfl
@[simp] theorem setReg_shadow {w : Nat} (r : Reg) (v : BitVec w) : (s.setReg r v).shadow = s.shadow := rfl
@[simp] theorem setReg_nmiPending {w : Nat} (r : Reg) (v : BitVec w) : (s.setReg r v).nmiPending = s.nmiPending := rfl
@[simp] theorem setReg_nmiBlocked {w : Nat} (r : Reg) (v : BitVec w) : (s.setReg r v).nmiBlocked = s.nmiBlocked := rfl
@[simp] theorem setReg_int9Pending {w : Nat} (r : Reg) (v : BitVec w) : (s.setReg r v).int9Pending = s.int9Pending := rfl
@[simp] theorem setReg_trap {w : Nat} (r : Reg) (v : BitVec w) : (s.setReg r v).trap = s.trap := rfl
@[simp] theorem setReg_stale {w : Nat} (r : Reg) (v : BitVec w) : (s.setReg r v).stale = s.stale := rfl
@[simp] theorem setReg_pins {w : Nat} (r : Reg) (v : BitVec w) : (s.setReg r v).pins = s.pins := rfl
@[simp] theorem setReg_portIn {w : Nat} (r : Reg) (v : BitVec w) : (s.setReg r v).portIn = s.portIn := rfl
@[simp] theorem setReg_portOut {w : Nat} (r : Reg) (v : BitVec w) : (s.setReg r v).portOut = s.portOut := rfl
@[simp] theorem setReg_oracle {w : Nat} (r : Reg) (v : BitVec w) : (s.setReg r v).oracle = s.oracle := rfl
@[simp] theorem setReg_mem {w : Nat} (r : Reg) (v : BitVec w) : (s.setReg r v).mem = s.mem := rfl

/-! ### setReg8 -/

@[simp] theorem setReg8_cfg (r : Reg8) (v : Byte) : (s.setReg8 r v).cfg = s.cfg := rfl
@[simp] theorem setReg8_eip (r : Reg8) (v : Byte) : (s.setReg8 r v).eip = s.eip := rfl
@[simp] theorem setReg8_cs (r : Reg8) (v : Byte) : (s.setReg8 r v).cs = s.cs := rfl
@[simp] theorem setReg8_ss (r : Reg8) (v : Byte) : (s.setReg8 r v).ss = s.ss := rfl
@[simp] theorem setReg8_ds (r : Reg8) (v : Byte) : (s.setReg8 r v).ds = s.ds := rfl
@[simp] theorem setReg8_es (r : Reg8) (v : Byte) : (s.setReg8 r v).es = s.es := rfl
@[simp] theorem setReg8_fs (r : Reg8) (v : Byte) : (s.setReg8 r v).fs = s.fs := rfl
@[simp] theorem setReg8_gs (r : Reg8) (v : Byte) : (s.setReg8 r v).gs = s.gs := rfl
@[simp] theorem setReg8_flags (r : Reg8) (v : Byte) : (s.setReg8 r v).flags = s.flags := rfl
@[simp] theorem setReg8_cr0 (r : Reg8) (v : Byte) : (s.setReg8 r v).cr0 = s.cr0 := rfl
@[simp] theorem setReg8_cr2 (r : Reg8) (v : Byte) : (s.setReg8 r v).cr2 = s.cr2 := rfl
@[simp] theorem setReg8_cr3 (r : Reg8) (v : Byte) : (s.setReg8 r v).cr3 = s.cr3 := rfl
@[simp] theorem setReg8_gdtr (r : Reg8) (v : Byte) : (s.setReg8 r v).gdtr = s.gdtr := rfl
@[simp] theorem setReg8_idtr (r : Reg8) (v : Byte) : (s.setReg8 r v).idtr = s.idtr := rfl
@[simp] theorem setReg8_ldtr (r : Reg8) (v : Byte) : (s.setReg8 r v).ldtr = s.ldtr := rfl
@[simp] theorem setReg8_tr (r : Reg8) (v : Byte) : (s.setReg8 r v).tr = s.tr := rfl
@[simp] theorem setReg8_dr0 (r : Reg8) (v : Byte) : (s.setReg8 r v).dr0 = s.dr0 := rfl
@[simp] theorem setReg8_dr1 (r : Reg8) (v : Byte) : (s.setReg8 r v).dr1 = s.dr1 := rfl
@[simp] theorem setReg8_dr2 (r : Reg8) (v : Byte) : (s.setReg8 r v).dr2 = s.dr2 := rfl
@[simp] theorem setReg8_dr3 (r : Reg8) (v : Byte) : (s.setReg8 r v).dr3 = s.dr3 := rfl
@[simp] theorem setReg8_dr6 (r : Reg8) (v : Byte) : (s.setReg8 r v).dr6 = s.dr6 := rfl
@[simp] theorem setReg8_dr7 (r : Reg8) (v : Byte) : (s.setReg8 r v).dr7 = s.dr7 := rfl
@[simp] theorem setReg8_tr3 (r : Reg8) (v : Byte) : (s.setReg8 r v).tr3 = s.tr3 := rfl
@[simp] theorem setReg8_tr4 (r : Reg8) (v : Byte) : (s.setReg8 r v).tr4 = s.tr4 := rfl
@[simp] theorem setReg8_tr5 (r : Reg8) (v : Byte) : (s.setReg8 r v).tr5 = s.tr5 := rfl
@[simp] theorem setReg8_tr6 (r : Reg8) (v : Byte) : (s.setReg8 r v).tr6 = s.tr6 := rfl
@[simp] theorem setReg8_tr7 (r : Reg8) (v : Byte) : (s.setReg8 r v).tr7 = s.tr7 := rfl
@[simp] theorem setReg8_fpu (r : Reg8) (v : Byte) : (s.setReg8 r v).fpu = s.fpu := rfl
@[simp] theorem setReg8_tlb (r : Reg8) (v : Byte) : (s.setReg8 r v).tlb = s.tlb := rfl
@[simp] theorem setReg8_cache (r : Reg8) (v : Byte) : (s.setReg8 r v).cache = s.cache := rfl
@[simp] theorem setReg8_cacheBuf (r : Reg8) (v : Byte) : (s.setReg8 r v).cacheBuf = s.cacheBuf := rfl
@[simp] theorem setReg8_cur (r : Reg8) (v : Byte) : (s.setReg8 r v).cur = s.cur := rfl
@[simp] theorem setReg8_repeating (r : Reg8) (v : Byte) : (s.setReg8 r v).repeating = s.repeating := rfl
@[simp] theorem setReg8_run (r : Reg8) (v : Byte) : (s.setReg8 r v).run = s.run := rfl
@[simp] theorem setReg8_resetLatch (r : Reg8) (v : Byte) : (s.setReg8 r v).resetLatch = s.resetLatch := rfl
@[simp] theorem setReg8_shadow (r : Reg8) (v : Byte) : (s.setReg8 r v).shadow = s.shadow := rfl
@[simp] theorem setReg8_nmiPending (r : Reg8) (v : Byte) : (s.setReg8 r v).nmiPending = s.nmiPending := rfl
@[simp] theorem setReg8_nmiBlocked (r : Reg8) (v : Byte) : (s.setReg8 r v).nmiBlocked = s.nmiBlocked := rfl
@[simp] theorem setReg8_int9Pending (r : Reg8) (v : Byte) : (s.setReg8 r v).int9Pending = s.int9Pending := rfl
@[simp] theorem setReg8_trap (r : Reg8) (v : Byte) : (s.setReg8 r v).trap = s.trap := rfl
@[simp] theorem setReg8_stale (r : Reg8) (v : Byte) : (s.setReg8 r v).stale = s.stale := rfl
@[simp] theorem setReg8_pins (r : Reg8) (v : Byte) : (s.setReg8 r v).pins = s.pins := rfl
@[simp] theorem setReg8_portIn (r : Reg8) (v : Byte) : (s.setReg8 r v).portIn = s.portIn := rfl
@[simp] theorem setReg8_portOut (r : Reg8) (v : Byte) : (s.setReg8 r v).portOut = s.portOut := rfl
@[simp] theorem setReg8_oracle (r : Reg8) (v : Byte) : (s.setReg8 r v).oracle = s.oracle := rfl
@[simp] theorem setReg8_mem (r : Reg8) (v : Byte) : (s.setReg8 r v).mem = s.mem := rfl

/-! ### setSp -/

@[simp] theorem setSp_cfg (v : Dword) : (s.setSp v).cfg = s.cfg := by unfold State.setSp; split <;> rfl
@[simp] theorem setSp_eip (v : Dword) : (s.setSp v).eip = s.eip := by unfold State.setSp; split <;> rfl
@[simp] theorem setSp_cs (v : Dword) : (s.setSp v).cs = s.cs := by unfold State.setSp; split <;> rfl
@[simp] theorem setSp_ss (v : Dword) : (s.setSp v).ss = s.ss := by unfold State.setSp; split <;> rfl
@[simp] theorem setSp_ds (v : Dword) : (s.setSp v).ds = s.ds := by unfold State.setSp; split <;> rfl
@[simp] theorem setSp_es (v : Dword) : (s.setSp v).es = s.es := by unfold State.setSp; split <;> rfl
@[simp] theorem setSp_fs (v : Dword) : (s.setSp v).fs = s.fs := by unfold State.setSp; split <;> rfl
@[simp] theorem setSp_gs (v : Dword) : (s.setSp v).gs = s.gs := by unfold State.setSp; split <;> rfl
@[simp] theorem setSp_flags (v : Dword) : (s.setSp v).flags = s.flags := by unfold State.setSp; split <;> rfl
@[simp] theorem setSp_cr0 (v : Dword) : (s.setSp v).cr0 = s.cr0 := by unfold State.setSp; split <;> rfl
@[simp] theorem setSp_cr2 (v : Dword) : (s.setSp v).cr2 = s.cr2 := by unfold State.setSp; split <;> rfl
@[simp] theorem setSp_cr3 (v : Dword) : (s.setSp v).cr3 = s.cr3 := by unfold State.setSp; split <;> rfl
@[simp] theorem setSp_gdtr (v : Dword) : (s.setSp v).gdtr = s.gdtr := by unfold State.setSp; split <;> rfl
@[simp] theorem setSp_idtr (v : Dword) : (s.setSp v).idtr = s.idtr := by unfold State.setSp; split <;> rfl
@[simp] theorem setSp_ldtr (v : Dword) : (s.setSp v).ldtr = s.ldtr := by unfold State.setSp; split <;> rfl
@[simp] theorem setSp_tr (v : Dword) : (s.setSp v).tr = s.tr := by unfold State.setSp; split <;> rfl
@[simp] theorem setSp_dr0 (v : Dword) : (s.setSp v).dr0 = s.dr0 := by unfold State.setSp; split <;> rfl
@[simp] theorem setSp_dr1 (v : Dword) : (s.setSp v).dr1 = s.dr1 := by unfold State.setSp; split <;> rfl
@[simp] theorem setSp_dr2 (v : Dword) : (s.setSp v).dr2 = s.dr2 := by unfold State.setSp; split <;> rfl
@[simp] theorem setSp_dr3 (v : Dword) : (s.setSp v).dr3 = s.dr3 := by unfold State.setSp; split <;> rfl
@[simp] theorem setSp_dr6 (v : Dword) : (s.setSp v).dr6 = s.dr6 := by unfold State.setSp; split <;> rfl
@[simp] theorem setSp_dr7 (v : Dword) : (s.setSp v).dr7 = s.dr7 := by unfold State.setSp; split <;> rfl
@[simp] theorem setSp_tr3 (v : Dword) : (s.setSp v).tr3 = s.tr3 := by unfold State.setSp; split <;> rfl
@[simp] theorem setSp_tr4 (v : Dword) : (s.setSp v).tr4 = s.tr4 := by unfold State.setSp; split <;> rfl
@[simp] theorem setSp_tr5 (v : Dword) : (s.setSp v).tr5 = s.tr5 := by unfold State.setSp; split <;> rfl
@[simp] theorem setSp_tr6 (v : Dword) : (s.setSp v).tr6 = s.tr6 := by unfold State.setSp; split <;> rfl
@[simp] theorem setSp_tr7 (v : Dword) : (s.setSp v).tr7 = s.tr7 := by unfold State.setSp; split <;> rfl
@[simp] theorem setSp_fpu (v : Dword) : (s.setSp v).fpu = s.fpu := by unfold State.setSp; split <;> rfl
@[simp] theorem setSp_tlb (v : Dword) : (s.setSp v).tlb = s.tlb := by unfold State.setSp; split <;> rfl
@[simp] theorem setSp_cache (v : Dword) : (s.setSp v).cache = s.cache := by unfold State.setSp; split <;> rfl
@[simp] theorem setSp_cacheBuf (v : Dword) : (s.setSp v).cacheBuf = s.cacheBuf := by unfold State.setSp; split <;> rfl
@[simp] theorem setSp_cur (v : Dword) : (s.setSp v).cur = s.cur := by unfold State.setSp; split <;> rfl
@[simp] theorem setSp_repeating (v : Dword) : (s.setSp v).repeating = s.repeating := by unfold State.setSp; split <;> rfl
@[simp] theorem setSp_run (v : Dword) : (s.setSp v).run = s.run := by unfold State.setSp; split <;> rfl
@[simp] theorem setSp_resetLatch (v : Dword) : (s.setSp v).resetLatch = s.resetLatch := by unfold State.setSp; split <;> rfl
@[simp] theorem setSp_shadow (v : Dword) : (s.setSp v).shadow = s.shadow := by unfold State.setSp; split <;> rfl
@[simp] theorem setSp_nmiPending (v : Dword) : (s.setSp v).nmiPending = s.nmiPending := by unfold State.setSp; split <;> rfl
@[simp] theorem setSp_nmiBlocked (v : Dword) : (s.setSp v).nmiBlocked = s.nmiBlocked := by unfold State.setSp; split <;> rfl
@[simp] theorem setSp_int9Pending (v : Dword) : (s.setSp v).int9Pending = s.int9Pending := by unfold State.setSp; split <;> rfl
@[simp] theorem setSp_trap (v : Dword) : (s.setSp v).trap = s.trap := by unfold State.setSp; split <;> rfl
@[simp] theorem setSp_stale (v : Dword) : (s.setSp v).stale = s.stale := by unfold State.setSp; split <;> rfl
@[simp] theorem setSp_pins (v : Dword) : (s.setSp v).pins = s.pins := by unfold State.setSp; split <;> rfl
@[simp] theorem setSp_portIn (v : Dword) : (s.setSp v).portIn = s.portIn := by unfold State.setSp; split <;> rfl
@[simp] theorem setSp_portOut (v : Dword) : (s.setSp v).portOut = s.portOut := by unfold State.setSp; split <;> rfl
@[simp] theorem setSp_oracle (v : Dword) : (s.setSp v).oracle = s.oracle := by unfold State.setSp; split <;> rfl
@[simp] theorem setSp_mem (v : Dword) : (s.setSp v).mem = s.mem := by unfold State.setSp; split <;> rfl

/-! ### setSeg -/

@[simp] theorem setSeg_cfg (r : SReg) (v : SegReg) : (s.setSeg r v).cfg = s.cfg := by cases r <;> rfl
@[simp] theorem setSeg_regs (r : SReg) (v : SegReg) : (s.setSeg r v).regs = s.regs := by cases r <;> rfl
@[simp] theorem setSeg_eip (r : SReg) (v : SegReg) : (s.setSeg r v).eip = s.eip := by cases r <;> rfl
@[simp] theorem setSeg_flags (r : SReg) (v : SegReg) : (s.setSeg r v).flags = s.flags := by cases r <;> rfl
@[simp] theorem setSeg_cr0 (r : SReg) (v : SegReg) : (s.setSeg r v).cr0 = s.cr0 := by cases r <;> rfl
@[simp] theorem setSeg_cr2 (r : SReg) (v : SegReg) : (s.setSeg r v).cr2 = s.cr2 := by cases r <;> rfl
@[simp] theorem setSeg_cr3 (r : SReg) (v : SegReg) : (s.setSeg r v).cr3 = s.cr3 := by cases r <;> rfl
@[simp] theorem setSeg_gdtr (r : SReg) (v : SegReg) : (s.setSeg r v).gdtr = s.gdtr := by cases r <;> rfl
@[simp] theorem setSeg_idtr (r : SReg) (v : SegReg) : (s.setSeg r v).idtr = s.idtr := by cases r <;> rfl
@[simp] theorem setSeg_ldtr (r : SReg) (v : SegReg) : (s.setSeg r v).ldtr = s.ldtr := by cases r <;> rfl
@[simp] theorem setSeg_tr (r : SReg) (v : SegReg) : (s.setSeg r v).tr = s.tr := by cases r <;> rfl
@[simp] theorem setSeg_dr0 (r : SReg) (v : SegReg) : (s.setSeg r v).dr0 = s.dr0 := by cases r <;> rfl
@[simp] theorem setSeg_dr1 (r : SReg) (v : SegReg) : (s.setSeg r v).dr1 = s.dr1 := by cases r <;> rfl
@[simp] theorem setSeg_dr2 (r : SReg) (v : SegReg) : (s.setSeg r v).dr2 = s.dr2 := by cases r <;> rfl
@[simp] theorem setSeg_dr3 (r : SReg) (v : SegReg) : (s.setSeg r v).dr3 = s.dr3 := by cases r <;> rfl
@[simp] theorem setSeg_dr6 (r : SReg) (v : SegReg) : (s.setSeg r v).dr6 = s.dr6 := by cases r <;> rfl
@[simp] theorem setSeg_dr7 (r : SReg) (v : SegReg) : (s.setSeg r v).dr7 = s.dr7 := by cases r <;> rfl
@[simp] theorem setSeg_tr3 (r : SReg) (v : SegReg) : (s.setSeg r v).tr3 = s.tr3 := by cases r <;> rfl
@[simp] theorem setSeg_tr4 (r : SReg) (v : SegReg) : (s.setSeg r v).tr4 = s.tr4 := by cases r <;> rfl
@[simp] theorem setSeg_tr5 (r : SReg) (v : SegReg) : (s.setSeg r v).tr5 = s.tr5 := by cases r <;> rfl
@[simp] theorem setSeg_tr6 (r : SReg) (v : SegReg) : (s.setSeg r v).tr6 = s.tr6 := by cases r <;> rfl
@[simp] theorem setSeg_tr7 (r : SReg) (v : SegReg) : (s.setSeg r v).tr7 = s.tr7 := by cases r <;> rfl
@[simp] theorem setSeg_fpu (r : SReg) (v : SegReg) : (s.setSeg r v).fpu = s.fpu := by cases r <;> rfl
@[simp] theorem setSeg_tlb (r : SReg) (v : SegReg) : (s.setSeg r v).tlb = s.tlb := by cases r <;> rfl
@[simp] theorem setSeg_cache (r : SReg) (v : SegReg) : (s.setSeg r v).cache = s.cache := by cases r <;> rfl
@[simp] theorem setSeg_cacheBuf (r : SReg) (v : SegReg) : (s.setSeg r v).cacheBuf = s.cacheBuf := by cases r <;> rfl
@[simp] theorem setSeg_cur (r : SReg) (v : SegReg) : (s.setSeg r v).cur = s.cur := by cases r <;> rfl
@[simp] theorem setSeg_repeating (r : SReg) (v : SegReg) : (s.setSeg r v).repeating = s.repeating := by cases r <;> rfl
@[simp] theorem setSeg_run (r : SReg) (v : SegReg) : (s.setSeg r v).run = s.run := by cases r <;> rfl
@[simp] theorem setSeg_resetLatch (r : SReg) (v : SegReg) : (s.setSeg r v).resetLatch = s.resetLatch := by cases r <;> rfl
@[simp] theorem setSeg_shadow (r : SReg) (v : SegReg) : (s.setSeg r v).shadow = s.shadow := by cases r <;> rfl
@[simp] theorem setSeg_nmiPending (r : SReg) (v : SegReg) : (s.setSeg r v).nmiPending = s.nmiPending := by cases r <;> rfl
@[simp] theorem setSeg_nmiBlocked (r : SReg) (v : SegReg) : (s.setSeg r v).nmiBlocked = s.nmiBlocked := by cases r <;> rfl
@[simp] theorem setSeg_int9Pending (r : SReg) (v : SegReg) : (s.setSeg r v).int9Pending = s.int9Pending := by cases r <;> rfl
@[simp] theorem setSeg_trap (r : SReg) (v : SegReg) : (s.setSeg r v).trap = s.trap := by cases r <;> rfl
@[simp] theorem setSeg_stale (r : SReg) (v : SegReg) : (s.setSeg r v).stale = s.stale := by cases r <;> rfl
@[simp] theorem setSeg_pins (r : SReg) (v : SegReg) : (s.setSeg r v).pins = s.pins := by cases r <;> rfl
@[simp] theorem setSeg_portIn (r : SReg) (v : SegReg) : (s.setSeg r v).portIn = s.portIn := by cases r <;> rfl
@[simp] theorem setSeg_portOut (r : SReg) (v : SegReg) : (s.setSeg r v).portOut = s.portOut := by cases r <;> rfl
@[simp] theorem setSeg_oracle (r : SReg) (v : SegReg) : (s.setSeg r v).oracle = s.oracle := by cases r <;> rfl
@[simp] theorem setSeg_mem (r : SReg) (v : SegReg) : (s.setSeg r v).mem = s.mem := by cases r <;> rfl

/-! ### recordMatches -/

@[simp] theorem recordMatches_cfg (lin n : Nat) (k : AccessKind) : (s.recordMatches lin n k).cfg = s.cfg := by unfold State.recordMatches; split <;> rfl
@[simp] theorem recordMatches_regs (lin n : Nat) (k : AccessKind) : (s.recordMatches lin n k).regs = s.regs := by unfold State.recordMatches; split <;> rfl
@[simp] theorem recordMatches_eip (lin n : Nat) (k : AccessKind) : (s.recordMatches lin n k).eip = s.eip := by unfold State.recordMatches; split <;> rfl
@[simp] theorem recordMatches_cs (lin n : Nat) (k : AccessKind) : (s.recordMatches lin n k).cs = s.cs := by unfold State.recordMatches; split <;> rfl
@[simp] theorem recordMatches_ss (lin n : Nat) (k : AccessKind) : (s.recordMatches lin n k).ss = s.ss := by unfold State.recordMatches; split <;> rfl
@[simp] theorem recordMatches_ds (lin n : Nat) (k : AccessKind) : (s.recordMatches lin n k).ds = s.ds := by unfold State.recordMatches; split <;> rfl
@[simp] theorem recordMatches_es (lin n : Nat) (k : AccessKind) : (s.recordMatches lin n k).es = s.es := by unfold State.recordMatches; split <;> rfl
@[simp] theorem recordMatches_fs (lin n : Nat) (k : AccessKind) : (s.recordMatches lin n k).fs = s.fs := by unfold State.recordMatches; split <;> rfl
@[simp] theorem recordMatches_gs (lin n : Nat) (k : AccessKind) : (s.recordMatches lin n k).gs = s.gs := by unfold State.recordMatches; split <;> rfl
@[simp] theorem recordMatches_flags (lin n : Nat) (k : AccessKind) : (s.recordMatches lin n k).flags = s.flags := by unfold State.recordMatches; split <;> rfl
@[simp] theorem recordMatches_cr0 (lin n : Nat) (k : AccessKind) : (s.recordMatches lin n k).cr0 = s.cr0 := by unfold State.recordMatches; split <;> rfl
@[simp] theorem recordMatches_cr2 (lin n : Nat) (k : AccessKind) : (s.recordMatches lin n k).cr2 = s.cr2 := by unfold State.recordMatches; split <;> rfl
@[simp] theorem recordMatches_cr3 (lin n : Nat) (k : AccessKind) : (s.recordMatches lin n k).cr3 = s.cr3 := by unfold State.recordMatches; split <;> rfl
@[simp] theorem recordMatches_gdtr (lin n : Nat) (k : AccessKind) : (s.recordMatches lin n k).gdtr = s.gdtr := by unfold State.recordMatches; split <;> rfl
@[simp] theorem recordMatches_idtr (lin n : Nat) (k : AccessKind) : (s.recordMatches lin n k).idtr = s.idtr := by unfold State.recordMatches; split <;> rfl
@[simp] theorem recordMatches_ldtr (lin n : Nat) (k : AccessKind) : (s.recordMatches lin n k).ldtr = s.ldtr := by unfold State.recordMatches; split <;> rfl
@[simp] theorem recordMatches_tr (lin n : Nat) (k : AccessKind) : (s.recordMatches lin n k).tr = s.tr := by unfold State.recordMatches; split <;> rfl
@[simp] theorem recordMatches_dr0 (lin n : Nat) (k : AccessKind) : (s.recordMatches lin n k).dr0 = s.dr0 := by unfold State.recordMatches; split <;> rfl
@[simp] theorem recordMatches_dr1 (lin n : Nat) (k : AccessKind) : (s.recordMatches lin n k).dr1 = s.dr1 := by unfold State.recordMatches; split <;> rfl
@[simp] theorem recordMatches_dr2 (lin n : Nat) (k : AccessKind) : (s.recordMatches lin n k).dr2 = s.dr2 := by unfold State.recordMatches; split <;> rfl
@[simp] theorem recordMatches_dr3 (lin n : Nat) (k : AccessKind) : (s.recordMatches lin n k).dr3 = s.dr3 := by unfold State.recordMatches; split <;> rfl
@[simp] theorem recordMatches_dr6 (lin n : Nat) (k : AccessKind) : (s.recordMatches lin n k).dr6 = s.dr6 := by unfold State.recordMatches; split <;> rfl
@[simp] theorem recordMatches_dr7 (lin n : Nat) (k : AccessKind) : (s.recordMatches lin n k).dr7 = s.dr7 := by unfold State.recordMatches; split <;> rfl
@[simp] theorem recordMatches_tr3 (lin n : Nat) (k : AccessKind) : (s.recordMatches lin n k).tr3 = s.tr3 := by unfold State.recordMatches; split <;> rfl
@[simp] theorem recordMatches_tr4 (lin n : Nat) (k : AccessKind) : (s.recordMatches lin n k).tr4 = s.tr4 := by unfold State.recordMatches; split <;> rfl
@[simp] theorem recordMatches_tr5 (lin n : Nat) (k : AccessKind) : (s.recordMatches lin n k).tr5 = s.tr5 := by unfold State.recordMatches; split <;> rfl
@[simp] theorem recordMatches_tr6 (lin n : Nat) (k : AccessKind) : (s.recordMatches lin n k).tr6 = s.tr6 := by unfold State.recordMatches; split <;> rfl
@[simp] theorem recordMatches_tr7 (lin n : Nat) (k : AccessKind) : (s.recordMatches lin n k).tr7 = s.tr7 := by unfold State.recordMatches; split <;> rfl
@[simp] theorem recordMatches_fpu (lin n : Nat) (k : AccessKind) : (s.recordMatches lin n k).fpu = s.fpu := by unfold State.recordMatches; split <;> rfl
@[simp] theorem recordMatches_tlb (lin n : Nat) (k : AccessKind) : (s.recordMatches lin n k).tlb = s.tlb := by unfold State.recordMatches; split <;> rfl
@[simp] theorem recordMatches_cache (lin n : Nat) (k : AccessKind) : (s.recordMatches lin n k).cache = s.cache := by unfold State.recordMatches; split <;> rfl
@[simp] theorem recordMatches_cacheBuf (lin n : Nat) (k : AccessKind) : (s.recordMatches lin n k).cacheBuf = s.cacheBuf := by unfold State.recordMatches; split <;> rfl
@[simp] theorem recordMatches_cur (lin n : Nat) (k : AccessKind) : (s.recordMatches lin n k).cur = s.cur := by unfold State.recordMatches; split <;> rfl
@[simp] theorem recordMatches_repeating (lin n : Nat) (k : AccessKind) : (s.recordMatches lin n k).repeating = s.repeating := by unfold State.recordMatches; split <;> rfl
@[simp] theorem recordMatches_run (lin n : Nat) (k : AccessKind) : (s.recordMatches lin n k).run = s.run := by unfold State.recordMatches; split <;> rfl
@[simp] theorem recordMatches_resetLatch (lin n : Nat) (k : AccessKind) : (s.recordMatches lin n k).resetLatch = s.resetLatch := by unfold State.recordMatches; split <;> rfl
@[simp] theorem recordMatches_shadow (lin n : Nat) (k : AccessKind) : (s.recordMatches lin n k).shadow = s.shadow := by unfold State.recordMatches; split <;> rfl
@[simp] theorem recordMatches_nmiPending (lin n : Nat) (k : AccessKind) : (s.recordMatches lin n k).nmiPending = s.nmiPending := by unfold State.recordMatches; split <;> rfl
@[simp] theorem recordMatches_nmiBlocked (lin n : Nat) (k : AccessKind) : (s.recordMatches lin n k).nmiBlocked = s.nmiBlocked := by unfold State.recordMatches; split <;> rfl
@[simp] theorem recordMatches_int9Pending (lin n : Nat) (k : AccessKind) : (s.recordMatches lin n k).int9Pending = s.int9Pending := by unfold State.recordMatches; split <;> rfl
@[simp] theorem recordMatches_stale (lin n : Nat) (k : AccessKind) : (s.recordMatches lin n k).stale = s.stale := by unfold State.recordMatches; split <;> rfl
@[simp] theorem recordMatches_pins (lin n : Nat) (k : AccessKind) : (s.recordMatches lin n k).pins = s.pins := by unfold State.recordMatches; split <;> rfl
@[simp] theorem recordMatches_portIn (lin n : Nat) (k : AccessKind) : (s.recordMatches lin n k).portIn = s.portIn := by unfold State.recordMatches; split <;> rfl
@[simp] theorem recordMatches_portOut (lin n : Nat) (k : AccessKind) : (s.recordMatches lin n k).portOut = s.portOut := by unfold State.recordMatches; split <;> rfl
@[simp] theorem recordMatches_oracle (lin n : Nat) (k : AccessKind) : (s.recordMatches lin n k).oracle = s.oracle := by unfold State.recordMatches; split <;> rfl
@[simp] theorem recordMatches_mem (lin n : Nat) (k : AccessKind) : (s.recordMatches lin n k).mem = s.mem := by unfold State.recordMatches; split <;> rfl

/-! ### noteStore -/

@[simp] theorem noteStore_cfg (a : Nat) (v : Byte) : (s.noteStore a v).cfg = s.cfg := by unfold State.noteStore; dsimp only; split <;> rfl
@[simp] theorem noteStore_regs (a : Nat) (v : Byte) : (s.noteStore a v).regs = s.regs := by unfold State.noteStore; dsimp only; split <;> rfl
@[simp] theorem noteStore_eip (a : Nat) (v : Byte) : (s.noteStore a v).eip = s.eip := by unfold State.noteStore; dsimp only; split <;> rfl
@[simp] theorem noteStore_cs (a : Nat) (v : Byte) : (s.noteStore a v).cs = s.cs := by unfold State.noteStore; dsimp only; split <;> rfl
@[simp] theorem noteStore_ss (a : Nat) (v : Byte) : (s.noteStore a v).ss = s.ss := by unfold State.noteStore; dsimp only; split <;> rfl
@[simp] theorem noteStore_ds (a : Nat) (v : Byte) : (s.noteStore a v).ds = s.ds := by unfold State.noteStore; dsimp only; split <;> rfl
@[simp] theorem noteStore_es (a : Nat) (v : Byte) : (s.noteStore a v).es = s.es := by unfold State.noteStore; dsimp only; split <;> rfl
@[simp] theorem noteStore_fs (a : Nat) (v : Byte) : (s.noteStore a v).fs = s.fs := by unfold State.noteStore; dsimp only; split <;> rfl
@[simp] theorem noteStore_gs (a : Nat) (v : Byte) : (s.noteStore a v).gs = s.gs := by unfold State.noteStore; dsimp only; split <;> rfl
@[simp] theorem noteStore_flags (a : Nat) (v : Byte) : (s.noteStore a v).flags = s.flags := by unfold State.noteStore; dsimp only; split <;> rfl
@[simp] theorem noteStore_cr0 (a : Nat) (v : Byte) : (s.noteStore a v).cr0 = s.cr0 := by unfold State.noteStore; dsimp only; split <;> rfl
@[simp] theorem noteStore_cr2 (a : Nat) (v : Byte) : (s.noteStore a v).cr2 = s.cr2 := by unfold State.noteStore; dsimp only; split <;> rfl
@[simp] theorem noteStore_cr3 (a : Nat) (v : Byte) : (s.noteStore a v).cr3 = s.cr3 := by unfold State.noteStore; dsimp only; split <;> rfl
@[simp] theorem noteStore_gdtr (a : Nat) (v : Byte) : (s.noteStore a v).gdtr = s.gdtr := by unfold State.noteStore; dsimp only; split <;> rfl
@[simp] theorem noteStore_idtr (a : Nat) (v : Byte) : (s.noteStore a v).idtr = s.idtr := by unfold State.noteStore; dsimp only; split <;> rfl
@[simp] theorem noteStore_ldtr (a : Nat) (v : Byte) : (s.noteStore a v).ldtr = s.ldtr := by unfold State.noteStore; dsimp only; split <;> rfl
@[simp] theorem noteStore_tr (a : Nat) (v : Byte) : (s.noteStore a v).tr = s.tr := by unfold State.noteStore; dsimp only; split <;> rfl
@[simp] theorem noteStore_dr0 (a : Nat) (v : Byte) : (s.noteStore a v).dr0 = s.dr0 := by unfold State.noteStore; dsimp only; split <;> rfl
@[simp] theorem noteStore_dr1 (a : Nat) (v : Byte) : (s.noteStore a v).dr1 = s.dr1 := by unfold State.noteStore; dsimp only; split <;> rfl
@[simp] theorem noteStore_dr2 (a : Nat) (v : Byte) : (s.noteStore a v).dr2 = s.dr2 := by unfold State.noteStore; dsimp only; split <;> rfl
@[simp] theorem noteStore_dr3 (a : Nat) (v : Byte) : (s.noteStore a v).dr3 = s.dr3 := by unfold State.noteStore; dsimp only; split <;> rfl
@[simp] theorem noteStore_dr6 (a : Nat) (v : Byte) : (s.noteStore a v).dr6 = s.dr6 := by unfold State.noteStore; dsimp only; split <;> rfl
@[simp] theorem noteStore_dr7 (a : Nat) (v : Byte) : (s.noteStore a v).dr7 = s.dr7 := by unfold State.noteStore; dsimp only; split <;> rfl
@[simp] theorem noteStore_tr3 (a : Nat) (v : Byte) : (s.noteStore a v).tr3 = s.tr3 := by unfold State.noteStore; dsimp only; split <;> rfl
@[simp] theorem noteStore_tr4 (a : Nat) (v : Byte) : (s.noteStore a v).tr4 = s.tr4 := by unfold State.noteStore; dsimp only; split <;> rfl
@[simp] theorem noteStore_tr5 (a : Nat) (v : Byte) : (s.noteStore a v).tr5 = s.tr5 := by unfold State.noteStore; dsimp only; split <;> rfl
@[simp] theorem noteStore_tr6 (a : Nat) (v : Byte) : (s.noteStore a v).tr6 = s.tr6 := by unfold State.noteStore; dsimp only; split <;> rfl
@[simp] theorem noteStore_tr7 (a : Nat) (v : Byte) : (s.noteStore a v).tr7 = s.tr7 := by unfold State.noteStore; dsimp only; split <;> rfl
@[simp] theorem noteStore_fpu (a : Nat) (v : Byte) : (s.noteStore a v).fpu = s.fpu := by unfold State.noteStore; dsimp only; split <;> rfl
@[simp] theorem noteStore_tlb (a : Nat) (v : Byte) : (s.noteStore a v).tlb = s.tlb := by unfold State.noteStore; dsimp only; split <;> rfl
@[simp] theorem noteStore_cache (a : Nat) (v : Byte) : (s.noteStore a v).cache = s.cache := by unfold State.noteStore; dsimp only; split <;> rfl
@[simp] theorem noteStore_cacheBuf (a : Nat) (v : Byte) : (s.noteStore a v).cacheBuf = s.cacheBuf := by unfold State.noteStore; dsimp only; split <;> rfl
@[simp] theorem noteStore_cur (a : Nat) (v : Byte) : (s.noteStore a v).cur = s.cur := by unfold State.noteStore; dsimp only; split <;> rfl
@[simp] theorem noteStore_repeating (a : Nat) (v : Byte) : (s.noteStore a v).repeating = s.repeating := by unfold State.noteStore; dsimp only; split <;> rfl
@[simp] theorem noteStore_run (a : Nat) (v : Byte) : (s.noteStore a v).run = s.run := by unfold State.noteStore; dsimp only; split <;> rfl
@[simp] theorem noteStore_resetLatch (a : Nat) (v : Byte) : (s.noteStore a v).resetLatch = s.resetLatch := by unfold State.noteStore; dsimp only; split <;> rfl
@[simp] theorem noteStore_shadow (a : Nat) (v : Byte) : (s.noteStore a v).shadow = s.shadow := by unfold State.noteStore; dsimp only; split <;> rfl
@[simp] theorem noteStore_nmiPending (a : Nat) (v : Byte) : (s.noteStore a v).nmiPending = s.nmiPending := by unfold State.noteStore; dsimp only; split <;> rfl
@[simp] theorem noteStore_nmiBlocked (a : Nat) (v : Byte) : (s.noteStore a v).nmiBlocked = s.nmiBlocked := by unfold State.noteStore; dsimp only; split <;> rfl
@[simp] theorem noteStore_int9Pending (a : Nat) (v : Byte) : (s.noteStore a v).int9Pending = s.int9Pending := by unfold State.noteStore; dsimp only; split <;> rfl
@[simp] theorem noteStore_trap (a : Nat) (v : Byte) : (s.noteStore a v).trap = s.trap := by unfold State.noteStore; dsimp only; split <;> rfl
@[simp] theorem noteStore_pins (a : Nat) (v : Byte) : (s.noteStore a v).pins = s.pins := by unfold State.noteStore; dsimp only; split <;> rfl
@[simp] theorem noteStore_portIn (a : Nat) (v : Byte) : (s.noteStore a v).portIn = s.portIn := by unfold State.noteStore; dsimp only; split <;> rfl
@[simp] theorem noteStore_portOut (a : Nat) (v : Byte) : (s.noteStore a v).portOut = s.portOut := by unfold State.noteStore; dsimp only; split <;> rfl
@[simp] theorem noteStore_oracle (a : Nat) (v : Byte) : (s.noteStore a v).oracle = s.oracle := by unfold State.noteStore; dsimp only; split <;> rfl
@[simp] theorem noteStore_mem (a : Nat) (v : Byte) : (s.noteStore a v).mem = s.mem := by unfold State.noteStore; dsimp only; split <;> rfl

/-! ### begin -/

@[simp] theorem begin_cfg : (s.begin).cfg = s.cfg := rfl
@[simp] theorem begin_regs : (s.begin).regs = s.regs := rfl
@[simp] theorem begin_cs : (s.begin).cs = s.cs := rfl
@[simp] theorem begin_ss : (s.begin).ss = s.ss := rfl
@[simp] theorem begin_ds : (s.begin).ds = s.ds := rfl
@[simp] theorem begin_es : (s.begin).es = s.es := rfl
@[simp] theorem begin_fs : (s.begin).fs = s.fs := rfl
@[simp] theorem begin_gs : (s.begin).gs = s.gs := rfl
@[simp] theorem begin_flags : (s.begin).flags = s.flags := rfl
@[simp] theorem begin_cr0 : (s.begin).cr0 = s.cr0 := rfl
@[simp] theorem begin_cr2 : (s.begin).cr2 = s.cr2 := rfl
@[simp] theorem begin_cr3 : (s.begin).cr3 = s.cr3 := rfl
@[simp] theorem begin_gdtr : (s.begin).gdtr = s.gdtr := rfl
@[simp] theorem begin_idtr : (s.begin).idtr = s.idtr := rfl
@[simp] theorem begin_ldtr : (s.begin).ldtr = s.ldtr := rfl
@[simp] theorem begin_tr : (s.begin).tr = s.tr := rfl
@[simp] theorem begin_dr0 : (s.begin).dr0 = s.dr0 := rfl
@[simp] theorem begin_dr1 : (s.begin).dr1 = s.dr1 := rfl
@[simp] theorem begin_dr2 : (s.begin).dr2 = s.dr2 := rfl
@[simp] theorem begin_dr3 : (s.begin).dr3 = s.dr3 := rfl
@[simp] theorem begin_dr6 : (s.begin).dr6 = s.dr6 := rfl
@[simp] theorem begin_dr7 : (s.begin).dr7 = s.dr7 := rfl
@[simp] theorem begin_tr3 : (s.begin).tr3 = s.tr3 := rfl
@[simp] theorem begin_tr4 : (s.begin).tr4 = s.tr4 := rfl
@[simp] theorem begin_tr5 : (s.begin).tr5 = s.tr5 := rfl
@[simp] theorem begin_tr6 : (s.begin).tr6 = s.tr6 := rfl
@[simp] theorem begin_tr7 : (s.begin).tr7 = s.tr7 := rfl
@[simp] theorem begin_fpu : (s.begin).fpu = s.fpu := rfl
@[simp] theorem begin_tlb : (s.begin).tlb = s.tlb := rfl
@[simp] theorem begin_cache : (s.begin).cache = s.cache := rfl
@[simp] theorem begin_cacheBuf : (s.begin).cacheBuf = s.cacheBuf := rfl
@[simp] theorem begin_cur : (s.begin).cur = s.cur := rfl
@[simp] theorem begin_repeating : (s.begin).repeating = s.repeating := rfl
@[simp] theorem begin_run : (s.begin).run = s.run := rfl
@[simp] theorem begin_resetLatch : (s.begin).resetLatch = s.resetLatch := rfl
@[simp] theorem begin_nmiPending : (s.begin).nmiPending = s.nmiPending := rfl
@[simp] theorem begin_nmiBlocked : (s.begin).nmiBlocked = s.nmiBlocked := rfl
@[simp] theorem begin_int9Pending : (s.begin).int9Pending = s.int9Pending := rfl
@[simp] theorem begin_trap : (s.begin).trap = s.trap := rfl
@[simp] theorem begin_pins : (s.begin).pins = s.pins := rfl
@[simp] theorem begin_portIn : (s.begin).portIn = s.portIn := rfl
@[simp] theorem begin_portOut : (s.begin).portOut = s.portOut := rfl
@[simp] theorem begin_oracle : (s.begin).oracle = s.oracle := rfl
@[simp] theorem begin_mem : (s.begin).mem = s.mem := rfl

/-! ### flushTlb -/

@[simp] theorem flushTlb_cfg : (s.flushTlb).cfg = s.cfg := rfl
@[simp] theorem flushTlb_regs : (s.flushTlb).regs = s.regs := rfl
@[simp] theorem flushTlb_eip : (s.flushTlb).eip = s.eip := rfl
@[simp] theorem flushTlb_cs : (s.flushTlb).cs = s.cs := rfl
@[simp] theorem flushTlb_ss : (s.flushTlb).ss = s.ss := rfl
@[simp] theorem flushTlb_ds : (s.flushTlb).ds = s.ds := rfl
@[simp] theorem flushTlb_es : (s.flushTlb).es = s.es := rfl
@[simp] theorem flushTlb_fs : (s.flushTlb).fs = s.fs := rfl
@[simp] theorem flushTlb_gs : (s.flushTlb).gs = s.gs := rfl
@[simp] theorem flushTlb_flags : (s.flushTlb).flags = s.flags := rfl
@[simp] theorem flushTlb_cr0 : (s.flushTlb).cr0 = s.cr0 := rfl
@[simp] theorem flushTlb_cr2 : (s.flushTlb).cr2 = s.cr2 := rfl
@[simp] theorem flushTlb_cr3 : (s.flushTlb).cr3 = s.cr3 := rfl
@[simp] theorem flushTlb_gdtr : (s.flushTlb).gdtr = s.gdtr := rfl
@[simp] theorem flushTlb_idtr : (s.flushTlb).idtr = s.idtr := rfl
@[simp] theorem flushTlb_ldtr : (s.flushTlb).ldtr = s.ldtr := rfl
@[simp] theorem flushTlb_tr : (s.flushTlb).tr = s.tr := rfl
@[simp] theorem flushTlb_dr0 : (s.flushTlb).dr0 = s.dr0 := rfl
@[simp] theorem flushTlb_dr1 : (s.flushTlb).dr1 = s.dr1 := rfl
@[simp] theorem flushTlb_dr2 : (s.flushTlb).dr2 = s.dr2 := rfl
@[simp] theorem flushTlb_dr3 : (s.flushTlb).dr3 = s.dr3 := rfl
@[simp] theorem flushTlb_dr6 : (s.flushTlb).dr6 = s.dr6 := rfl
@[simp] theorem flushTlb_dr7 : (s.flushTlb).dr7 = s.dr7 := rfl
@[simp] theorem flushTlb_tr3 : (s.flushTlb).tr3 = s.tr3 := rfl
@[simp] theorem flushTlb_tr4 : (s.flushTlb).tr4 = s.tr4 := rfl
@[simp] theorem flushTlb_tr5 : (s.flushTlb).tr5 = s.tr5 := rfl
@[simp] theorem flushTlb_tr6 : (s.flushTlb).tr6 = s.tr6 := rfl
@[simp] theorem flushTlb_tr7 : (s.flushTlb).tr7 = s.tr7 := rfl
@[simp] theorem flushTlb_fpu : (s.flushTlb).fpu = s.fpu := rfl
@[simp] theorem flushTlb_cache : (s.flushTlb).cache = s.cache := rfl
@[simp] theorem flushTlb_cacheBuf : (s.flushTlb).cacheBuf = s.cacheBuf := rfl
@[simp] theorem flushTlb_cur : (s.flushTlb).cur = s.cur := rfl
@[simp] theorem flushTlb_repeating : (s.flushTlb).repeating = s.repeating := rfl
@[simp] theorem flushTlb_run : (s.flushTlb).run = s.run := rfl
@[simp] theorem flushTlb_resetLatch : (s.flushTlb).resetLatch = s.resetLatch := rfl
@[simp] theorem flushTlb_shadow : (s.flushTlb).shadow = s.shadow := rfl
@[simp] theorem flushTlb_nmiPending : (s.flushTlb).nmiPending = s.nmiPending := rfl
@[simp] theorem flushTlb_nmiBlocked : (s.flushTlb).nmiBlocked = s.nmiBlocked := rfl
@[simp] theorem flushTlb_int9Pending : (s.flushTlb).int9Pending = s.int9Pending := rfl
@[simp] theorem flushTlb_trap : (s.flushTlb).trap = s.trap := rfl
@[simp] theorem flushTlb_stale : (s.flushTlb).stale = s.stale := rfl
@[simp] theorem flushTlb_pins : (s.flushTlb).pins = s.pins := rfl
@[simp] theorem flushTlb_portIn : (s.flushTlb).portIn = s.portIn := rfl
@[simp] theorem flushTlb_portOut : (s.flushTlb).portOut = s.portOut := rfl
@[simp] theorem flushTlb_oracle : (s.flushTlb).oracle = s.oracle := rfl
@[simp] theorem flushTlb_mem : (s.flushTlb).mem = s.mem := rfl

/-! ### flushCache -/

@[simp] theorem flushCache_cfg : (s.flushCache).cfg = s.cfg := rfl
@[simp] theorem flushCache_regs : (s.flushCache).regs = s.regs := rfl
@[simp] theorem flushCache_eip : (s.flushCache).eip = s.eip := rfl
@[simp] theorem flushCache_cs : (s.flushCache).cs = s.cs := rfl
@[simp] theorem flushCache_ss : (s.flushCache).ss = s.ss := rfl
@[simp] theorem flushCache_ds : (s.flushCache).ds = s.ds := rfl
@[simp] theorem flushCache_es : (s.flushCache).es = s.es := rfl
@[simp] theorem flushCache_fs : (s.flushCache).fs = s.fs := rfl
@[simp] theorem flushCache_gs : (s.flushCache).gs = s.gs := rfl
@[simp] theorem flushCache_flags : (s.flushCache).flags = s.flags := rfl
@[simp] theorem flushCache_cr0 : (s.flushCache).cr0 = s.cr0 := rfl
@[simp] theorem flushCache_cr2 : (s.flushCache).cr2 = s.cr2 := rfl
@[simp] theorem flushCache_cr3 : (s.flushCache).cr3 = s.cr3 := rfl
@[simp] theorem flushCache_gdtr : (s.flushCache).gdtr = s.gdtr := rfl
@[simp] theorem flushCache_idtr : (s.flushCache).idtr = s.idtr := rfl
@[simp] theorem flushCache_ldtr : (s.flushCache).ldtr = s.ldtr := rfl
@[simp] theorem flushCache_tr : (s.flushCache).tr = s.tr := rfl
@[simp] theorem flushCache_dr0 : (s.flushCache).dr0 = s.dr0 := rfl
@[simp] theorem flushCache_dr1 : (s.flushCache).dr1 = s.dr1 := rfl
@[simp] theorem flushCache_dr2 : (s.flushCache).dr2 = s.dr2 := rfl
@[simp] theorem flushCache_dr3 : (s.flushCache).dr3 = s.dr3 := rfl
@[simp] theorem flushCache_dr6 : (s.flushCache).dr6 = s.dr6 := rfl
@[simp] theorem flushCache_dr7 : (s.flushCache).dr7 = s.dr7 := rfl
@[simp] theorem flushCache_tr3 : (s.flushCache).tr3 = s.tr3 := rfl
@[simp] theorem flushCache_tr4 : (s.flushCache).tr4 = s.tr4 := rfl
@[simp] theorem flushCache_tr5 : (s.flushCache).tr5 = s.tr5 := rfl
@[simp] theorem flushCache_tr6 : (s.flushCache).tr6 = s.tr6 := rfl
@[simp] theorem flushCache_tr7 : (s.flushCache).tr7 = s.tr7 := rfl
@[simp] theorem flushCache_fpu : (s.flushCache).fpu = s.fpu := rfl
@[simp] theorem flushCache_tlb : (s.flushCache).tlb = s.tlb := rfl
@[simp] theorem flushCache_cacheBuf : (s.flushCache).cacheBuf = s.cacheBuf := rfl
@[simp] theorem flushCache_cur : (s.flushCache).cur = s.cur := rfl
@[simp] theorem flushCache_repeating : (s.flushCache).repeating = s.repeating := rfl
@[simp] theorem flushCache_run : (s.flushCache).run = s.run := rfl
@[simp] theorem flushCache_resetLatch : (s.flushCache).resetLatch = s.resetLatch := rfl
@[simp] theorem flushCache_shadow : (s.flushCache).shadow = s.shadow := rfl
@[simp] theorem flushCache_nmiPending : (s.flushCache).nmiPending = s.nmiPending := rfl
@[simp] theorem flushCache_nmiBlocked : (s.flushCache).nmiBlocked = s.nmiBlocked := rfl
@[simp] theorem flushCache_int9Pending : (s.flushCache).int9Pending = s.int9Pending := rfl
@[simp] theorem flushCache_trap : (s.flushCache).trap = s.trap := rfl
@[simp] theorem flushCache_stale : (s.flushCache).stale = s.stale := rfl
@[simp] theorem flushCache_pins : (s.flushCache).pins = s.pins := rfl
@[simp] theorem flushCache_portIn : (s.flushCache).portIn = s.portIn := rfl
@[simp] theorem flushCache_portOut : (s.flushCache).portOut = s.portOut := rfl
@[simp] theorem flushCache_oracle : (s.flushCache).oracle = s.oracle := rfl
@[simp] theorem flushCache_mem : (s.flushCache).mem = s.mem := rfl

/-! ### loadCr3 -/

@[simp] theorem loadCr3_cfg (v : Dword) : (s.loadCr3 v).cfg = s.cfg := rfl
@[simp] theorem loadCr3_regs (v : Dword) : (s.loadCr3 v).regs = s.regs := rfl
@[simp] theorem loadCr3_eip (v : Dword) : (s.loadCr3 v).eip = s.eip := rfl
@[simp] theorem loadCr3_cs (v : Dword) : (s.loadCr3 v).cs = s.cs := rfl
@[simp] theorem loadCr3_ss (v : Dword) : (s.loadCr3 v).ss = s.ss := rfl
@[simp] theorem loadCr3_ds (v : Dword) : (s.loadCr3 v).ds = s.ds := rfl
@[simp] theorem loadCr3_es (v : Dword) : (s.loadCr3 v).es = s.es := rfl
@[simp] theorem loadCr3_fs (v : Dword) : (s.loadCr3 v).fs = s.fs := rfl
@[simp] theorem loadCr3_gs (v : Dword) : (s.loadCr3 v).gs = s.gs := rfl
@[simp] theorem loadCr3_flags (v : Dword) : (s.loadCr3 v).flags = s.flags := rfl
@[simp] theorem loadCr3_cr0 (v : Dword) : (s.loadCr3 v).cr0 = s.cr0 := rfl
@[simp] theorem loadCr3_cr2 (v : Dword) : (s.loadCr3 v).cr2 = s.cr2 := rfl
@[simp] theorem loadCr3_gdtr (v : Dword) : (s.loadCr3 v).gdtr = s.gdtr := rfl
@[simp] theorem loadCr3_idtr (v : Dword) : (s.loadCr3 v).idtr = s.idtr := rfl
@[simp] theorem loadCr3_ldtr (v : Dword) : (s.loadCr3 v).ldtr = s.ldtr := rfl
@[simp] theorem loadCr3_tr (v : Dword) : (s.loadCr3 v).tr = s.tr := rfl
@[simp] theorem loadCr3_dr0 (v : Dword) : (s.loadCr3 v).dr0 = s.dr0 := rfl
@[simp] theorem loadCr3_dr1 (v : Dword) : (s.loadCr3 v).dr1 = s.dr1 := rfl
@[simp] theorem loadCr3_dr2 (v : Dword) : (s.loadCr3 v).dr2 = s.dr2 := rfl
@[simp] theorem loadCr3_dr3 (v : Dword) : (s.loadCr3 v).dr3 = s.dr3 := rfl
@[simp] theorem loadCr3_dr6 (v : Dword) : (s.loadCr3 v).dr6 = s.dr6 := rfl
@[simp] theorem loadCr3_dr7 (v : Dword) : (s.loadCr3 v).dr7 = s.dr7 := rfl
@[simp] theorem loadCr3_tr3 (v : Dword) : (s.loadCr3 v).tr3 = s.tr3 := rfl
@[simp] theorem loadCr3_tr4 (v : Dword) : (s.loadCr3 v).tr4 = s.tr4 := rfl
@[simp] theorem loadCr3_tr5 (v : Dword) : (s.loadCr3 v).tr5 = s.tr5 := rfl
@[simp] theorem loadCr3_tr6 (v : Dword) : (s.loadCr3 v).tr6 = s.tr6 := rfl
@[simp] theorem loadCr3_tr7 (v : Dword) : (s.loadCr3 v).tr7 = s.tr7 := rfl
@[simp] theorem loadCr3_fpu (v : Dword) : (s.loadCr3 v).fpu = s.fpu := rfl
@[simp] theorem loadCr3_cache (v : Dword) : (s.loadCr3 v).cache = s.cache := rfl
@[simp] theorem loadCr3_cacheBuf (v : Dword) : (s.loadCr3 v).cacheBuf = s.cacheBuf := rfl
@[simp] theorem loadCr3_cur (v : Dword) : (s.loadCr3 v).cur = s.cur := rfl
@[simp] theorem loadCr3_repeating (v : Dword) : (s.loadCr3 v).repeating = s.repeating := rfl
@[simp] theorem loadCr3_run (v : Dword) : (s.loadCr3 v).run = s.run := rfl
@[simp] theorem loadCr3_resetLatch (v : Dword) : (s.loadCr3 v).resetLatch = s.resetLatch := rfl
@[simp] theorem loadCr3_shadow (v : Dword) : (s.loadCr3 v).shadow = s.shadow := rfl
@[simp] theorem loadCr3_nmiPending (v : Dword) : (s.loadCr3 v).nmiPending = s.nmiPending := rfl
@[simp] theorem loadCr3_nmiBlocked (v : Dword) : (s.loadCr3 v).nmiBlocked = s.nmiBlocked := rfl
@[simp] theorem loadCr3_int9Pending (v : Dword) : (s.loadCr3 v).int9Pending = s.int9Pending := rfl
@[simp] theorem loadCr3_trap (v : Dword) : (s.loadCr3 v).trap = s.trap := rfl
@[simp] theorem loadCr3_stale (v : Dword) : (s.loadCr3 v).stale = s.stale := rfl
@[simp] theorem loadCr3_pins (v : Dword) : (s.loadCr3 v).pins = s.pins := rfl
@[simp] theorem loadCr3_portIn (v : Dword) : (s.loadCr3 v).portIn = s.portIn := rfl
@[simp] theorem loadCr3_portOut (v : Dword) : (s.loadCr3 v).portOut = s.portOut := rfl
@[simp] theorem loadCr3_oracle (v : Dword) : (s.loadCr3 v).oracle = s.oracle := rfl
@[simp] theorem loadCr3_mem (v : Dword) : (s.loadCr3 v).mem = s.mem := rfl

/-! ### flushPage -/

@[simp] theorem flushPage_cfg (lin : Nat) : (s.flushPage lin).cfg = s.cfg := rfl
@[simp] theorem flushPage_regs (lin : Nat) : (s.flushPage lin).regs = s.regs := rfl
@[simp] theorem flushPage_eip (lin : Nat) : (s.flushPage lin).eip = s.eip := rfl
@[simp] theorem flushPage_cs (lin : Nat) : (s.flushPage lin).cs = s.cs := rfl
@[simp] theorem flushPage_ss (lin : Nat) : (s.flushPage lin).ss = s.ss := rfl
@[simp] theorem flushPage_ds (lin : Nat) : (s.flushPage lin).ds = s.ds := rfl
@[simp] theorem flushPage_es (lin : Nat) : (s.flushPage lin).es = s.es := rfl
@[simp] theorem flushPage_fs (lin : Nat) : (s.flushPage lin).fs = s.fs := rfl
@[simp] theorem flushPage_gs (lin : Nat) : (s.flushPage lin).gs = s.gs := rfl
@[simp] theorem flushPage_flags (lin : Nat) : (s.flushPage lin).flags = s.flags := rfl
@[simp] theorem flushPage_cr0 (lin : Nat) : (s.flushPage lin).cr0 = s.cr0 := rfl
@[simp] theorem flushPage_cr2 (lin : Nat) : (s.flushPage lin).cr2 = s.cr2 := rfl
@[simp] theorem flushPage_cr3 (lin : Nat) : (s.flushPage lin).cr3 = s.cr3 := rfl
@[simp] theorem flushPage_gdtr (lin : Nat) : (s.flushPage lin).gdtr = s.gdtr := rfl
@[simp] theorem flushPage_idtr (lin : Nat) : (s.flushPage lin).idtr = s.idtr := rfl
@[simp] theorem flushPage_ldtr (lin : Nat) : (s.flushPage lin).ldtr = s.ldtr := rfl
@[simp] theorem flushPage_tr (lin : Nat) : (s.flushPage lin).tr = s.tr := rfl
@[simp] theorem flushPage_dr0 (lin : Nat) : (s.flushPage lin).dr0 = s.dr0 := rfl
@[simp] theorem flushPage_dr1 (lin : Nat) : (s.flushPage lin).dr1 = s.dr1 := rfl
@[simp] theorem flushPage_dr2 (lin : Nat) : (s.flushPage lin).dr2 = s.dr2 := rfl
@[simp] theorem flushPage_dr3 (lin : Nat) : (s.flushPage lin).dr3 = s.dr3 := rfl
@[simp] theorem flushPage_dr6 (lin : Nat) : (s.flushPage lin).dr6 = s.dr6 := rfl
@[simp] theorem flushPage_dr7 (lin : Nat) : (s.flushPage lin).dr7 = s.dr7 := rfl
@[simp] theorem flushPage_tr3 (lin : Nat) : (s.flushPage lin).tr3 = s.tr3 := rfl
@[simp] theorem flushPage_tr4 (lin : Nat) : (s.flushPage lin).tr4 = s.tr4 := rfl
@[simp] theorem flushPage_tr5 (lin : Nat) : (s.flushPage lin).tr5 = s.tr5 := rfl
@[simp] theorem flushPage_tr6 (lin : Nat) : (s.flushPage lin).tr6 = s.tr6 := rfl
@[simp] theorem flushPage_tr7 (lin : Nat) : (s.flushPage lin).tr7 = s.tr7 := rfl
@[simp] theorem flushPage_fpu (lin : Nat) : (s.flushPage lin).fpu = s.fpu := rfl
@[simp] theorem flushPage_cache (lin : Nat) : (s.flushPage lin).cache = s.cache := rfl
@[simp] theorem flushPage_cacheBuf (lin : Nat) : (s.flushPage lin).cacheBuf = s.cacheBuf := rfl
@[simp] theorem flushPage_cur (lin : Nat) : (s.flushPage lin).cur = s.cur := rfl
@[simp] theorem flushPage_repeating (lin : Nat) : (s.flushPage lin).repeating = s.repeating := rfl
@[simp] theorem flushPage_run (lin : Nat) : (s.flushPage lin).run = s.run := rfl
@[simp] theorem flushPage_resetLatch (lin : Nat) : (s.flushPage lin).resetLatch = s.resetLatch := rfl
@[simp] theorem flushPage_shadow (lin : Nat) : (s.flushPage lin).shadow = s.shadow := rfl
@[simp] theorem flushPage_nmiPending (lin : Nat) : (s.flushPage lin).nmiPending = s.nmiPending := rfl
@[simp] theorem flushPage_nmiBlocked (lin : Nat) : (s.flushPage lin).nmiBlocked = s.nmiBlocked := rfl
@[simp] theorem flushPage_int9Pending (lin : Nat) : (s.flushPage lin).int9Pending = s.int9Pending := rfl
@[simp] theorem flushPage_trap (lin : Nat) : (s.flushPage lin).trap = s.trap := rfl
@[simp] theorem flushPage_stale (lin : Nat) : (s.flushPage lin).stale = s.stale := rfl
@[simp] theorem flushPage_pins (lin : Nat) : (s.flushPage lin).pins = s.pins := rfl
@[simp] theorem flushPage_portIn (lin : Nat) : (s.flushPage lin).portIn = s.portIn := rfl
@[simp] theorem flushPage_portOut (lin : Nat) : (s.flushPage lin).portOut = s.portOut := rfl
@[simp] theorem flushPage_oracle (lin : Nat) : (s.flushPage lin).oracle = s.oracle := rfl
@[simp] theorem flushPage_mem (lin : Nat) : (s.flushPage lin).mem = s.mem := rfl

/-! ### loadCs86 -/

@[simp] theorem loadCs86_cfg (sel : Word) : (s.loadCs86 sel).cfg = s.cfg := rfl
@[simp] theorem loadCs86_regs (sel : Word) : (s.loadCs86 sel).regs = s.regs := rfl
@[simp] theorem loadCs86_eip (sel : Word) : (s.loadCs86 sel).eip = s.eip := rfl
@[simp] theorem loadCs86_ss (sel : Word) : (s.loadCs86 sel).ss = s.ss := rfl
@[simp] theorem loadCs86_ds (sel : Word) : (s.loadCs86 sel).ds = s.ds := rfl
@[simp] theorem loadCs86_es (sel : Word) : (s.loadCs86 sel).es = s.es := rfl
@[simp] theorem loadCs86_fs (sel : Word) : (s.loadCs86 sel).fs = s.fs := rfl
@[simp] theorem loadCs86_gs (sel : Word) : (s.loadCs86 sel).gs = s.gs := rfl
@[simp] theorem loadCs86_flags (sel : Word) : (s.loadCs86 sel).flags = s.flags := rfl
@[simp] theorem loadCs86_cr0 (sel : Word) : (s.loadCs86 sel).cr0 = s.cr0 := rfl
@[simp] theorem loadCs86_cr2 (sel : Word) : (s.loadCs86 sel).cr2 = s.cr2 := rfl
@[simp] theorem loadCs86_cr3 (sel : Word) : (s.loadCs86 sel).cr3 = s.cr3 := rfl
@[simp] theorem loadCs86_gdtr (sel : Word) : (s.loadCs86 sel).gdtr = s.gdtr := rfl
@[simp] theorem loadCs86_idtr (sel : Word) : (s.loadCs86 sel).idtr = s.idtr := rfl
@[simp] theorem loadCs86_ldtr (sel : Word) : (s.loadCs86 sel).ldtr = s.ldtr := rfl
@[simp] theorem loadCs86_tr (sel : Word) : (s.loadCs86 sel).tr = s.tr := rfl
@[simp] theorem loadCs86_dr0 (sel : Word) : (s.loadCs86 sel).dr0 = s.dr0 := rfl
@[simp] theorem loadCs86_dr1 (sel : Word) : (s.loadCs86 sel).dr1 = s.dr1 := rfl
@[simp] theorem loadCs86_dr2 (sel : Word) : (s.loadCs86 sel).dr2 = s.dr2 := rfl
@[simp] theorem loadCs86_dr3 (sel : Word) : (s.loadCs86 sel).dr3 = s.dr3 := rfl
@[simp] theorem loadCs86_dr6 (sel : Word) : (s.loadCs86 sel).dr6 = s.dr6 := rfl
@[simp] theorem loadCs86_dr7 (sel : Word) : (s.loadCs86 sel).dr7 = s.dr7 := rfl
@[simp] theorem loadCs86_tr3 (sel : Word) : (s.loadCs86 sel).tr3 = s.tr3 := rfl
@[simp] theorem loadCs86_tr4 (sel : Word) : (s.loadCs86 sel).tr4 = s.tr4 := rfl
@[simp] theorem loadCs86_tr5 (sel : Word) : (s.loadCs86 sel).tr5 = s.tr5 := rfl
@[simp] theorem loadCs86_tr6 (sel : Word) : (s.loadCs86 sel).tr6 = s.tr6 := rfl
@[simp] theorem loadCs86_tr7 (sel : Word) : (s.loadCs86 sel).tr7 = s.tr7 := rfl
@[simp] theorem loadCs86_fpu (sel : Word) : (s.loadCs86 sel).fpu = s.fpu := rfl
@[simp] theorem loadCs86_tlb (sel : Word) : (s.loadCs86 sel).tlb = s.tlb := rfl
@[simp] theorem loadCs86_cache (sel : Word) : (s.loadCs86 sel).cache = s.cache := rfl
@[simp] theorem loadCs86_cacheBuf (sel : Word) : (s.loadCs86 sel).cacheBuf = s.cacheBuf := rfl
@[simp] theorem loadCs86_cur (sel : Word) : (s.loadCs86 sel).cur = s.cur := rfl
@[simp] theorem loadCs86_repeating (sel : Word) : (s.loadCs86 sel).repeating = s.repeating := rfl
@[simp] theorem loadCs86_run (sel : Word) : (s.loadCs86 sel).run = s.run := rfl
@[simp] theorem loadCs86_shadow (sel : Word) : (s.loadCs86 sel).shadow = s.shadow := rfl
@[simp] theorem loadCs86_nmiPending (sel : Word) : (s.loadCs86 sel).nmiPending = s.nmiPending := rfl
@[simp] theorem loadCs86_nmiBlocked (sel : Word) : (s.loadCs86 sel).nmiBlocked = s.nmiBlocked := rfl
@[simp] theorem loadCs86_int9Pending (sel : Word) : (s.loadCs86 sel).int9Pending = s.int9Pending := rfl
@[simp] theorem loadCs86_trap (sel : Word) : (s.loadCs86 sel).trap = s.trap := rfl
@[simp] theorem loadCs86_stale (sel : Word) : (s.loadCs86 sel).stale = s.stale := rfl
@[simp] theorem loadCs86_pins (sel : Word) : (s.loadCs86 sel).pins = s.pins := rfl
@[simp] theorem loadCs86_portIn (sel : Word) : (s.loadCs86 sel).portIn = s.portIn := rfl
@[simp] theorem loadCs86_portOut (sel : Word) : (s.loadCs86 sel).portOut = s.portOut := rfl
@[simp] theorem loadCs86_oracle (sel : Word) : (s.loadCs86 sel).oracle = s.oracle := rfl
@[simp] theorem loadCs86_mem (sel : Word) : (s.loadCs86 sel).mem = s.mem := rfl

/-! ### noteByte -/

@[simp] theorem noteByte_cfg (b : Byte) : (s.noteByte b).cfg = s.cfg := rfl
@[simp] theorem noteByte_regs (b : Byte) : (s.noteByte b).regs = s.regs := rfl
@[simp] theorem noteByte_eip (b : Byte) : (s.noteByte b).eip = s.eip := rfl
@[simp] theorem noteByte_cs (b : Byte) : (s.noteByte b).cs = s.cs := rfl
@[simp] theorem noteByte_ss (b : Byte) : (s.noteByte b).ss = s.ss := rfl
@[simp] theorem noteByte_ds (b : Byte) : (s.noteByte b).ds = s.ds := rfl
@[simp] theorem noteByte_es (b : Byte) : (s.noteByte b).es = s.es := rfl
@[simp] theorem noteByte_fs (b : Byte) : (s.noteByte b).fs = s.fs := rfl
@[simp] theorem noteByte_gs (b : Byte) : (s.noteByte b).gs = s.gs := rfl
@[simp] theorem noteByte_flags (b : Byte) : (s.noteByte b).flags = s.flags := rfl
@[simp] theorem noteByte_cr0 (b : Byte) : (s.noteByte b).cr0 = s.cr0 := rfl
@[simp] theorem noteByte_cr2 (b : Byte) : (s.noteByte b).cr2 = s.cr2 := rfl
@[simp] theorem noteByte_cr3 (b : Byte) : (s.noteByte b).cr3 = s.cr3 := rfl
@[simp] theorem noteByte_gdtr (b : Byte) : (s.noteByte b).gdtr = s.gdtr := rfl
@[simp] theorem noteByte_idtr (b : Byte) : (s.noteByte b).idtr = s.idtr := rfl
@[simp] theorem noteByte_ldtr (b : Byte) : (s.noteByte b).ldtr = s.ldtr := rfl
@[simp] theorem noteByte_tr (b : Byte) : (s.noteByte b).tr = s.tr := rfl
@[simp] theorem noteByte_dr0 (b : Byte) : (s.noteByte b).dr0 = s.dr0 := rfl
@[simp] theorem noteByte_dr1 (b : Byte) : (s.noteByte b).dr1 = s.dr1 := rfl
@[simp] theorem noteByte_dr2 (b : Byte) : (s.noteByte b).dr2 = s.dr2 := rfl
@[simp] theorem noteByte_dr3 (b : Byte) : (s.noteByte b).dr3 = s.dr3 := rfl
@[simp] theorem noteByte_dr6 (b : Byte) : (s.noteByte b).dr6 = s.dr6 := rfl
@[simp] theorem noteByte_dr7 (b : Byte) : (s.noteByte b).dr7 = s.dr7 := rfl
@[simp] theorem noteByte_tr3 (b : Byte) : (s.noteByte b).tr3 = s.tr3 := rfl
@[simp] theorem noteByte_tr4 (b : Byte) : (s.noteByte b).tr4 = s.tr4 := rfl
@[simp] theorem noteByte_tr5 (b : Byte) : (s.noteByte b).tr5 = s.tr5 := rfl
@[simp] theorem noteByte_tr6 (b : Byte) : (s.noteByte b).tr6 = s.tr6 := rfl
@[simp] theorem noteByte_tr7 (b : Byte) : (s.noteByte b).tr7 = s.tr7 := rfl
@[simp] theorem noteByte_fpu (b : Byte) : (s.noteByte b).fpu = s.fpu := rfl
@[simp] theorem noteByte_tlb (b : Byte) : (s.noteByte b).tlb = s.tlb := rfl
@[simp] theorem noteByte_cache (b : Byte) : (s.noteByte b).cache = s.cache := rfl
@[simp] theorem noteByte_cacheBuf (b : Byte) : (s.noteByte b).cacheBuf = s.cacheBuf := rfl
@[simp] theorem noteByte_repeating (b : Byte) : (s.noteByte b).repeating = s.repeating := rfl
@[simp] theorem noteByte_run (b : Byte) : (s.noteByte b).run = s.run := rfl
@[simp] theorem noteByte_resetLatch (b : Byte) : (s.noteByte b).resetLatch = s.resetLatch := rfl
@[simp] theorem noteByte_shadow (b : Byte) : (s.noteByte b).shadow = s.shadow := rfl
@[simp] theorem noteByte_nmiPending (b : Byte) : (s.noteByte b).nmiPending = s.nmiPending := rfl
@[simp] theorem noteByte_nmiBlocked (b : Byte) : (s.noteByte b).nmiBlocked = s.nmiBlocked := rfl
@[simp] theorem noteByte_int9Pending (b : Byte) : (s.noteByte b).int9Pending = s.int9Pending := rfl
@[simp] theorem noteByte_trap (b : Byte) : (s.noteByte b).trap = s.trap := rfl
@[simp] theorem noteByte_stale (b : Byte) : (s.noteByte b).stale = s.stale := rfl
@[simp] theorem noteByte_pins (b : Byte) : (s.noteByte b).pins = s.pins := rfl
@[simp] theorem noteByte_portIn (b : Byte) : (s.noteByte b).portIn = s.portIn := rfl
@[simp] theorem noteByte_portOut (b : Byte) : (s.noteByte b).portOut = s.portOut := rfl
@[simp] theorem noteByte_oracle (b : Byte) : (s.noteByte b).oracle = s.oracle := rfl
@[simp] theorem noteByte_mem (b : Byte) : (s.noteByte b).mem = s.mem := rfl

/-! ### shutDown -/

@[simp] theorem shutDown_cfg : (s.shutDown).cfg = s.cfg := rfl
@[simp] theorem shutDown_regs : (s.shutDown).regs = s.regs := rfl
@[simp] theorem shutDown_eip : (s.shutDown).eip = s.eip := rfl
@[simp] theorem shutDown_cs : (s.shutDown).cs = s.cs := rfl
@[simp] theorem shutDown_ss : (s.shutDown).ss = s.ss := rfl
@[simp] theorem shutDown_ds : (s.shutDown).ds = s.ds := rfl
@[simp] theorem shutDown_es : (s.shutDown).es = s.es := rfl
@[simp] theorem shutDown_fs : (s.shutDown).fs = s.fs := rfl
@[simp] theorem shutDown_gs : (s.shutDown).gs = s.gs := rfl
@[simp] theorem shutDown_flags : (s.shutDown).flags = s.flags := rfl
@[simp] theorem shutDown_cr0 : (s.shutDown).cr0 = s.cr0 := rfl
@[simp] theorem shutDown_cr2 : (s.shutDown).cr2 = s.cr2 := rfl
@[simp] theorem shutDown_cr3 : (s.shutDown).cr3 = s.cr3 := rfl
@[simp] theorem shutDown_gdtr : (s.shutDown).gdtr = s.gdtr := rfl
@[simp] theorem shutDown_idtr : (s.shutDown).idtr = s.idtr := rfl
@[simp] theorem shutDown_ldtr : (s.shutDown).ldtr = s.ldtr := rfl
@[simp] theorem shutDown_tr : (s.shutDown).tr = s.tr := rfl
@[simp] theorem shutDown_dr0 : (s.shutDown).dr0 = s.dr0 := rfl
@[simp] theorem shutDown_dr1 : (s.shutDown).dr1 = s.dr1 := rfl
@[simp] theorem shutDown_dr2 : (s.shutDown).dr2 = s.dr2 := rfl
@[simp] theorem shutDown_dr3 : (s.shutDown).dr3 = s.dr3 := rfl
@[simp] theorem shutDown_dr6 : (s.shutDown).dr6 = s.dr6 := rfl
@[simp] theorem shutDown_dr7 : (s.shutDown).dr7 = s.dr7 := rfl
@[simp] theorem shutDown_tr3 : (s.shutDown).tr3 = s.tr3 := rfl
@[simp] theorem shutDown_tr4 : (s.shutDown).tr4 = s.tr4 := rfl
@[simp] theorem shutDown_tr5 : (s.shutDown).tr5 = s.tr5 := rfl
@[simp] theorem shutDown_tr6 : (s.shutDown).tr6 = s.tr6 := rfl
@[simp] theorem shutDown_tr7 : (s.shutDown).tr7 = s.tr7 := rfl
@[simp] theorem shutDown_fpu : (s.shutDown).fpu = s.fpu := rfl
@[simp] theorem shutDown_tlb : (s.shutDown).tlb = s.tlb := rfl
@[simp] theorem shutDown_cache : (s.shutDown).cache = s.cache := rfl
@[simp] theorem shutDown_cacheBuf : (s.shutDown).cacheBuf = s.cacheBuf := rfl
@[simp] theorem shutDown_resetLatch : (s.shutDown).resetLatch = s.resetLatch := rfl
@[simp] theorem shutDown_shadow : (s.shutDown).shadow = s.shadow := rfl
@[simp] theorem shutDown_nmiPending : (s.shutDown).nmiPending = s.nmiPending := rfl
@[simp] theorem shutDown_nmiBlocked : (s.shutDown).nmiBlocked = s.nmiBlocked := rfl
@[simp] theorem shutDown_int9Pending : (s.shutDown).int9Pending = s.int9Pending := rfl
@[simp] theorem shutDown_trap : (s.shutDown).trap = s.trap := rfl
@[simp] theorem shutDown_stale : (s.shutDown).stale = s.stale := rfl
@[simp] theorem shutDown_pins : (s.shutDown).pins = s.pins := rfl
@[simp] theorem shutDown_portIn : (s.shutDown).portIn = s.portIn := rfl
@[simp] theorem shutDown_portOut : (s.shutDown).portOut = s.portOut := rfl
@[simp] theorem shutDown_oracle : (s.shutDown).oracle = s.oracle := rfl
@[simp] theorem shutDown_mem : (s.shutDown).mem = s.mem := rfl

@[simp] theorem begin_eip : s.begin.eip = s.nextIp := rfl
@[simp] theorem begin_shadow : s.begin.shadow = .none := rfl

theorem setReg_regs {w : Nat} (r : Reg) (v : BitVec w) :
    (s.setReg r v).regs = s.regs.set r (mergeLow (s.regs.get r) v) := rfl

/-! ### Reading back general registers -/

@[simp] theorem Gpr.get_set_same (g : Gpr) (r : Reg) (v : Dword) : (g.set r v).get r = v := by cases r <;> rfl

theorem Gpr.get_set_other (g : Gpr) {q r : Reg} (v : Dword) (h : q ≠ r) : (g.set r v).get q = g.get q := by
  cases q <;> cases r <;> first | rfl | exact absurd rfl h

theorem Gpr.set_set_comm (g : Gpr) {q r : Reg} (u v : Dword) (h : q ≠ r) : (g.set q u).set r v = (g.set r v).set q u := by
  cases q <;> cases r <;> first | rfl | exact absurd rfl h

@[simp] theorem Gpr.set_set_same (g : Gpr) (r : Reg) (u v : Dword) : (g.set r u).set r v = g.set r v := by
  cases r <;> rfl

@[simp] theorem setSeg_seg_same (r : SReg) (v : SegReg) : (s.setSeg r v).seg r = v := by cases r <;> rfl

theorem setSeg_seg_other {q r : SReg} (v : SegReg) (h : q ≠ r) : (s.setSeg r v).seg q = s.seg q := by
  cases q <;> cases r <;> first | rfl | exact absurd rfl h

end Sys2Proof.Machine
end

