-- ==== Sys2Proof/Laws/Monad.lean ====
section
/-! SUPPORT. Computations applied to a state: how they go on after each kind of first step, so that no proof unfolds the
monad. -/
namespace Sys2Proof.Machine

variable {α β : Type} {s t u : State}

/-! ### Sequencing -/

/-- A sequence goes on from the value and the state its first part leaves, unless that part ended early. -/
theorem bind_apply (m : M α) (f : α → M β) (s : State) : (m >>= f) s = (m s).bind (fun r => f r.1 r.2) := rfl

theorem bind_ok {m : M α} {a : α} (h : m s = .ok (a, t)) (f : α → M β) : (m >>= f) s = f a t := by
  simp only [bind_apply, h, Except.bind]

theorem bind_error {m : M α} {e : Abort} (h : m s = .error e) (f : α → M β) : (m >>= f) s = .error e := by
  simp only [bind_apply, h, Except.bind]

/-- All that a sequence can do: its first part ends early and so does the whole, or the rest decides how it ends. -/
theorem bind_cases (m : M α) (f : α → M β) (s : State) :
    (∃ stop : Abort, m s = .error stop ∧ (m >>= f) s = .error stop) ∨
      ∃ done : α × State, m s = .ok done ∧ (m >>= f) s = f done.1 done.2 := by
  rcases start : m s with stop | done
  · exact .inl ⟨stop, rfl, bind_error start f⟩
  · exact .inr ⟨done, rfl, bind_ok start f⟩

@[simp] theorem pure_apply (a : α) (s : State) : (pure a : M α) s = .ok (a, s) := rfl
@[simp] theorem get_apply (s : State) : (get : M State) s = .ok (s, s) := rfl
@[simp] theorem set_apply (t s : State) : (set t : M PUnit) s = .ok (⟨⟩, t) := rfl
@[simp] theorem modify_apply (f : State → State) (s : State) : (modify f : M PUnit) s = .ok (⟨⟩, f s) := rfl

@[simp] theorem pure_bind_apply (a : α) (f : α → M β) (s : State) : ((pure a : M α) >>= f) s = f a s := rfl
@[simp] theorem get_bind_apply (f : State → M β) (s : State) : ((get : M State) >>= f) s = f s s := rfl
@[simp] theorem set_bind_apply (t : State) (f : PUnit → M β) (s : State) : ((set t : M PUnit) >>= f) s = f ⟨⟩ t := rfl
@[simp] theorem modify_bind_apply (g : State → State) (f : PUnit → M β) (s : State) :
    ((modify g : M PUnit) >>= f) s = f ⟨⟩ (g s) := rfl

@[simp] theorem bind_assoc_apply {γ : Type} (m : M α) (f : α → M β) (g : β → M γ) (s : State) :
    ((m >>= f) >>= g) s = (m >>= fun a => f a >>= g) s := by
  simp only [bind_apply]
  rcases m s with e | r <;> rfl

@[simp] theorem map_apply (f : α → β) (m : M α) (s : State) : (f <$> m) s = (m >>= fun a => pure (f a)) s := by
  simp only [bind_apply]
  rcases h : m s with e | r <;> simp [Functor.map, StateT.map, bind, h] <;> rfl

/-! ### Checks and early ends -/

@[simp] theorem check_true (e : M Unit) : check true e = pure () := rfl
@[simp] theorem check_false (e : M Unit) : check false e = e := rfl

theorem check_bind_ok {ok : Bool} (h : ok = true) (e : M Unit) (f : Unit → M β) (s : State) :
    (check ok e >>= f) s = f () s := by subst h; rfl

theorem check_bind_bad {ok : Bool} (h : ok = false) {e : M Unit} {a : Abort} (f : Unit → M β) (he : e s = .error a) :
    (check ok e >>= f) s = .error a := by subst h; exact bind_error he f

/-- A check completes exactly when its condition holds or what it would raise completes; it never changes the state. -/
theorem check_eq_ok {ok : Bool} {e : M Unit} (he : ∀ v, e s ≠ .ok v) {r : Unit × State} :
    check ok e s = .ok r ↔ ok = true ∧ r = ((), s) := by
  cases ok with
  | false => simp [he]
  | true => simp [eq_comm]

@[simp] theorem raise_apply (e : Exn) (s : State) : (raise e : M α) s = .error (.exn { e with oracle := s.oracle }) := rfl
@[simp] theorem gp0_apply (s : State) :
    (gp0 : M α) s = .error (.exn { Exn.fault 13 (some 0) with oracle := s.oracle }) := rfl
@[simp] theorem gpSel_apply (sel : Word) (s : State) :
    (gpSel sel : M α) s = .error (.exn { Exn.fault 13 (some (sel &&& 0xFFFC)) with oracle := s.oracle }) := rfl
@[simp] theorem faultSel_apply (vec : Byte) (sel : Word) (s : State) :
    (faultSel vec sel : M α) s = .error (.exn { Exn.fault vec (some (sel &&& 0xFFFC)) with oracle := s.oracle }) := rfl

theorem raise_bind (e : Exn) (f : α → M β) (s : State) :
    ((raise e : M α) >>= f) s = .error (.exn { e with oracle := s.oracle }) := bind_error rfl f

/-! ### Registers, flags, free values -/

@[simp] theorem getReg_apply (w : Nat) (r : Reg) (s : State) : getReg w r s = .ok (s.reg w r, s) := rfl
@[simp] theorem getReg8_apply (r : Reg8) (s : State) : getReg8 r s = .ok (s.reg8 r, s) := rfl
@[simp] theorem putReg_apply {w : Nat} (r : Reg) (v : BitVec w) (s : State) : putReg r v s = .ok ((), s.setReg r v) := rfl
@[simp] theorem putReg8_apply (r : Reg8) (v : Byte) (s : State) : putReg8 r v s = .ok ((), s.setReg8 r v) := rfl
@[simp] theorem setFlags_apply (f : Flags → Flags) (s : State) :
    setFlags f s = .ok ((), { s with flags := f s.flags }) := rfl
@[simp] theorem withFlags_apply (x : α × Flags) (s : State) :
    withFlags x s = .ok (x.1, { s with flags := x.2 }) := rfl
@[simp] theorem freeBits_apply (w : Nat) (s : State) :
    freeBits w s = .ok ((Config.free s.oracle).setWidth w, { s with oracle := s.oracle + 1 }) := rfl
theorem freeBool_apply (s : State) :
    freeBool s = .ok ((Config.free s.oracle).setWidth 1 == 1, { s with oracle := s.oracle + 1 }) := rfl
@[simp] theorem sized_apply (k : (w : Nat) → M α) (s : State) : sized k s = k s.opWidth s := rfl

/-- The operand size is 16 or 32. -/
theorem opWidth_cases (s : State) : s.opWidth = 16 ∨ s.opWidth = 32 := by
  unfold State.opWidth; split <;> simp

/-- So is the address size. -/
theorem addrWidth_cases (s : State) : s.addrWidth = 16 ∨ s.addrWidth = 32 := by
  unfold State.addrWidth; split <;> simp

end Sys2Proof.Machine
end

