-- ==== Sys2Proof/Laws/Memory.lean ====
section
/-! SUPPORT. Memory: reading after writing, the canonical form, and what the bus operations do to it. -/
namespace Sys2Proof.Machine

/-! ### The list of cells -/

/-- Every cell of a canonical memory lies above the bound. -/
theorem Memory.read_below {m : Memory} {lo a : Nat} (h : Memory.wfFrom (some lo) m = true) (ha : a ≤ lo) :
    Memory.read m a = Memory.blank := by
  induction m generalizing lo with
  | nil => rfl
  | cons c rest ih =>
    obtain ⟨k, v⟩ := c
    simp only [Memory.wfFrom, Bool.and_eq_true, decide_eq_true_eq] at h
    have hk : k ≠ a := by omega
    simp only [Memory.read, if_neg hk]
    exact ih h.2 (by omega)

/-- A looser bound. -/
theorem Memory.wfFrom_mono {m : Memory} {lo hi : Option Nat} (h : Memory.wfFrom hi m = true)
    (hl : ∀ b, lo = some b → ∃ c, hi = some c ∧ b ≤ c) : Memory.wfFrom lo m = true := by
  cases m with
  | nil => rfl
  | cons c rest =>
    obtain ⟨k, v⟩ := c
    simp only [Memory.wfFrom, Bool.and_eq_true] at h ⊢
    refine ⟨⟨?_, h.1.2⟩, h.2⟩
    cases lo with
    | none => rfl
    | some b =>
      obtain ⟨c, rfl, hc⟩ := hl b rfl
      have := h.1.1
      simp only [decide_eq_true_eq] at this ⊢
      omega

/-- A byte written reads back. -/
theorem Memory.read_write_same {m : Memory} {lo : Option Nat} (h : Memory.wfFrom lo m = true) (a : Nat) (v : Byte) :
    Memory.read (Memory.write m a v) a = v := by
  induction m generalizing lo with
  | nil =>
    by_cases hv : v = Memory.blank <;> simp [Memory.write, Memory.read, hv]
  | cons c rest ih =>
    obtain ⟨k, w⟩ := c
    simp only [Memory.wfFrom, Bool.and_eq_true] at h
    simp only [Memory.write]
    by_cases h1 : a < k
    · rw [if_pos h1]
      by_cases hv : v = Memory.blank
      · rw [if_pos hv]
        have hk : k ≠ a := by omega
        simp only [Memory.read, if_neg hk]
        rw [Memory.read_below h.2 (by omega), hv]
      · rw [if_neg hv]; simp [Memory.read]
    · rw [if_neg h1]
      by_cases h2 : a = k
      · rw [if_pos h2]
        by_cases hv : v = Memory.blank
        · rw [if_pos hv, h2, Memory.read_below h.2 (Nat.le_refl k), hv]
        · rw [if_neg hv]; simp [Memory.read]
      · rw [if_neg h2]
        have hk : k ≠ a := fun e => h2 e.symm
        simp only [Memory.read, if_neg hk]
        exact ih h.2

/-- Every other byte stays, whatever the form of the memory. -/
theorem Memory.read_write_other (m : Memory) {a b : Nat} (v : Byte) (h : b ≠ a) :
    Memory.read (Memory.write m a v) b = Memory.read m b := by
  induction m with
  | nil =>
    have ha : a ≠ b := fun e => h e.symm
    by_cases hv : v = Memory.blank <;> simp [Memory.write, Memory.read, hv, ha]
  | cons c rest ih =>
    obtain ⟨k, w⟩ := c
    have ha : a ≠ b := fun e => h e.symm
    simp only [Memory.write]
    split
    · split
      · rfl
      · simp [Memory.read, ha]
    · split
      · rename_i hk
        subst hk
        split <;> simp [Memory.read, ha]
      · simp only [Memory.read, ih]

/-- A write keeps the canonical form. -/
theorem Memory.wfFrom_write {m : Memory} {lo : Option Nat} (h : Memory.wfFrom lo m = true) {a : Nat} (v : Byte)
    (ha : ∀ b, lo = some b → b < a) : Memory.wfFrom lo (Memory.write m a v) = true := by
  induction m generalizing lo with
  | nil =>
    simp only [Memory.write]
    split
    · rfl
    · rename_i hv
      cases lo with
      | none => simp [Memory.wfFrom, hv]
      | some b => simp [Memory.wfFrom, hv, ha b rfl]
  | cons c rest ih =>
    obtain ⟨k, w⟩ := c
    have h' := h
    simp only [Memory.wfFrom, Bool.and_eq_true] at h
    simp only [Memory.write]
    split
    · split
      · exact h'
      · rename_i hk hv
        simp only [Memory.wfFrom, Bool.and_eq_true, decide_eq_true_eq]
        refine ⟨⟨?_, by simpa using hv⟩, ⟨hk, h.1.2⟩, h.2⟩
        cases lo with
        | none => rfl
        | some b => simpa using ha b rfl
    · split
      · rename_i hk
        subst hk
        split
        · exact Memory.wfFrom_mono h.2 fun b hb => ⟨a, rfl, by have := ha b hb; omega⟩
        · rename_i hv
          simp only [Memory.wfFrom, Bool.and_eq_true]
          exact ⟨⟨h.1.1, by simpa using hv⟩, h.2⟩
      · rename_i h1 h2
        simp only [Memory.wfFrom, Bool.and_eq_true]
        refine ⟨h.1, ih h.2 fun b hb => ?_⟩
        simp only [Option.some.injEq] at hb
        omega

/-- A write keeps the canonical form of a whole memory. -/
theorem Memory.wf_write {m : Memory} (h : Memory.wf m = true) (a : Nat) (v : Byte) :
    Memory.wf (Memory.write m a v) = true := Memory.wfFrom_write h v (by simp)

/-- The machine after reset has a canonical memory. -/
theorem reset_memory_wf : Memory.wf State.reset.mem = true := rfl

end Sys2Proof.Machine
end

