-- ==== Sys2Proof/Laws/Access.lean ====
section
/-! SUPPORT. One lemma for each way to memory where paging is off and no cache is modelled: what reading, writing and
updating an object do there. -/
namespace Sys2Proof.Machine

variable {s t : State}

/-! ### What a memory operation leaves alone -/

/-- The matches an access records. -/
def State.touch (s : State) (r : SReg) (k : AccessKind) (off : Dword) (n : Nat) : State :=
  s.recordMatches (s.linear r off.toNat) n k

/-- One byte stored. -/
def State.storeByte (s : State) (a : Nat) (v : Byte) : State :=
  { s.noteStore a v with mem := Memory.write s.mem a v }

/-- Bytes stored in turn. -/
def State.storeBytes (s : State) : List Nat → List Byte → State
  | a :: as, b :: bs => (s.storeByte a b).storeBytes as bs
  | _, _ => s

/-- A value stored at an offset. -/
def State.put {w : Nat} (s : State) (r : SReg) (off : Dword) (v : BitVec w) : State :=
  s.storeBytes ((List.range (w / 8)).map (s.placeAt r off)) (valueBytes v)

/-- `t` is `s` but for memory, the debug matches and the prefetch queue's old bytes. -/
def State.SameButMem (s t : State) : Prop := t = { s with mem := t.mem, trap := t.trap, stale := t.stale }

theorem State.SameButMem.refl (s : State) : s.SameButMem s := rfl

theorem State.SameButMem.trans {s t u : State} (h : s.SameButMem t) (k : t.SameButMem u) : s.SameButMem u := by
  unfold State.SameButMem at *
  rw [k, h]

theorem touch_same (s : State) (r : SReg) (k : AccessKind) (off : Dword) (n : Nat) :
    s.SameButMem (s.touch r k off n) := by
  unfold State.SameButMem State.touch State.recordMatches; split <;> rfl

@[simp] theorem touch_mem (s : State) (r : SReg) (k : AccessKind) (off : Dword) (n : Nat) :
    (s.touch r k off n).mem = s.mem := by
  unfold State.touch State.recordMatches; split <;> rfl

@[simp] theorem touch_stale (s : State) (r : SReg) (k : AccessKind) (off : Dword) (n : Nat) :
    (s.touch r k off n).stale = s.stale := by
  unfold State.touch State.recordMatches; split <;> rfl

theorem storeByte_same (s : State) (a : Nat) (v : Byte) : s.SameButMem (s.storeByte a v) := by
  unfold State.SameButMem State.storeByte State.noteStore; dsimp only; split <;> rfl

@[simp] theorem storeByte_mem (s : State) (a : Nat) (v : Byte) : (s.storeByte a v).mem = Memory.write s.mem a v := rfl

theorem storeBytes_same (s : State) (as : List Nat) (bs : List Byte) : s.SameButMem (s.storeBytes as bs) := by
  induction as generalizing s bs with
  | nil => cases bs <;> exact .refl s
  | cons a as ih =>
    cases bs with
    | nil => exact .refl s
    | cons b bs => exact (storeByte_same s a b).trans (ih _ _)

theorem put_same {w : Nat} (s : State) (r : SReg) (off : Dword) (v : BitVec w) : s.SameButMem (s.put r off v) :=
  storeBytes_same s _ _

theorem storeBytes_trap (s : State) (as : List Nat) (bs : List Byte) : (s.storeBytes as bs).trap = s.trap := by
  induction as generalizing s bs with
  | nil => cases bs <;> rfl
  | cons a as ih =>
    cases bs with
    | nil => rfl
    | cons b bs =>
      rw [State.storeBytes, ih]
      unfold State.storeByte State.noteStore; dsimp only; split <;> rfl

/-! ### What a state must agree on for an access to go the same way -/

/-- `t` goes to memory as `s` does: same processor, modes, segments and alignment rule. -/
structure State.SameWay (s t : State) : Prop where
  cfg : t.cfg = s.cfg
  cr0 : t.cr0 = s.cr0
  cr3 : t.cr3 = s.cr3
  seg : ∀ r, t.seg r = s.seg r
  ac : t.flags.ac = s.flags.ac
  vm : t.flags.vm = s.flags.vm
  latch : t.resetLatch = s.resetLatch

theorem State.SameButMem.way {s t : State} (h : s.SameButMem t) : s.SameWay t := by
  unfold State.SameButMem at h
  rw [h]
  exact ⟨rfl, rfl, rfl, fun r => by cases r <;> rfl, rfl, rfl, rfl⟩

theorem begin_way (s : State) : s.SameWay s.begin := ⟨rfl, rfl, rfl, fun r => by cases r <;> rfl, rfl, rfl, rfl⟩

theorem State.SameWay.refl (s : State) : s.SameWay s := ⟨rfl, rfl, rfl, fun _ => rfl, rfl, rfl, rfl⟩

theorem State.SameWay.trans {s t u : State} (h : s.SameWay t) (k : t.SameWay u) : s.SameWay u :=
  ⟨k.cfg.trans h.cfg, k.cr0.trans h.cr0, k.cr3.trans h.cr3, fun r => (k.seg r).trans (h.seg r), k.ac.trans h.ac,
    k.vm.trans h.vm, k.latch.trans h.latch⟩

theorem setReg_way {w : Nat} (s : State) (r : Reg) (v : BitVec w) : s.SameWay (s.setReg r v) :=
  ⟨rfl, rfl, rfl, fun r => by cases r <;> rfl, rfl, rfl, rfl⟩

namespace State.SameWay

theorem level (h : s.SameWay t) : t.level = s.level := by unfold State.level; rw [h.cfg]
theorem real (h : s.SameWay t) : t.real = s.real := by unfold State.real; rw [h.cr0]
theorem prot (h : s.SameWay t) : t.prot = s.prot := by unfold State.prot; rw [h.cr0, h.vm]
theorem v86 (h : s.SameWay t) : t.v86 = s.v86 := by unfold State.v86; rw [h.cr0, h.vm]
theorem cpl (h : s.SameWay t) : t.cpl = s.cpl := by
  have hc : t.cs = s.cs := h.seg .cs
  unfold State.cpl; rw [h.cr0, h.vm, hc]
theorem cacheOn (h : s.SameWay t) : t.cacheOn = s.cacheOn := by unfold State.cacheOn State.level; rw [h.cfg]
theorem linear (h : s.SameWay t) (r : SReg) (o : Nat) : t.linear r o = s.linear r o := by
  unfold State.linear; rw [h.level, h.real, h.seg r, h.latch]
theorem addressLines (h : s.SameWay t) : t.addressLines = s.addressLines := by
  unfold State.addressLines; rw [h.level, h.real, h.latch, h.cfg]
theorem physical (h : s.SameWay t) (a : Nat) : t.physical a = s.physical a := by
  unfold State.physical; rw [h.addressLines, h.level, h.cfg]
theorem placeAt (h : s.SameWay t) (r : SReg) (off : Dword) (i : Nat) : t.placeAt r off i = s.placeAt r off i := by
  unfold State.placeAt
  simp only [h.level, h.physical, h.linear]
theorem stack32 (h : s.SameWay t) : t.stack32 = s.stack32 := by
  have hs : t.ss = s.ss := h.seg .ss
  unfold State.stack32; rw [h.level, h.prot, hs]

/-- An access that one state allows the other allows too. -/
theorem reaches (h : s.SameWay t) (hm : t.memoryOk = s.memoryOk) (r : SReg) (k : AccessKind) (off : Dword) (n b : Nat) :
    t.reaches r k off n b = s.reaches r k off n b := by
  unfold State.reaches State.flat State.segOk State.aligned State.mapped
  simp only [h.level, h.cr0, h.cacheOn, hm, h.seg r, h.ac, h.cpl, h.linear, h.placeAt, h.cfg]

theorem memBytes (h : s.SameWay t) (hm : t.mem = s.mem) (r : SReg) (off : Dword) (n : Nat) :
    t.memBytes r off n = s.memBytes r off n := by
  unfold State.memBytes; simp only [h.placeAt, hm]

theorem memVal (h : s.SameWay t) (hm : t.mem = s.mem) (w : Nat) (r : SReg) (off : Dword) :
    t.memVal w r off = s.memVal w r off := by
  unfold State.memVal; rw [h.memBytes hm]

end State.SameWay

/-! ### Single bytes -/

theorem readPhys_flat (hc : s.cacheOn = false) {a : Nat} (hm : s.mapped .read a = true) (pcd : Bool) :
    readPhys pcd a s = .ok (Memory.read s.mem a, s) := by
  unfold State.mapped at hm
  unfold readPhys readMemory
  simp only [get_bind_apply, hc, Bool.not_false, if_true]
  cases hk : s.cfg.regionKind a <;> simp_all

theorem writePhys_flat (hc : s.cacheOn = false) {a : Nat} (hm : s.mapped .write a = true) (v : Byte) :
    writePhys a v s = .ok ((), s.storeByte a v) := by
  have hn : s.cfg.regionKind a = .ram := by
    unfold State.mapped at hm
    cases hk : s.cfg.regionKind a <;> simp_all [AccessKind.writes]
  have hc' : (s.storeByte a v).cacheOn = false := by rw [(storeByte_same s a v).way.cacheOn, hc]
  unfold writePhys writeMemory
  simp only [modify_bind_apply, modify_apply, hn]
  have hsb : ({ s.noteStore a v with mem := Memory.write (s.noteStore a v).mem a v } : State) = s.storeByte a v := by
    unfold State.storeByte; rw [noteStore_mem]
  rw [hsb]
  simp [hc']

/-! ### Places -/

theorem readPlaces_flat (hc : s.cacheOn = false) (pcd : Bool) :
    ∀ as : List Nat, (∀ a ∈ as, s.mapped .read a = true) →
      readPlaces (as.map fun a => { addr := a, pcd := pcd }) s = .ok (as.map (Memory.read s.mem), s)
  | [], _ => rfl
  | a :: as, h => by
    simp only [List.map_cons, readPlaces]
    rw [bind_ok (readPhys_flat hc (h a (by simp)) pcd),
      bind_ok (readPlaces_flat hc pcd as fun b hb => h b (by simp [hb]))]
    rfl

theorem writePlaces_flat (pcd : Bool) :
    ∀ (as : List Nat) (bs : List Byte) (s : State), s.cacheOn = false → (∀ a ∈ as, s.mapped .write a = true) →
      writePlaces (as.map fun a => { addr := a, pcd := pcd }) bs s = .ok ((), s.storeBytes as bs)
  | [], bs, s, _, _ => by cases bs <;> rfl
  | a :: as, [], s, _, _ => rfl
  | a :: as, b :: bs, s, hc, h => by
    simp only [List.map_cons, writePlaces, State.storeBytes]
    rw [bind_ok (writePhys_flat hc (h a (by simp)) b)]
    have hw := (storeByte_same s a b).way
    refine writePlaces_flat pcd as bs _ (by rw [hw.cacheOn, hc]) fun a' ha => ?_
    have := h a' (by simp [ha])
    unfold State.mapped at this ⊢
    rw [hw.cfg]; exact this

/-- The places of an access. -/
theorem placesOf_flat (hf : s.flat = true) (r : SReg) (k : AccessKind) (off : Dword) (n : Nat) :
    placesOf r k off.toNat n s =
      .ok (((List.range n).map (s.placeAt r off)).map fun a => { addr := a, pcd := s.pcdOf s.cr3 }, s) := by
  unfold State.flat at hf
  simp only [Bool.and_eq_true, Bool.or_eq_true, Bool.not_eq_true', decide_eq_true_eq] at hf
  unfold placesOf
  simp only [get_bind_apply]
  by_cases hl : s.level < 3
  · have hp : s.pcdOf s.cr3 = false := by
      unfold State.pcdOf
      have : ¬ s.level = 4 := by omega
      simp [this]
    rw [if_pos hl, hp]
    simp only [pure_apply, List.map_map]
    congr 2
    apply List.map_congr_left
    intro i _
    simp only [Function.comp, State.placeAt]
    by_cases h0 : s.level = 0 <;> simp [h0, hl]
  · rw [if_neg hl]
    have hpg : s.cr0.pg = false := by
      rcases hf.1.1 with h | h
      · exact h
      · exact absurd h hl
    unfold translate
    simp only [get_bind_apply, hpg, Bool.not_false, if_true, pure_apply, List.map_map]
    congr 2
    apply List.map_congr_left
    intro i _
    have h0 : ¬ s.level = 0 := by omega
    simp [Function.comp, State.placeAt, h0, hl]

/-! ### The access itself -/

/-- An access that is allowed: it records debug matches and finds its bytes. -/
theorem access_flat {r : SReg} {k : AccessKind} {off : Dword} {n b : Nat} (h : s.reaches r k off n b = true) :
    access r k off n b s =
      .ok (((List.range n).map (s.placeAt r off)).map fun a => { addr := a, pcd := s.pcdOf s.cr3 },
        s.touch r k off n) := by
  unfold State.reaches at h
  simp only [Bool.and_eq_true] at h
  obtain ⟨⟨⟨hf, hs⟩, ha⟩, _⟩ := h
  have hseg : segCheck r k off.toNat n s = .ok ((), s) := by
    unfold segCheck
    simp only [get_bind_apply]
    unfold State.segOk at hs
    by_cases h0 : s.level = 0
    · simp [h0]
    · simp only [h0, decide_false, Bool.false_or, Bool.and_eq_true] at hs
      rw [if_neg h0, check_bind_ok hs.1.1, check_bind_ok hs.1.2, hs.2]
      rfl
  have hal : alignCheck (s.linear r off.toNat) b s = .ok ((), s) := by
    unfold alignCheck State.aligned at *
    simp only [get_bind_apply]
    rw [ha]; rfl
  have hw : s.SameWay (s.touch r k off n) := (touch_same s r k off n).way
  have hcache : (s.touch r k off n).cacheOn = false := by
    rw [hw.cacheOn]
    unfold State.flat at hf
    simp only [Bool.and_eq_true, Bool.not_eq_true'] at hf
    exact hf.1.2
  have hdis : disturbCacheTest (s.touch r k off n) = .ok ((), s.touch r k off n) := by
    unfold disturbCacheTest
    simp [hcache]
  have hft : (s.touch r k off n).flat = true := by
    unfold State.flat at hf ⊢
    unfold State.memoryOk at hf ⊢
    rw [hw.cr0, hw.level, hw.cacheOn, touch_mem]; exact hf
  unfold access
  rw [bind_ok hseg, get_bind_apply, bind_ok hal, modify_bind_apply]
  show (disturbCacheTest >>= fun _ => placesOf r k off.toNat n) (s.touch r k off n) = _
  rw [bind_ok hdis, placesOf_flat hft]
  rw [funext (hw.placeAt r off)]
  have hp : (s.touch r k off n).pcdOf (s.touch r k off n).cr3 = s.pcdOf s.cr3 := by
    unfold State.pcdOf; rw [hw.level, hw.cr3]
  rw [hp]

theorem reaches_cacheOff {r : SReg} {k : AccessKind} {off : Dword} {n b : Nat} (h : s.reaches r k off n b = true) :
    s.cacheOn = false := by
  unfold State.reaches State.flat at h
  simp only [Bool.and_eq_true, Bool.not_eq_true'] at h
  exact h.1.1.1.1.2

theorem reaches_memoryOk {r : SReg} {k : AccessKind} {off : Dword} {n b : Nat} (h : s.reaches r k off n b = true) :
    Memory.wf s.mem = true := by
  unfold State.reaches State.flat at h
  simp only [Bool.and_eq_true] at h
  exact h.1.1.1.2

theorem reaches_mapped {r : SReg} {k : AccessKind} {off : Dword} {n b : Nat} (h : s.reaches r k off n b = true) :
    ∀ a ∈ (List.range n).map (s.placeAt r off), s.mapped k a = true := by
  unfold State.reaches at h
  simp only [Bool.and_eq_true, List.all_eq_true] at h
  intro a ha
  obtain ⟨i, hi, rfl⟩ := List.mem_map.mp ha
  exact h.2 i hi

theorem mapped_of_way (h : s.SameWay t) (k : AccessKind) (a : Nat) : t.mapped k a = s.mapped k a := by
  unfold State.mapped; rw [h.cfg]

/-- A place that may be updated may be read and written. -/
theorem mapped_update (a : Nat) (h : s.mapped .update a = true) : s.mapped .read a = true ∧ s.mapped .write a = true := by
  unfold State.mapped at *
  cases hk : s.cfg.regionKind a <;> simp_all [AccessKind.writes]

/-! ### Reading, writing and updating objects -/

/-- READING BYTES. -/
theorem readBytes_flat {r : SReg} {off : Dword} {n b : Nat} (h : s.reaches r .read off n b = true) :
    readBytes r off n b s = .ok (s.memBytes r off n, s.touch r .read off n) := by
  have hw := (touch_same s r .read off n).way
  unfold readBytes
  rw [bind_ok (access_flat h), readPlaces_flat (by rw [hw.cacheOn]; exact reaches_cacheOff h)]
  · simp [State.memBytes, Function.comp]
  · intro a ha
    rw [mapped_of_way hw]
    exact reaches_mapped h a ha

/-- READING a value of any alignment. -/
theorem readItem_flat {w b : Nat} {r : SReg} {off : Dword} (h : s.reaches r .read off (w / 8) b = true) :
    readItem w b r off s = .ok (s.memVal w r off, s.touch r .read off (w / 8)) := by
  unfold readItem
  rw [bind_ok (readBytes_flat h)]
  rfl

/-- READING a value. -/
theorem readMem_flat {w : Nat} {r : SReg} {off : Dword} (h : s.reaches r .read off (w / 8) (w / 8) = true) :
    readMem w r off s = .ok (s.memVal w r off, s.touch r .read off (w / 8)) := readItem_flat h

/-- WRITING BYTES. -/
theorem writeBytes_flat {r : SReg} {off : Dword} {bs : List Byte} {b : Nat}
    (h : s.reaches r .write off bs.length b = true) :
    writeBytes r off bs b s =
      .ok ((), (s.touch r .write off bs.length).storeBytes ((List.range bs.length).map (s.placeAt r off)) bs) := by
  have hw := (touch_same s r .write off bs.length).way
  unfold writeBytes
  rw [bind_ok (access_flat h), writePlaces_flat _ _ _ _ (by rw [hw.cacheOn]; exact reaches_cacheOff h)]
  intro a ha
  rw [mapped_of_way hw]
  exact reaches_mapped h a ha

@[simp] theorem natBytes_length (n v : Nat) : (natBytes n v).length = n := by
  induction n generalizing v with
  | zero => rfl
  | succ n ih => simp [natBytes, ih]

@[simp] theorem valueBytes_length {w : Nat} (v : BitVec w) : (valueBytes v).length = w / 8 := natBytes_length _ _

/-- WRITING a value of any alignment. -/
theorem writeItem_flat {w b : Nat} {r : SReg} {off : Dword} (v : BitVec w)
    (h : s.reaches r .write off (w / 8) b = true) :
    writeBytes r off (valueBytes v) b s = .ok ((), (s.touch r .write off (w / 8)).put r off v) := by
  have hw := (touch_same s r .write off (w / 8)).way
  rw [writeBytes_flat (by rw [valueBytes_length]; exact h)]
  unfold State.put
  simp only [valueBytes_length, funext (hw.placeAt r off)]

/-- WRITING a value. -/
theorem writeMem_flat {w : Nat} {r : SReg} {off : Dword} (v : BitVec w)
    (h : s.reaches r .write off (w / 8) (w / 8) = true) :
    writeMem r off v s = .ok ((), (s.touch r .write off (w / 8)).put r off v) := writeItem_flat v h

/-- UPDATING a value of any alignment: read, computed (whatever the computation changes but the way to memory), written. -/
theorem updateItem_flat {w b : Nat} {r : SReg} {off : Dword} {f : BitVec w → M (BitVec w)} {v : BitVec w}
    (h : s.reaches r .update off (w / 8) b = true)
    (hf : f (s.memVal w r off) (s.touch r .update off (w / 8)) = .ok (v, t)) (ht : s.SameWay t) :
    updateItem w b r off f s = .ok ((), t.put r off v) := by
  have hw := (touch_same s r .update off (w / 8)).way
  have hm := reaches_mapped h
  unfold updateItem
  rw [bind_ok (access_flat h), bind_ok (readPlaces_flat (by rw [hw.cacheOn]; exact reaches_cacheOff h) _ _ fun a ha => by
    rw [mapped_of_way hw]; exact (mapped_update a (hm a ha)).1)]
  have hb : leValue w (((List.range (w / 8)).map (s.placeAt r off)).map (Memory.read (s.touch r .update off (w / 8)).mem)) =
      s.memVal w r off := by
    rw [touch_mem, List.map_map]; rfl
  rw [hb, bind_ok hf]
  rw [writePlaces_flat _ _ _ _ (by rw [ht.cacheOn]; exact reaches_cacheOff h) fun a ha => by
    rw [mapped_of_way ht]; exact (mapped_update a (hm a ha)).2]
  unfold State.put
  simp only [funext (ht.placeAt r off)]

/-- UPDATING a value. -/
theorem memUpdate_flat {w : Nat} {r : SReg} {off : Dword} {f : BitVec w → M (BitVec w)} {v : BitVec w}
    (h : s.reaches r .update off (w / 8) (w / 8) = true)
    (hf : f (s.memVal w r off) (s.touch r .update off (w / 8)) = .ok (v, t)) (ht : s.SameWay t) :
    memUpdate w r off f s = .ok ((), t.put r off v) := updateItem_flat h hf ht

/-- An update whose computation ends early. -/
theorem updateItem_flat_error {w b : Nat} {r : SReg} {off : Dword} {f : BitVec w → M (BitVec w)} {e : Abort}
    (h : s.reaches r .update off (w / 8) b = true)
    (hf : f (s.memVal w r off) (s.touch r .update off (w / 8)) = .error e) : updateItem w b r off f s = .error e := by
  have hw := (touch_same s r .update off (w / 8)).way
  have hm := reaches_mapped h
  unfold updateItem
  rw [bind_ok (access_flat h), bind_ok (readPlaces_flat (by rw [hw.cacheOn]; exact reaches_cacheOff h) _ _ fun a ha => by
    rw [mapped_of_way hw]; exact (mapped_update a (hm a ha)).1)]
  have hb : leValue w (((List.range (w / 8)).map (s.placeAt r off)).map (Memory.read (s.touch r .update off (w / 8)).mem)) =
      s.memVal w r off := by
    rw [touch_mem, List.map_map]; rfl
  rw [hb]
  exact bind_error hf _

theorem memUpdate_flat_error {w : Nat} {r : SReg} {off : Dword} {f : BitVec w → M (BitVec w)} {e : Abort}
    (h : s.reaches r .update off (w / 8) (w / 8) = true)
    (hf : f (s.memVal w r off) (s.touch r .update off (w / 8)) = .error e) : memUpdate w r off f s = .error e :=
  updateItem_flat_error h hf

/-! ### The stack -/

/-- PUSHING an item. -/
theorem pushItem_flat {w b : Nat} (v : BitVec w)
    (h : s.reaches .ss .write (s.stackOff (s.sp - BitVec.ofNat 32 (w / 8))) (w / 8) b = true) :
    pushItem b v s =
      .ok ((), ((s.touch .ss .write (s.stackOff (s.sp - BitVec.ofNat 32 (w / 8))) (w / 8)).put .ss
        (s.stackOff (s.sp - BitVec.ofNat 32 (w / 8))) v).setSp (s.stackOff (s.sp - BitVec.ofNat 32 (w / 8)))) := by
  unfold pushItem
  rw [get_bind_apply, bind_ok (writeItem_flat v h)]
  rfl

/-- POPPING an item. -/
theorem popItem_flat {w b : Nat} (h : s.reaches .ss .read s.sp (w / 8) b = true) :
    popItem w b s =
      .ok (s.memVal w .ss s.sp,
        let t := s.touch .ss .read s.sp (w / 8)
        t.setSp (t.stackOff (t.sp + BitVec.ofNat 32 (w / 8)))) := by
  unfold popItem
  rw [get_bind_apply, bind_ok (readItem_flat h)]
  rfl

end Sys2Proof.Machine
end

