-- ==== Sys2Proof/Laws/CacheTest.lean ====
section
/-! SUPPORT. The cache test registers (spec/22_paging_cache.md R225 to R227): the sets after one is replaced, the bits of
TR4, and all that the read command of TR5 does. -/
namespace Sys2Proof.Machine

/-- A set that was put is found, and every other set is as it was. -/
theorem cacheGet_cachePut (l : List (Nat × CacheSet)) (a b : Nat) (v : CacheSet) :
    cacheGet (cachePut l a v) b = if b = a then v else cacheGet l b := by
  induction l with
  | nil => simp only [cachePut, cacheGet, eq_comm]
  | cons p rest ih =>
    obtain ⟨k, w⟩ := p
    simp only [cachePut]
    split
    · simp only [cacheGet, eq_comm]
    · split
      · subst k
        simp only [cacheGet, eq_comm]
        split <;> rfl
      · simp only [cacheGet, ih]
        grind

/-- A bit of a word with one bit. -/
theorem bitAt_getElem (b : Bool) (n i : Nat) (h : i < 32) : (bitAt b n)[i] = (b && decide (i = n)) := by
  cases b
  · simp [bitAt]
  · simp only [bitAt, if_true, BitVec.getElem_shiftLeft, Bool.true_and]
    grind

/-- The LRU bits as a number, r2 highest. -/
theorem Lru.bits_getElem (l : Lru) : l.bits[0] = l.r0 ∧ l.bits[1] = l.r1 ∧ l.bits[2] = l.r2 := by
  obtain ⟨r0, r1, r2⟩ := l
  cases r0 <;> cases r1 <;> cases r2 <;> decide

/-- The valid bit, the LRU bits and the valid bits of the set in TR4 (R226). -/
theorem tr4Of_bits (c : CacheSet) (w : Fin 4) :
    (tr4Of c w).getLsbD 10 = c.ways[w].valid ∧ (tr4Of c w).getLsbD 9 = c.lru.r2 ∧
      (tr4Of c w).getLsbD 8 = c.lru.r1 ∧ (tr4Of c w).getLsbD 7 = c.lru.r0 ∧
      ∀ q : Fin 4, (tr4Of c w).getLsbD (3 + q.val) = c.ways[q].valid := by
  refine ⟨?_, ?_, ?_, ?_, fun q => ?_⟩
  on_goal 5 => obtain ⟨q, hq⟩ := q; interval_cases q
  all_goals simp [tr4Of, bitAt_getElem, Lru.bits_getElem]

/-- The tag in TR4 (R226). -/
theorem tr4Of_tag (c : CacheSet) (w : Fin 4) : (tr4Of c w).extractLsb' 11 21 = c.ways[w].tag := by
  ext i hi
  simp [tr4Of, bitAt_getElem, show 11 + i < 32 by omega]
  grind

/-- All that the read command of TR5 does (R226, R227): the line goes to the auxiliary register and TR4; by a free choice
it counts as a use of the way, and by another TR4 shows the LRU bits after that use (log 28). -/
theorem cacheCommand_read (v : Dword) (s : State) (h : (v.extractLsb' 0 2).toNat = 2) :
    let n := (v.extractLsb' 4 7).toNat
    let way : Fin 4 := ⟨(v.extractLsb' 2 2).toNat % 4, Nat.mod_lt _ (by decide)⟩
    let c := cacheGet s.cache n
    let used : CacheSet := { c with lru := c.lru.touch way }
    ∃ use late : Bool, cacheCommand v s = .ok ((),
      { s with
        oracle := s.oracle + 2, cacheBuf := c.ways[way].data, tr4 := tr4Of (if use && late then used else c) way
        cache := if use then cachePut s.cache n used else s.cache }) := by
  refine ⟨(Config.free s.oracle).setWidth 1 == 1, (Config.free (s.oracle + 1)).setWidth 1 == 1, ?_⟩
  simp only [cacheCommand, get_bind_apply, h, bind_ok (freeBool_apply _), modify_apply]

end Sys2Proof.Machine
end

