-- ==== Sys2Proof/Laws/Flags.lean ====
section
/-! SUPPORT. What the flag computations say, by exact arithmetic. -/
namespace Sys2Proof.Machine

/-- The flags of a result tell of it. -/
theorem tells_result {w : Nat} (f : Flags) (r : BitVec w) : (f.result r).tells r := by
  refine ⟨?_, ?_, ?_⟩
  · simp [Flags.result, BitVec.msb_eq_toInt]
  · simp only [Flags.result]
    rw [decide_eq_decide]
    exact ⟨fun h => by simp [h], fun h => BitVec.eq_of_toNat_eq (by simpa using h)⟩
  · simp only [Flags.result, parityFlag, BitVec.getLsbD_setWidth]
    simp only [Nat.reduceLT, decide_true, Bool.true_and]
    simp only [List.range, List.range.loop, List.countP_cons, List.countP_nil]
    generalize r.getLsbD 0 = a0
    generalize r.getLsbD 1 = a1
    generalize r.getLsbD 2 = a2
    generalize r.getLsbD 3 = a3
    generalize r.getLsbD 4 = a4
    generalize r.getLsbD 5 = a5
    generalize r.getLsbD 6 = a6
    generalize r.getLsbD 7 = a7
    revert a0 a1 a2 a3 a4 a5 a6 a7
    decide

theorem tells_congr {w : Nat} {f g : Flags} {r : BitVec w} (h : f.tells r) (hs : g.sf = f.sf) (hz : g.zf = f.zf)
    (hp : g.pf = f.pf) : g.tells r := by
  unfold Flags.tells at *; rw [hs, hz, hp]; exact h

/-- The sum of an addition. -/
theorem addOp_result {w : Nat} (f : Flags) (a b : BitVec w) (c : Bool) :
    (addOp f a b c).1 = BitVec.ofNat w (a.toNat + b.toNat + c.toNat) := by
  apply BitVec.eq_of_toNat_eq; simp [addOp, BitVec.toNat_add]

/-- The operand widths. -/
def IsWidth (w : Nat) : Prop := w = 8 ∨ w = 16 ∨ w = 32

/-- Signed overflow of a sum, by the signs. -/
theorem sum_overflow {w : Nat} (hw : IsWidth w) (a b : BitVec w) (c : Bool) :
    ((a.msb == b.msb) && ((a + b + BitVec.ofNat w c.toNat).msb != a.msb)) =
      decide ((a + b + BitVec.ofNat w c.toNat).toInt ≠ a.toInt + b.toInt + c.toNat) := by
  have hc : c.toNat ≤ 1 := by cases c <;> simp
  generalize c.toNat = n at *
  rcases hw with rfl | rfl | rfl <;>
  · simp only [BitVec.msb_eq_decide, BitVec.toInt_eq_toNat_cond, BitVec.toNat_add, BitVec.toNat_ofNat]
    have ha := a.isLt
    have hb := b.isLt
    generalize a.toNat = x at *
    generalize b.toNat = y at *
    rw [Bool.eq_iff_iff]
    simp only [Bool.and_eq_true, beq_iff_eq, bne_iff_ne, ne_eq, decide_eq_decide, decide_eq_true_eq]
    omega

/-- Signed overflow of a difference, by the signs. -/
theorem diff_overflow {w : Nat} (hw : IsWidth w) (a b : BitVec w) (c : Bool) :
    ((a.msb != b.msb) && ((a - b - BitVec.ofNat w c.toNat).msb != a.msb)) =
      decide ((a - b - BitVec.ofNat w c.toNat).toInt ≠ a.toInt - b.toInt - c.toNat) := by
  have hc : c.toNat ≤ 1 := by cases c <;> simp
  generalize c.toNat = n at *
  rcases hw with rfl | rfl | rfl <;>
  · simp only [BitVec.msb_eq_decide, BitVec.toInt_eq_toNat_cond, BitVec.toNat_sub, BitVec.toNat_ofNat]
    have ha := a.isLt
    have hb := b.isLt
    generalize a.toNat = x at *
    generalize b.toNat = y at *
    rw [Bool.eq_iff_iff]
    simp only [Bool.and_eq_true, bne_iff_ne, ne_eq, decide_eq_decide, decide_eq_true_eq]
    omega

/-- The difference of a subtraction. -/
theorem subOp_result {w : Nat} (hw : IsWidth w) (f : Flags) (a b : BitVec w) (c : Bool) :
    (subOp f a b c).1 = BitVec.ofInt w (a.toInt - b.toInt - c.toNat) := by
  have hc : (BitVec.ofNat w c.toNat).toInt = c.toNat := by
    cases c <;> rcases hw with rfl | rfl | rfl <;> rfl
  apply BitVec.eq_of_toInt_eq
  simp [subOp, BitVec.toInt_sub, hc]

/-- THE SUM and its flags (spec/41_arithmetic.md R311). -/
theorem addOp_spec {w : Nat} (hw : IsWidth w) (f : Flags) (a b : BitVec w) (c : Bool) :
    let x := addOp f a b c
    x.1 = BitVec.ofNat w (a.toNat + b.toNat + c.toNat) ∧ x.2.tells x.1 ∧ x.2.ofSum a b x.1 c ∧
      f.kept.sixFrom x.2.kept ∧ x.2.rf = f.rf :=
  ⟨addOp_result f a b c, tells_congr (tells_result f _) rfl rfl rfl, ⟨rfl, rfl, sum_overflow hw a b c⟩, rfl, rfl⟩

/-- THE DIFFERENCE and its flags (R312). -/
theorem subOp_spec {w : Nat} (hw : IsWidth w) (f : Flags) (a b : BitVec w) (c : Bool) :
    let x := subOp f a b c
    x.1 = BitVec.ofInt w (a.toInt - b.toInt - c.toNat) ∧ x.2.tells x.1 ∧ x.2.ofDiff a b x.1 c ∧
      f.kept.sixFrom x.2.kept ∧ x.2.rf = f.rf :=
  ⟨subOp_result hw f a b c, tells_congr (tells_result f _) rfl rfl rfl, ⟨rfl, rfl, diff_overflow hw a b c⟩, rfl, rfl⟩

end Sys2Proof.Machine
end

