-- ==== Sys2Proof/Laws/Store.lean ====
section
/-! SUPPORT. What a stored value leaves in memory: its bytes read back, every other byte stays, the form stays
canonical. -/
namespace Sys2Proof.Machine

variable {s t : State}

/-! ### Little-endian values -/

theorem leNat_natBytes (n v : Nat) : leNat (natBytes n v) = v % 256 ^ n := by
  induction n generalizing v with
  | zero => simp [natBytes, leNat, Nat.mod_one]
  | succ n ih =>
    have hp : (256 : Nat) ^ (n + 1) = 256 * 256 ^ n := by rw [Nat.mul_comm]; rfl
    rw [hp, Nat.mod_mul, ← ih]
    rfl

/-- The bytes of a value stand for it. -/
theorem leValue_valueBytes {w : Nat} (hw : w % 8 = 0) (v : BitVec w) : leValue w (valueBytes v) = v := by
  unfold leValue valueBytes
  rw [leNat_natBytes]
  have h : (256 : Nat) ^ (w / 8) = 2 ^ w := by
    rw [show (256 : Nat) = 2 ^ 8 from rfl, ← Nat.pow_mul]
    congr 1; omega
  rw [h, Nat.mod_eq_of_lt v.isLt, BitVec.ofNat_toNat, BitVec.setWidth_eq]

/-! ### The places of an object are different -/

theorem physical_mod (s : State) (a : Nat) : s.physical a % 2 ^ 20 = a % 2 ^ 20 := by
  unfold State.physical
  have hb : ∃ k, (2 : Nat) ^ s.addressLines = 2 ^ 20 * k := by
    unfold State.addressLines
    split
    · exact ⟨1, rfl⟩
    · cases s.cfg.cpu <;> first | exact ⟨1, rfl⟩ | exact ⟨16, rfl⟩ | exact ⟨4096, rfl⟩
  obtain ⟨k, hk⟩ := hb
  rw [hk]
  have hm : a % (2 ^ 20 * k) % 2 ^ 20 = a % 2 ^ 20 := Nat.mod_mul_right_mod a (2 ^ 20) k
  dsimp only
  split
  · rename_i h
    simp only [Bool.and_eq_true, decide_eq_true_eq] at h
    omega
  · exact hm

theorem linear_mod (s : State) (r : SReg) (off : Nat) :
    s.linear r off % 2 ^ 20 = ((s.seg r).base.toNat + off) % 2 ^ 20 := by
  unfold State.linear
  dsimp only
  split
  · omega
  · split <;> omega
  · omega

/-- The position of byte `i` in its megabyte. -/
theorem placeAt_mod (s : State) (r : SReg) (off : Dword) (i : Nat) :
    s.placeAt r off i % 2 ^ 20 =
      ((s.seg r).base.toNat + if s.level = 0 then (off.toNat + i) % 65536 else off.toNat + i) % 2 ^ 20 := by
  unfold State.placeAt
  split
  · rw [physical_mod, linear_mod]
  · split
    · rw [physical_mod, linear_mod]
    · rw [physical_mod]
      have := linear_mod s r off.toNat
      omega

/-- Two bytes of one object lie at two addresses. -/
theorem placeAt_inj (s : State) (r : SReg) (off : Dword) {i j : Nat} (hi : i < 65536) (hj : j < 65536)
    (h : s.placeAt r off i = s.placeAt r off j) : i = j := by
  have h1 := placeAt_mod s r off i
  have h2 := placeAt_mod s r off j
  rw [h] at h1
  rw [h1] at h2
  split at h2 <;> omega

/-! ### Stored bytes -/

theorem storeBytes_read_other (as : List Nat) (bs : List Byte) (s : State) {a : Nat} (h : a ∉ as) :
    Memory.read (s.storeBytes as bs).mem a = Memory.read s.mem a := by
  induction as generalizing s bs with
  | nil => cases bs <;> rfl
  | cons x as ih =>
    cases bs with
    | nil => rfl
    | cons b bs =>
      simp only [List.mem_cons, not_or] at h
      rw [State.storeBytes, ih _ _ h.2, storeByte_mem, Memory.read_write_other _ _ h.1]

theorem storeBytes_wf (as : List Nat) (bs : List Byte) (s : State) (h : Memory.wf s.mem = true) :
    Memory.wf (s.storeBytes as bs).mem = true := by
  induction as generalizing s bs with
  | nil => cases bs <;> exact h
  | cons x as ih =>
    cases bs with
    | nil => exact h
    | cons b bs => exact ih _ _ (Memory.wf_write h x b)

theorem storeBytes_read (as : List Nat) (bs : List Byte) (s : State) (hn : as.Nodup) (hl : as.length = bs.length)
    (h : Memory.wf s.mem = true) : as.map (Memory.read (s.storeBytes as bs).mem) = bs := by
  induction as generalizing s bs with
  | nil => cases bs with
    | nil => rfl
    | cons => simp at hl
  | cons x as ih =>
    cases bs with
    | nil => simp at hl
    | cons b bs =>
      rw [List.nodup_cons] at hn
      simp only [List.map_cons, State.storeBytes]
      rw [storeBytes_read_other as bs _ hn.1, storeByte_mem, Memory.read_write_same h,
        ih bs _ hn.2 (by simpa using hl) (Memory.wf_write h x b)]

theorem places_nodup (s : State) (r : SReg) (off : Dword) {n : Nat} (hn : n ≤ 65536) :
    ((List.range n).map (s.placeAt r off)).Nodup := by
  unfold List.Nodup
  rw [List.pairwise_map]
  refine List.Pairwise.imp_of_mem ?_ List.nodup_range
  intro i j hi hj hne h
  rw [List.mem_range] at hi hj
  exact hne (placeAt_inj s r off (by omega) (by omega) h)

/-- STORING A VALUE: it reads back, and every other byte stays. -/
theorem put_stores {w : Nat} (hw : w % 8 = 0) (hs : w / 8 ≤ 65536) (r : SReg) (off : Dword) (v : BitVec w)
    (hway : s.SameWay t) (hm : t.mem = s.mem) (h : Memory.wf s.mem = true) : s.stores (t.put r off v) r off v := by
  have hp : t.put r off v = t.storeBytes ((List.range (w / 8)).map (s.placeAt r off)) (valueBytes v) := by
    unfold State.put; rw [funext (hway.placeAt r off)]
  constructor
  · intro a ha
    rw [hp, storeBytes_read_other, hm]
    intro hin
    obtain ⟨i, hi, e⟩ := List.mem_map.mp hin
    exact ha i (List.mem_range.mp hi) e
  · unfold State.memVal State.memBytes
    show leValue w ((List.range (w / 8)).map fun i => Memory.read (t.put r off v).mem (s.placeAt r off i)) = v
    have := storeBytes_read ((List.range (w / 8)).map (s.placeAt r off)) (valueBytes v) t (places_nodup s r off hs)
      (by simp) (by rw [hm]; exact h)
    rw [← hp, List.map_map] at this
    rw [show (fun i => Memory.read (t.put r off v).mem (s.placeAt r off i)) =
      Memory.read (t.put r off v).mem ∘ s.placeAt r off from rfl, this]
    exact leValue_valueBytes hw v

/-- A stored value keeps the canonical form. -/
theorem put_wf {w : Nat} (r : SReg) (off : Dword) (v : BitVec w) (h : Memory.wf s.mem = true) :
    Memory.wf (s.put r off v).mem = true := storeBytes_wf _ _ _ h

end Sys2Proof.Machine
end

