-- ==== Sys2Proof/Laws/Run.lean ====
section
/-! SUPPORT. Running one instruction: what `run` answers from what the effect answers, what `finish` keeps, and agreement
of two states up to what instructions change. -/
namespace Sys2Proof.Machine

variable {s t u : State}

/-! ### Agreement -/

theorem State.agrees.refl (s : State) : s.agrees s := rfl

theorem State.agrees.trans (h : s.agrees t) (k : t.agrees u) : s.agrees u := by
  unfold State.agrees at *
  have := congrArg (fun x : State =>
    { x with
      regs := s.regs, flags := s.flags, mem := s.mem, eip := s.eip, cur := s.cur, repeating := s.repeating
      shadow := s.shadow, trap := s.trap, stale := s.stale, oracle := s.oracle }) k
  exact this.trans h

theorem State.SameButMem.agrees (h : s.SameButMem t) : s.agrees t := by
  unfold State.SameButMem at h; rw [h]; rfl

theorem begin_agrees (s : State) : s.agrees s.begin := rfl
theorem setReg_agrees {w : Nat} (s : State) (r : Reg) (v : BitVec w) : s.agrees (s.setReg r v) := rfl
theorem setReg8_agrees (s : State) (r : Reg8) (v : Byte) : s.agrees (s.setReg8 r v) := rfl
theorem setSp_agrees (s : State) (v : Dword) : s.agrees (s.setSp v) := by unfold State.setSp; split <;> rfl
theorem withFlags_agrees (s : State) (f : Flags) : s.agrees { s with flags := f } := rfl
theorem withOracle_agrees (s : State) (n : Nat) : s.agrees { s with oracle := n } := rfl

/-! ### The check for LOCK -/

@[simp] theorem begin_lockOk (s : State) (l : Bool) : s.begin.lockOk l = s.lockOk l := rfl
@[simp] theorem begin_opWidth (s : State) : s.begin.opWidth = s.opWidth := rfl
@[simp] theorem begin_op32 (s : State) : s.begin.op32 = s.op32 := rfl
@[simp] theorem begin_addrWidth (s : State) : s.begin.addrWidth = s.addrWidth := rfl
@[simp] theorem begin_addr32 (s : State) : s.begin.addr32 = s.addr32 := rfl
@[simp] theorem begin_level (s : State) : s.begin.level = s.level := rfl
@[simp] theorem begin_cpl (s : State) : s.begin.cpl = s.cpl := rfl
@[simp] theorem begin_real (s : State) : s.begin.real = s.real := rfl
@[simp] theorem begin_prot (s : State) : s.begin.prot = s.prot := rfl
@[simp] theorem begin_v86 (s : State) : s.begin.v86 = s.v86 := rfl
@[simp] theorem begin_reg (s : State) (w : Nat) (r : Reg) : s.begin.reg w r = s.reg w r := rfl
@[simp] theorem begin_reg8 (s : State) (r : Reg8) : s.begin.reg8 r = s.reg8 r := rfl
@[simp] theorem begin_seg (s : State) (r : SReg) : s.begin.seg r = s.seg r := by cases r <;> rfl
@[simp] theorem begin_memSeg (s : State) (m : Mem) : s.begin.memSeg m = s.memSeg m := rfl
@[simp] theorem begin_memOff (s : State) (m : Mem) : s.begin.memOff m = s.memOff m := rfl
@[simp] theorem begin_sp (s : State) : s.begin.sp = s.sp := rfl
@[simp] theorem begin_stackOff (s : State) (v : Dword) : s.begin.stackOff v = s.stackOff v := rfl
@[simp] theorem begin_val8 (s : State) (d : Rm8) : s.begin.val8 d = s.val8 d := by
  cases d with
  | reg r => rfl
  | mem m => exact (begin_way s).memVal rfl 8 _ _
@[simp] theorem begin_valv (s : State) (w : Nat) (d : Rmv) : s.begin.valv w d = s.valv w d := by
  cases d with
  | reg r => rfl
  | mem m => exact (begin_way s).memVal rfl w _ _
@[simp] theorem begin_reaches (s : State) (r : SReg) (k : AccessKind) (off : Dword) (n b : Nat) :
    s.begin.reaches r k off n b = s.reaches r k off n b := (begin_way s).reaches rfl r k off n b
@[simp] theorem begin_ready8 (s : State) (k : AccessKind) (d : Rm8) : s.begin.ready8 k d = s.ready8 k d := by
  cases d with
  | reg r => rfl
  | mem m => exact begin_reaches s _ _ _ _ _
@[simp] theorem begin_readyv (s : State) (k : AccessKind) (w : Nat) (d : Rmv) : s.begin.readyv k w d = s.readyv k w d := by
  cases d with
  | reg r => rfl
  | mem m => exact begin_reaches s _ _ _ _ _

/-- LOCK passes exactly when `lockOk` says so, and changes nothing. -/
theorem lockCheck_eq (l : Bool) (h : s.lockOk l = true) : lockCheck l s = .ok ((), s) := by
  unfold lockCheck
  unfold State.lockOk at h
  simp only [get_bind_apply]
  by_cases h1 : (!s.cur.lock || decide (s.level = 0)) = true
  · rw [if_pos h1]; rfl
  · rw [if_neg h1]
    rw [Bool.or_eq_true, or_iff_right h1] at h
    by_cases h2 : s.level = 2
    · rw [if_pos h2] at h ⊢; rw [h]; rfl
    · rw [if_neg h2] at h ⊢
      rw [Bool.and_eq_true] at h
      rw [check_bind_ok h.2, h.1]; rfl

/-! ### What `run` answers -/

theorem runEnding_ok {l : Bool} {body : M Ending} {e : Ending} (hl : s.lockOk l = true)
    (h : body s.begin = .ok (e, t)) : runEnding l body s = .next (finish s t e) := by
  unfold runEnding
  rw [bind_ok (lockCheck_eq (s := s.begin) l (by simpa using hl)), h]

theorem runEnding_exn {l : Bool} {body : M Ending} {e : Exn} (hl : s.lockOk l = true)
    (h : body s.begin = .error (.exn e)) : runEnding l body s = s.deliverExn s.nextIp e := by
  unfold runEnding
  rw [bind_ok (lockCheck_eq (s := s.begin) l (by simpa using hl)), h]

theorem run_ok {l : Bool} {body : M Unit} (hl : s.lockOk l = true) (h : body s.begin = .ok ((), t)) :
    run l body s = .next (finish s t .done) :=
  runEnding_ok hl (by rw [bind_ok h]; rfl)

theorem run_exn {l : Bool} {body : M Unit} {e : Exn} (hl : s.lockOk l = true)
    (h : body s.begin = .error (.exn e)) : run l body s = s.deliverExn s.nextIp e :=
  runEnding_exn hl (bind_error h _)

/-- Conversely: an instruction that answers a next state completed, or something it raised was delivered, or the processor
shut down. -/
theorem runEnding_next {l : Bool} {body : M Ending} (h : runEnding l body s = .next u) :
    (∃ e t, (lockCheck l >>= fun _ => body) s.begin = .ok (e, t) ∧ u = finish s t e) ∨
      (∃ e, (lockCheck l >>= fun _ => body) s.begin = .error (.exn e) ∧ s.deliverExn s.nextIp e = .next u) ∨
      ((lockCheck l >>= fun _ => body) s.begin = .error .shutdown ∧ u = s.shutDown) := by
  unfold runEnding at h
  cases hb : (lockCheck l >>= fun _ => body) s.begin with
  | ok p =>
    obtain ⟨e, t⟩ := p
    rw [hb] at h
    injection h with h
    exact .inl ⟨e, t, rfl, h.symm⟩
  | error a =>
    rw [hb] at h
    cases a with
    | exn e => exact .inr (.inl ⟨e, rfl, h⟩)
    | shutdown =>
      injection h with h
      exact .inr (.inr ⟨rfl, h.symm⟩)
    | stop f => exact absurd h (by simp)

/-! ### What `finish` keeps -/

section
variable (s t : State)
@[simp] theorem finish_regs : (finish s t .done).regs = t.regs := rfl
@[simp] theorem finish_mem : (finish s t .done).mem = t.mem := rfl
@[simp] theorem finish_eip : (finish s t .done).eip = t.eip := rfl
@[simp] theorem finish_flags : (finish s t .done).flags = { t.flags with rf := false } := rfl
@[simp] theorem finish_cur : (finish s t .done).cur = .start := rfl
@[simp] theorem finish_shadow : (finish s t .done).shadow = t.shadow := rfl
@[simp] theorem finish_run : (finish s t .done).run = t.run := rfl
end

theorem finish_agrees (s t : State) : t.agrees (finish s t .done) := rfl

/-- An effect that agrees and advances: the instruction ran. -/
theorem ran_finish (h : s.agrees t) (he : t.eip = s.nextIp) (hs : t.shadow = .none) : s.ran (finish s t .done) :=
  ⟨h.trans (finish_agrees s t), he, rfl, hs⟩

/-! ### Operands -/

/-- The state after the access to a byte operand. -/
def State.touch8 (s : State) (k : AccessKind) : Rm8 → State
  | .reg _ => s
  | .mem m => s.touch (s.memSeg m) k (s.memOff m) 1

/-- The state after the access to a word or doubleword operand. -/
def State.touchv (s : State) (k : AccessKind) (w : Nat) : Rmv → State
  | .reg _ => s
  | .mem m => s.touch (s.memSeg m) k (s.memOff m) (w / 8)

/-- `t` with an operand of `s` set. -/
def State.set8 (s t : State) (d : Rm8) (v : Byte) : State :=
  match d with
  | .reg r => t.setReg8 r v
  | .mem m => t.put (s.memSeg m) (s.memOff m) v

def State.setv {w : Nat} (s t : State) (d : Rmv) (v : BitVec w) : State :=
  match d with
  | .reg r => t.setReg r v
  | .mem m => t.put (s.memSeg m) (s.memOff m) v

theorem touch8_same (s : State) (k : AccessKind) (d : Rm8) : s.SameButMem (s.touch8 k d) := by
  cases d with
  | reg r => exact .refl s
  | mem m => exact touch_same _ _ _ _ _

theorem touchv_same (s : State) (k : AccessKind) (w : Nat) (d : Rmv) : s.SameButMem (s.touchv k w d) := by
  cases d with
  | reg r => exact .refl s
  | mem m => exact touch_same _ _ _ _ _

@[simp] theorem touch8_mem (s : State) (k : AccessKind) (d : Rm8) : (s.touch8 k d).mem = s.mem := by
  cases d <;> simp [State.touch8]

@[simp] theorem touchv_mem (s : State) (k : AccessKind) (w : Nat) (d : Rmv) : (s.touchv k w d).mem = s.mem := by
  cases d <;> simp [State.touchv]

/-- READING a byte operand. -/
theorem get8_ready {d : Rm8} (h : s.ready8 .read d = true) : get8 d s = .ok (s.val8 d, s.touch8 .read d) := by
  cases d with
  | reg r => rfl
  | mem m => exact readMem_flat (w := 8) h

/-- READING a word or doubleword operand. -/
theorem getv_ready {w : Nat} {d : Rmv} (h : s.readyv .read w d = true) : getv w d s = .ok (s.valv w d, s.touchv .read w d) := by
  cases d with
  | reg r => rfl
  | mem m => exact readMem_flat h

/-- WRITING a byte operand. -/
theorem put8_ready {d : Rm8} (v : Byte) (h : s.ready8 .write d = true) :
    put8 d v s = .ok ((), s.set8 (s.touch8 .write d) d v) := by
  cases d with
  | reg r => rfl
  | mem m => exact writeMem_flat v h

/-- WRITING a word or doubleword operand. -/
theorem putv_ready {w : Nat} {d : Rmv} (v : BitVec w) (h : s.readyv .write w d = true) :
    putv d v s = .ok ((), s.setv (s.touchv .write w d) d v) := by
  cases d with
  | reg r => rfl
  | mem m => exact writeMem_flat v h

/-- UPDATING a byte operand. -/
theorem update8_ready {d : Rm8} {f : Byte → M Byte} {v : Byte} (h : s.ready8 .update d = true)
    (hf : f (s.val8 d) (s.touch8 .update d) = .ok (v, t)) (ht : s.SameWay t) :
    update8 d f s = .ok ((), s.set8 t d v) := by
  cases d with
  | reg r =>
    have hf' : f (s.reg8 r) s = .ok (v, t) := hf
    show (getReg8 r >>= fun a => f a >>= fun b => putReg8 r b) s = _
    rw [bind_ok rfl, bind_ok hf']; rfl
  | mem m => exact memUpdate_flat (w := 8) h hf ht

/-- UPDATING a word or doubleword operand. -/
theorem updatev_ready {w : Nat} {d : Rmv} {f : BitVec w → M (BitVec w)} {v : BitVec w} (h : s.readyv .update w d = true)
    (hf : f (s.valv w d) (s.touchv .update w d) = .ok (v, t)) (ht : s.SameWay t) :
    updatev w d f s = .ok ((), s.setv t d v) := by
  cases d with
  | reg r =>
    have hf' : f (s.reg w r) s = .ok (v, t) := hf
    show (getReg w r >>= fun a => f a >>= fun b => putReg r b) s = _
    rw [bind_ok rfl, bind_ok hf']; rfl
  | mem m => exact memUpdate_flat h hf ht

theorem set8_agrees (s t : State) (d : Rm8) (v : Byte) : t.agrees (s.set8 t d v) := by
  cases d with
  | reg r => rfl
  | mem m => exact (put_same _ _ _ _).agrees

theorem setv_agrees {w : Nat} (s t : State) (d : Rmv) (v : BitVec w) : t.agrees (s.setv t d v) := by
  cases d with
  | reg r => rfl
  | mem m => exact (put_same _ _ _ _).agrees

theorem put_fields {w : Nat} (t : State) (r : SReg) (off : Dword) (v : BitVec w) :
    (t.put r off v).eip = t.eip ∧ (t.put r off v).shadow = t.shadow ∧ (t.put r off v).flags = t.flags ∧
      (t.put r off v).oracle = t.oracle ∧ (t.put r off v).regs = t.regs := by
  have h := put_same t r off v
  unfold State.SameButMem at h
  rw [h]; exact ⟨rfl, rfl, rfl, rfl, rfl⟩

theorem set8_fields (s t : State) (d : Rm8) (v : Byte) :
    (s.set8 t d v).eip = t.eip ∧ (s.set8 t d v).shadow = t.shadow ∧ (s.set8 t d v).flags = t.flags ∧
      (s.set8 t d v).oracle = t.oracle := by
  cases d with
  | reg r => exact ⟨rfl, rfl, rfl, rfl⟩
  | mem m =>
    obtain ⟨ip, shadow, flags, oracle, -⟩ := put_fields t (s.memSeg m) (s.memOff m) v
    exact ⟨ip, shadow, flags, oracle⟩

theorem setv_fields {w : Nat} (s t : State) (d : Rmv) (v : BitVec w) :
    (s.setv t d v).eip = t.eip ∧ (s.setv t d v).shadow = t.shadow ∧ (s.setv t d v).flags = t.flags ∧
      (s.setv t d v).oracle = t.oracle := by
  cases d with
  | reg r => exact ⟨rfl, rfl, rfl, rfl⟩
  | mem m =>
    obtain ⟨ip, shadow, flags, oracle, -⟩ := put_fields t (s.memSeg m) (s.memOff m) v
    exact ⟨ip, shadow, flags, oracle⟩

/-- What is written to a byte operand by an instruction that changed no register and no memory before. -/
theorem wrote8_set8 {d : Rm8} {k : AccessKind} (v : Byte) (h : s.ready8 k d = true) (ht : s.SameWay t)
    (hr : t.regs = s.regs) (hm : t.mem = s.mem) : s.wrote8 (s.set8 t d v) d v := by
  cases d with
  | reg r =>
    refine ⟨?_, hm⟩
    show (t.setReg8 r v).regs = (s.setReg8 r v).regs
    unfold State.setReg8; rw [hr]
  | mem m => exact ⟨(put_fields _ _ _ _).2.2.2.2.trans hr, put_stores rfl (by decide) _ _ _ ht hm (reaches_memoryOk h)⟩

theorem wrotev_setv {w : Nat} {d : Rmv} {k : AccessKind} (v : BitVec w) (hw : w = 16 ∨ w = 32)
    (h : s.readyv k w d = true) (ht : s.SameWay t) (hr : t.regs = s.regs) (hm : t.mem = s.mem) :
    s.wrotev (s.setv t d v) d v := by
  cases d with
  | reg r =>
    refine ⟨?_, hm⟩
    show (t.setReg r v).regs = (s.setReg r v).regs
    unfold State.setReg; rw [hr]
  | mem m =>
    refine ⟨(put_fields _ _ _ _).2.2.2.2.trans hr, put_stores ?_ ?_ _ _ _ ht hm (reaches_memoryOk h)⟩
    · rcases hw with rfl | rfl <;> rfl
    · rcases hw with rfl | rfl <;> decide

end Sys2Proof.Machine
end

