-- ==== Sys2Proof/Tests/Slice0.lean ====
section
/-! SUPPORT. Tests: ill-formed terms refused, words of every instruction decoded, single steps with the results the spec
gives, and a witness for the hypotheses of each statement. -/

set_option Elab.async false

open Sys2Proof Sys2Proof.Machine

namespace Sys2Proof.Tests
noncomputable section

/-! ## Ill-formed terms are refused -/

/-- The 80486 with 16-bit sizes. -/
def ctx16 : DecodeCtx := { cpu := .i80486, op32 := false, addr32 := false }

/-- The 80486 with 32-bit sizes. -/
def ctx32 : DecodeCtx := { cpu := .i80486, op32 := true, addr32 := true }

/-- Another processor with 16-bit sizes. -/
def ctxOf (c : Cpu) : DecodeCtx := { cpu := c, op32 := false, addr32 := false }

/-- A load of AX from a memory form. -/
def load (m : Mem) : Instr := .movRvRmv .eax (.mem m)

theorem test_wf_word_constant : Instr.wf ctx16 (.addEaxImmv 0x10000) = false := by decide +kernel

theorem test_wf_offset : Instr.wf ctx16 (.movAlMoffs8 0x10000) = false := by decide +kernel

theorem test_wf_no_80286_form : Instr.wf (ctxOf .i8086) .pusha = false := by decide +kernel

theorem test_wf_no_80386_form : Instr.wf (ctxOf .i80286) (.btRmvRv (.reg .eax) .ecx) = false := by decide +kernel

theorem test_wf_no_80486_form : Instr.wf (ctxOf .i80386) (.bswapR32 .eax) = false := by decide +kernel

theorem test_wf_no_test_register_before_80386 : Instr.wf (ctxOf .i80286) (.movR32TRn .eax 6) = false := by decide +kernel

theorem test_wf_bp_needs_displacement : Instr.wf ctx16 (load (.based16 .bp .none)) = false := by decide +kernel

theorem test_wf_based16_size : Instr.wf ctx32 (load (.based16 .si .none)) = false := by decide +kernel

theorem test_wf_direct16_size : Instr.wf ctx32 (load (.direct16 0)) = false := by decide +kernel

theorem test_wf_based32_size : Instr.wf ctx16 (load (.based32 .eax .none)) = false := by decide +kernel

theorem test_wf_esp_needs_sib : Instr.wf ctx32 (load (.based32 .esp .none)) = false := by decide +kernel

theorem test_wf_ebp_needs_displacement : Instr.wf ctx32 (load (.based32 .ebp .none)) = false := by decide +kernel

theorem test_wf_direct32_size : Instr.wf ctx16 (load (.direct32 0)) = false := by decide +kernel

theorem test_wf_sib_size : Instr.wf ctx16 (load (.sib 0 .eax .ecx .none)) = false := by decide +kernel

theorem test_wf_sib_ebp_needs_displacement : Instr.wf ctx32 (load (.sib 0 .eax .ebp .none)) = false := by
  decide +kernel

theorem test_wf_sibNoBase_size : Instr.wf ctx16 (load (.sibNoBase 0 .eax 0)) = false := by decide +kernel

theorem test_wf_byte_operand : Instr.wf ctx32 (.incRm8 (.mem (.direct16 0))) = false := by decide +kernel

theorem test_wf_no_fs_on_80286 : Instr.wf (ctxOf .i80286) (.movRm16Sreg (.reg .eax) .fs) = false := by decide +kernel

theorem test_wf_no_load_of_cs : Instr.wf ctx16 (.movSregRm16 .cs (.reg .eax)) = false := by decide +kernel

theorem test_wf_nop_is_not_xchg : Instr.wf ctx16 (.xchgEaxRv .eax) = false := by decide +kernel

theorem test_wf_esc_named_load : Instr.wf ctx16 (.esc 1 5 (.mem (.direct16 0))) = false := by decide +kernel

theorem test_wf_esc_named_store : Instr.wf ctx16 (.esc 1 7 (.mem (.direct16 0))) = false := by decide +kernel

theorem test_wf_esc_named_status : Instr.wf ctx16 (.esc 5 7 (.mem (.direct16 0))) = false := by decide +kernel

theorem test_wf_esc_fninit : Instr.wf ctx16 (.esc 3 4 (.reg 3)) = false := by decide +kernel

theorem test_wf_esc_fnstsw : Instr.wf ctx16 (.esc 7 4 (.reg 0)) = false := by decide +kernel

/-! ## Words decode to their instructions -/

/-- The bytes decode, in a context, to the instruction, all of them used. -/
def reads (c : DecodeCtx) (p : List Byte × Instr) : Bool := decide (decode c p.1 = .ok p.2 [])

/-- With 16-bit sizes. -/
def reads16 (p : List Byte × Instr) : Bool := reads ctx16 p

/-- Words written out from the opcode table and the ModRM tables, `addRm8R8` to `sbbRmvRv`. -/
theorem test_decode_1 : ([
    ([0x00, 0xA7, 0x34, 0x12], .addRm8R8 (.mem (.based16 .bx (.d16 0x1234))) .ah),
    ([0x01, 0xFC], .addRmvRv (.reg .esp) .edi),
    ([0x02, 0x14], .addR8Rm8 .dl (.mem (.based16 .si .none))),
    ([0x03, 0xEE], .addRvRmv .ebp (.reg .esi)),
    ([0x04, 0x85], .addAlImm8 0x85),
    ([0x05, 0x06, 0x90], .addEaxImmv 0x9006),
    ([0x80, 0x87, 0x34, 0x12, 0x87], .addRm8Imm8 (.mem (.based16 .bx (.d16 0x1234))) 0x87),
    ([0x82, 0xC2, 0x88], .addRm8Imm8Alias82 (.reg .dl) 0x88),
    ([0x81, 0x04, 0x09, 0x90], .addRmvImmv (.mem (.based16 .si .none)) 0x9009),
    ([0x83, 0xC4, 0x8A], .addRmvImm8s (.reg .esp) 0x8A),
    ([0x08, 0x11], .orRm8R8 (.mem (.based16 .bxdi .none)) .dl),
    ([0x09, 0xEE], .orRmvRv (.reg .esi) .ebp),
    ([0x0A, 0x87, 0x34, 0x12], .orR8Rm8 .al (.mem (.based16 .bx (.d16 0x1234)))),
    ([0x0B, 0xD8], .orRvRmv .ebx (.reg .eax)),
    ([0x0C, 0x8F], .orAlImm8 0x8F),
    ([0x0D, 0x10, 0x90], .orEaxImmv 0x9010),
    ([0x80, 0x09, 0x91], .orRm8Imm8 (.mem (.based16 .bxdi .none)) 0x91),
    ([0x82, 0xCC, 0x92], .orRm8Imm8Alias82 (.reg .ah) 0x92),
    ([0x81, 0x8F, 0x34, 0x12, 0x13, 0x90], .orRmvImmv (.mem (.based16 .bx (.d16 0x1234))) 0x9013),
    ([0x83, 0xCE, 0x94], .orRmvImm8s (.reg .esi) 0x94),
    ([0x10, 0x04], .adcRm8R8 (.mem (.based16 .si .none)) .al),
    ([0x11, 0xD8], .adcRmvRv (.reg .eax) .ebx),
    ([0x12, 0x31], .adcR8Rm8 .dh (.mem (.based16 .bxdi .none))),
    ([0x13, 0xCA], .adcRvRmv .ecx (.reg .edx)),
    ([0x14, 0x99], .adcAlImm8 0x99),
    ([0x15, 0x1A, 0x90], .adcEaxImmv 0x901A),
    ([0x80, 0x14, 0x9B], .adcRm8Imm8 (.mem (.based16 .si .none)) 0x9B),
    ([0x82, 0xD6, 0x9C], .adcRm8Imm8Alias82 (.reg .dh) 0x9C),
    ([0x81, 0x11, 0x1D, 0x90], .adcRmvImmv (.mem (.based16 .bxdi .none)) 0x901D),
    ([0x83, 0xD0, 0x9E], .adcRmvImm8s (.reg .eax) 0x9E),
    ([0x18, 0xB7, 0x34, 0x12], .sbbRm8R8 (.mem (.based16 .bx (.d16 0x1234))) .dh),
    ([0x19, 0xCA], .sbbRmvRv (.reg .edx) .ecx)] : List (List Byte × Instr)).all reads16 = true := by
  decide +kernel

/-- Words written out from the opcode table and the ModRM tables, `sbbR8Rm8` to `xorRvRmv`. -/
theorem test_decode_2 : ([
    ([0x1A, 0x24], .sbbR8Rm8 .ah (.mem (.based16 .si .none))),
    ([0x1B, 0xFC], .sbbRvRmv .edi (.reg .esp)),
    ([0x1C, 0xA3], .sbbAlImm8 0xA3),
    ([0x1D, 0x24, 0x90], .sbbEaxImmv 0x9024),
    ([0x80, 0x9F, 0x34, 0x12, 0xA5], .sbbRm8Imm8 (.mem (.based16 .bx (.d16 0x1234))) 0xA5),
    ([0x82, 0xD8, 0xA6], .sbbRm8Imm8Alias82 (.reg .al) 0xA6),
    ([0x81, 0x1C, 0x27, 0x90], .sbbRmvImmv (.mem (.based16 .si .none)) 0x9027),
    ([0x83, 0xDA, 0xA8], .sbbRmvImm8s (.reg .edx) 0xA8),
    ([0x20, 0x21], .andRm8R8 (.mem (.based16 .bxdi .none)) .ah),
    ([0x21, 0xFC], .andRmvRv (.reg .esp) .edi),
    ([0x22, 0x97, 0x34, 0x12], .andR8Rm8 .dl (.mem (.based16 .bx (.d16 0x1234)))),
    ([0x23, 0xEE], .andRvRmv .ebp (.reg .esi)),
    ([0x24, 0xAD], .andAlImm8 0xAD),
    ([0x25, 0x2E, 0x90], .andEaxImmv 0x902E),
    ([0x80, 0x21, 0xAF], .andRm8Imm8 (.mem (.based16 .bxdi .none)) 0xAF),
    ([0x82, 0xE2, 0xB0], .andRm8Imm8Alias82 (.reg .dl) 0xB0),
    ([0x81, 0xA7, 0x34, 0x12, 0x31, 0x90], .andRmvImmv (.mem (.based16 .bx (.d16 0x1234))) 0x9031),
    ([0x83, 0xE4, 0xB2], .andRmvImm8s (.reg .esp) 0xB2),
    ([0x28, 0x14], .subRm8R8 (.mem (.based16 .si .none)) .dl),
    ([0x29, 0xEE], .subRmvRv (.reg .esi) .ebp),
    ([0x2A, 0x01], .subR8Rm8 .al (.mem (.based16 .bxdi .none))),
    ([0x2B, 0xD8], .subRvRmv .ebx (.reg .eax)),
    ([0x2C, 0xB7], .subAlImm8 0xB7),
    ([0x2D, 0x38, 0x90], .subEaxImmv 0x9038),
    ([0x80, 0x2C, 0xB9], .subRm8Imm8 (.mem (.based16 .si .none)) 0xB9),
    ([0x82, 0xEC, 0xBA], .subRm8Imm8Alias82 (.reg .ah) 0xBA),
    ([0x81, 0x29, 0x3B, 0x90], .subRmvImmv (.mem (.based16 .bxdi .none)) 0x903B),
    ([0x83, 0xEE, 0xBC], .subRmvImm8s (.reg .esi) 0xBC),
    ([0x30, 0x87, 0x34, 0x12], .xorRm8R8 (.mem (.based16 .bx (.d16 0x1234))) .al),
    ([0x31, 0xD8], .xorRmvRv (.reg .eax) .ebx),
    ([0x32, 0x34], .xorR8Rm8 .dh (.mem (.based16 .si .none))),
    ([0x33, 0xCA], .xorRvRmv .ecx (.reg .edx))] : List (List Byte × Instr)).all reads16 = true := by
  decide +kernel

/-- Words written out from the opcode table and the ModRM tables, `xorAlImm8` to `prefixLock`. -/
theorem test_decode_3 : ([
    ([0x34, 0xC1], .xorAlImm8 0xC1),
    ([0x35, 0x42, 0x90], .xorEaxImmv 0x9042),
    ([0x80, 0xB7, 0x34, 0x12, 0xC3], .xorRm8Imm8 (.mem (.based16 .bx (.d16 0x1234))) 0xC3),
    ([0x82, 0xF6, 0xC4], .xorRm8Imm8Alias82 (.reg .dh) 0xC4),
    ([0x81, 0x34, 0x45, 0x90], .xorRmvImmv (.mem (.based16 .si .none)) 0x9045),
    ([0x83, 0xF0, 0xC6], .xorRmvImm8s (.reg .eax) 0xC6),
    ([0x38, 0x31], .cmpRm8R8 (.mem (.based16 .bxdi .none)) .dh),
    ([0x39, 0xCA], .cmpRmvRv (.reg .edx) .ecx),
    ([0x3A, 0xA7, 0x34, 0x12], .cmpR8Rm8 .ah (.mem (.based16 .bx (.d16 0x1234)))),
    ([0x3B, 0xFC], .cmpRvRmv .edi (.reg .esp)),
    ([0x3C, 0xCB], .cmpAlImm8 0xCB),
    ([0x3D, 0x4C, 0x90], .cmpEaxImmv 0x904C),
    ([0x80, 0x39, 0xCD], .cmpRm8Imm8 (.mem (.based16 .bxdi .none)) 0xCD),
    ([0x82, 0xF8, 0xCE], .cmpRm8Imm8Alias82 (.reg .al) 0xCE),
    ([0x81, 0xBF, 0x34, 0x12, 0x4F, 0x90], .cmpRmvImmv (.mem (.based16 .bx (.d16 0x1234))) 0x904F),
    ([0x83, 0xFA, 0xD0], .cmpRmvImm8s (.reg .edx) 0xD0),
    ([0x06], .pushEs),
    ([0x0E], .pushCs),
    ([0x16], .pushSs),
    ([0x1E], .pushDs),
    ([0x07], .popEs),
    ([0x17], .popSs),
    ([0x1F], .popDs),
    ([0x26], .prefixEs),
    ([0x2E], .prefixCs),
    ([0x36], .prefixSs),
    ([0x3E], .prefixDs),
    ([0x64], .prefixFs),
    ([0x65], .prefixGs),
    ([0x66], .prefixOperandSize),
    ([0x67], .prefixAddressSize),
    ([0xF0], .prefixLock)] : List (List Byte × Instr)).all reads16 = true := by
  decide +kernel

/-- Words written out from the opcode table and the ModRM tables, `prefixRepne` to `jnsRel8`. -/
theorem test_decode_4 : ([
    ([0xF2], .prefixRepne),
    ([0xF3], .prefixRep),
    ([0x27], .daa),
    ([0x2F], .das),
    ([0x37], .aaa),
    ([0x3F], .aas),
    ([0x46], .incRv .esi),
    ([0x49], .decRv .ecx),
    ([0x54], .pushRv .esp),
    ([0x5F], .popRv .edi),
    ([0x60], .pusha),
    ([0x61], .popa),
    ([0x62, 0x87, 0x34, 0x12], .boundRvM .eax (.based16 .bx (.d16 0x1234))),
    ([0x63, 0xD8], .arplRm16R16 (.reg .eax) .ebx),
    ([0x68, 0x6F, 0x90], .pushImmv 0x906F),
    ([0x6A, 0xF0], .pushImm8s 0xF0),
    ([0x69, 0x21, 0x71, 0x90], .imulRvRmvImmv .esp (.mem (.based16 .bxdi .none)) 0x9071),
    ([0x6B, 0xFC, 0xF2], .imulRvRmvImm8s .edi (.reg .esp) 0xF2),
    ([0x6C], .insb),
    ([0x6D], .insv),
    ([0x6E], .outsb),
    ([0x6F], .outsv),
    ([0x70, 0xF7], .joRel8 0xF7),
    ([0x71, 0xF8], .jnoRel8 0xF8),
    ([0x72, 0xF9], .jbRel8 0xF9),
    ([0x73, 0xFA], .jaeRel8 0xFA),
    ([0x74, 0xFB], .jeRel8 0xFB),
    ([0x75, 0xFC], .jneRel8 0xFC),
    ([0x76, 0xFD], .jbeRel8 0xFD),
    ([0x77, 0xFE], .jaRel8 0xFE),
    ([0x78, 0xFF], .jsRel8 0xFF),
    ([0x79, 0x80], .jnsRel8 0x80)] : List (List Byte × Instr)).all reads16 = true := by
  decide +kernel

/-- Words written out from the opcode table and the ModRM tables, `jpRel8` to `movMoffsvEax`. -/
theorem test_decode_5 : ([
    ([0x7A, 0x81], .jpRel8 0x81),
    ([0x7B, 0x82], .jnpRel8 0x82),
    ([0x7C, 0x83], .jlRel8 0x83),
    ([0x7D, 0x84], .jgeRel8 0x84),
    ([0x7E, 0x85], .jleRel8 0x85),
    ([0x7F, 0x86], .jgRel8 0x86),
    ([0x84, 0x34], .testRm8R8 (.mem (.based16 .si .none)) .dh),
    ([0x85, 0xCA], .testRmvRv (.reg .edx) .ecx),
    ([0x86, 0x21], .xchgRm8R8 (.mem (.based16 .bxdi .none)) .ah),
    ([0x87, 0xFC], .xchgRmvRv (.reg .esp) .edi),
    ([0x88, 0x97, 0x34, 0x12], .movRm8R8 (.mem (.based16 .bx (.d16 0x1234))) .dl),
    ([0x89, 0xEE], .movRmvRv (.reg .esi) .ebp),
    ([0x8A, 0x04], .movR8Rm8 .al (.mem (.based16 .si .none))),
    ([0x8B, 0xD8], .movRvRmv .ebx (.reg .eax)),
    ([0x8C, 0x29], .movRm16Sreg (.mem (.based16 .bxdi .none)) .gs),
    ([0x8D, 0x4A, 0x04], .leaRvM .ecx (.based16 .bpsi (.d8 0x04))),
    ([0x8E, 0x9F, 0x34, 0x12], .movSregRm16 .ds (.mem (.based16 .bx (.d16 0x1234)))),
    ([0x8F, 0xC4], .popMv (.reg .esp)),
    ([0x90], .nop),
    ([0x95], .xchgEaxRv .ebp),
    ([0x98], .cbw),
    ([0x99], .cwd),
    ([0x9A, 0x78, 0x56, 0x34, 0x12], .callPtr16v 0x5678 0x1234),
    ([0x9B], .wait),
    ([0x9C], .pushf),
    ([0x9D], .popf),
    ([0x9E], .sahf),
    ([0x9F], .lahf),
    ([0xA0, 0x9D, 0x90], .movAlMoffs8 0x909D),
    ([0xA1, 0x9E, 0x90], .movEaxMoffsv 0x909E),
    ([0xA2, 0x9F, 0x90], .movMoffs8Al 0x909F),
    ([0xA3, 0xA0, 0x90], .movMoffsvEax 0x90A0)] : List (List Byte × Instr)).all reads16 = true := by
  decide +kernel

/-- Words written out from the opcode table and the ModRM tables, `movsb` to `rclRmvCl`. -/
theorem test_decode_6 : ([
    ([0xA4], .movsb),
    ([0xA5], .movsv),
    ([0xA6], .cmpsb),
    ([0xA7], .cmpsv),
    ([0xA8, 0xA5], .testAlImm8 0xA5),
    ([0xA9, 0xA6, 0x90], .testEaxImmv 0x90A6),
    ([0xAA], .stosb),
    ([0xAB], .stosv),
    ([0xAC], .lodsb),
    ([0xAD], .lodsv),
    ([0xAE], .scasb),
    ([0xAF], .scasv),
    ([0xB1, 0xAD], .movR8Imm8 .cl 0xAD),
    ([0xBB, 0xAE, 0x90], .movRvImmv .ebx 0x90AE),
    ([0xC0, 0x87, 0x34, 0x12, 0xAF], .rolRm8Imm8 (.mem (.based16 .bx (.d16 0x1234))) 0xAF),
    ([0xC1, 0xC2, 0xB0], .rolRmvImm8 (.reg .edx) 0xB0),
    ([0xD0, 0x04], .rolRm8One (.mem (.based16 .si .none))),
    ([0xD1, 0xC4], .rolRmvOne (.reg .esp)),
    ([0xD2, 0x01], .rolRm8Cl (.mem (.based16 .bxdi .none))),
    ([0xD3, 0xC6], .rolRmvCl (.reg .esi)),
    ([0xC0, 0x8F, 0x34, 0x12, 0xB5], .rorRm8Imm8 (.mem (.based16 .bx (.d16 0x1234))) 0xB5),
    ([0xC1, 0xC8, 0xB6], .rorRmvImm8 (.reg .eax) 0xB6),
    ([0xD0, 0x0C], .rorRm8One (.mem (.based16 .si .none))),
    ([0xD1, 0xCA], .rorRmvOne (.reg .edx)),
    ([0xD2, 0x09], .rorRm8Cl (.mem (.based16 .bxdi .none))),
    ([0xD3, 0xCC], .rorRmvCl (.reg .esp)),
    ([0xC0, 0x97, 0x34, 0x12, 0xBB], .rclRm8Imm8 (.mem (.based16 .bx (.d16 0x1234))) 0xBB),
    ([0xC1, 0xD6, 0xBC], .rclRmvImm8 (.reg .esi) 0xBC),
    ([0xD0, 0x14], .rclRm8One (.mem (.based16 .si .none))),
    ([0xD1, 0xD0], .rclRmvOne (.reg .eax)),
    ([0xD2, 0x11], .rclRm8Cl (.mem (.based16 .bxdi .none))),
    ([0xD3, 0xD2], .rclRmvCl (.reg .edx))] : List (List Byte × Instr)).all reads16 = true := by
  decide +kernel

/-- Words written out from the opcode table and the ModRM tables, `rcrRm8Imm8` to `leave`. -/
theorem test_decode_7 : ([
    ([0xC0, 0x9F, 0x34, 0x12, 0xC1], .rcrRm8Imm8 (.mem (.based16 .bx (.d16 0x1234))) 0xC1),
    ([0xC1, 0xDC, 0xC2], .rcrRmvImm8 (.reg .esp) 0xC2),
    ([0xD0, 0x1C], .rcrRm8One (.mem (.based16 .si .none))),
    ([0xD1, 0xDE], .rcrRmvOne (.reg .esi)),
    ([0xD2, 0x19], .rcrRm8Cl (.mem (.based16 .bxdi .none))),
    ([0xD3, 0xD8], .rcrRmvCl (.reg .eax)),
    ([0xC0, 0xA7, 0x34, 0x12, 0xC7], .shlRm8Imm8 (.mem (.based16 .bx (.d16 0x1234))) 0xC7),
    ([0xC1, 0xE2, 0xC8], .shlRmvImm8 (.reg .edx) 0xC8),
    ([0xD0, 0x24], .shlRm8One (.mem (.based16 .si .none))),
    ([0xD1, 0xE4], .shlRmvOne (.reg .esp)),
    ([0xD2, 0x21], .shlRm8Cl (.mem (.based16 .bxdi .none))),
    ([0xD3, 0xE6], .shlRmvCl (.reg .esi)),
    ([0xC0, 0xAF, 0x34, 0x12, 0xCD], .shrRm8Imm8 (.mem (.based16 .bx (.d16 0x1234))) 0xCD),
    ([0xC1, 0xE8, 0xCE], .shrRmvImm8 (.reg .eax) 0xCE),
    ([0xD0, 0x2C], .shrRm8One (.mem (.based16 .si .none))),
    ([0xD1, 0xEA], .shrRmvOne (.reg .edx)),
    ([0xD2, 0x29], .shrRm8Cl (.mem (.based16 .bxdi .none))),
    ([0xD3, 0xEC], .shrRmvCl (.reg .esp)),
    ([0xC0, 0xBF, 0x34, 0x12, 0xD3], .sarRm8Imm8 (.mem (.based16 .bx (.d16 0x1234))) 0xD3),
    ([0xC1, 0xFE, 0xD4], .sarRmvImm8 (.reg .esi) 0xD4),
    ([0xD0, 0x3C], .sarRm8One (.mem (.based16 .si .none))),
    ([0xD1, 0xF8], .sarRmvOne (.reg .eax)),
    ([0xD2, 0x39], .sarRm8Cl (.mem (.based16 .bxdi .none))),
    ([0xD3, 0xFA], .sarRmvCl (.reg .edx)),
    ([0xC2, 0xD9, 0x90], .retImm16 0x90D9),
    ([0xC3], .ret),
    ([0xC4, 0x14], .lesRvM16v .edx (.based16 .si .none)),
    ([0xC5, 0x6E, 0xFE], .ldsRvM16v .ebp (.based16 .bp (.d8 0xFE))),
    ([0xC6, 0x01, 0xDD], .movRm8Imm8 (.mem (.based16 .bxdi .none)) 0xDD),
    ([0xC7, 0xC0, 0xDE, 0x90], .movRmvImmv (.reg .eax) 0x90DE),
    ([0xC8, 0x34, 0x12, 0x05], .enterImm16Imm8 0x1234 5),
    ([0xC9], .leave)] : List (List Byte × Instr)).all reads16 = true := by
  decide +kernel

/-- Words written out from the opcode table and the ModRM tables, `retfImm16` to `hlt`. -/
theorem test_decode_8 : ([
    ([0xCA, 0xE1, 0x90], .retfImm16 0x90E1),
    ([0xCB], .retf),
    ([0xCC], .int3),
    ([0xCD, 0xE4], .intImm8 0xE4),
    ([0xCE], .into),
    ([0xCF], .iret),
    ([0xD4, 0x0A], .aam 10),
    ([0xD5, 0x0A], .aad 10),
    ([0xD7], .xlat),
    ([0xDA, 0x5A, 0x04], .esc 2 3 (.mem (.based16 .bpsi (.d8 0x04)))),
    ([0xDB, 0xE3], .fninit),
    ([0xDF, 0xE0], .fnstswAx),
    ([0xDD, 0x3C], .fnstswM16 (.based16 .si .none)),
    ([0xD9, 0x7E, 0xFE], .fnstcwM16 (.based16 .bp (.d8 0xFE))),
    ([0xD9, 0x29], .fldcwM16 (.based16 .bxdi .none)),
    ([0xE0, 0xF0], .loopneRel8 0xF0),
    ([0xE1, 0xF1], .loopeRel8 0xF1),
    ([0xE2, 0xF2], .loopRel8 0xF2),
    ([0xE3, 0xF3], .jcxzRel8 0xF3),
    ([0xE4, 0xF4], .inAlImm8 0xF4),
    ([0xE5, 0xF5], .inEaxImm8 0xF5),
    ([0xE6, 0xF6], .outImm8Al 0xF6),
    ([0xE7, 0xF7], .outImm8Eax 0xF7),
    ([0xE8, 0xF8, 0x90], .callRelv 0x90F8),
    ([0xE9, 0xF9, 0x90], .jmpRelv 0x90F9),
    ([0xEA, 0x78, 0x56, 0x34, 0x12], .jmpPtr16v 0x5678 0x1234),
    ([0xEB, 0xFB], .jmpRel8 0xFB),
    ([0xEC], .inAlDx),
    ([0xED], .inEaxDx),
    ([0xEE], .outDxAl),
    ([0xEF], .outDxEax),
    ([0xF4], .hlt)] : List (List Byte × Instr)).all reads16 = true := by
  decide +kernel

/-- Words written out from the opcode table and the ModRM tables, `cmc` to `strRm16`. -/
theorem test_decode_9 : ([
    ([0xF5], .cmc),
    ([0xF6, 0xC4, 0x82], .testRm8Imm8 (.reg .ah) 0x82),
    ([0xF7, 0x87, 0x34, 0x12, 0x03, 0x91], .testRmvImmv (.mem (.based16 .bx (.d16 0x1234))) 0x9103),
    ([0xF6, 0xD6], .notRm8 (.reg .dh)),
    ([0xF7, 0x14], .notRmv (.mem (.based16 .si .none))),
    ([0xF6, 0xD8], .negRm8 (.reg .al)),
    ([0xF7, 0x19], .negRmv (.mem (.based16 .bxdi .none))),
    ([0xF6, 0xE2], .mulRm8 (.reg .dl)),
    ([0xF7, 0xA7, 0x34, 0x12], .mulRmv (.mem (.based16 .bx (.d16 0x1234)))),
    ([0xF6, 0xEC], .imulRm8 (.reg .ah)),
    ([0xF7, 0x2C], .imulRmv (.mem (.based16 .si .none))),
    ([0xF6, 0xF6], .divRm8 (.reg .dh)),
    ([0xF7, 0x31], .divRmv (.mem (.based16 .bxdi .none))),
    ([0xF6, 0xF8], .idivRm8 (.reg .al)),
    ([0xF7, 0xBF, 0x34, 0x12], .idivRmv (.mem (.based16 .bx (.d16 0x1234)))),
    ([0xF8], .clc),
    ([0xF9], .stc),
    ([0xFA], .cli),
    ([0xFB], .sti),
    ([0xFC], .cld),
    ([0xFD], .std),
    ([0xFE, 0xC0], .incRm8 (.reg .al)),
    ([0xFE, 0x0C], .decRm8 (.mem (.based16 .si .none))),
    ([0xFF, 0xC2], .incRmv (.reg .edx)),
    ([0xFF, 0x09], .decRmv (.mem (.based16 .bxdi .none))),
    ([0xFF, 0xD4], .callRmv (.reg .esp)),
    ([0xFF, 0x9F, 0x34, 0x12], .callM16v (.based16 .bx (.d16 0x1234))),
    ([0xFF, 0xE6], .jmpRmv (.reg .esi)),
    ([0xFF, 0x2C], .jmpM16v (.based16 .si .none)),
    ([0xFF, 0xF0], .pushMv (.reg .eax)),
    ([0x0F, 0x00, 0x01], .sldtRm16 (.mem (.based16 .bxdi .none))),
    ([0x0F, 0x00, 0xCA], .strRm16 (.reg .edx))] : List (List Byte × Instr)).all reads16 = true := by
  decide +kernel

/-- Words written out from the opcode table and the ModRM tables, `lldtRm16` to `jnsRelv`. -/
theorem test_decode_10 : ([
    ([0x0F, 0x00, 0x97, 0x34, 0x12], .lldtRm16 (.mem (.based16 .bx (.d16 0x1234)))),
    ([0x0F, 0x00, 0xDC], .ltrRm16 (.reg .esp)),
    ([0x0F, 0x00, 0x24], .verrRm16 (.mem (.based16 .si .none))),
    ([0x0F, 0x00, 0xEE], .verwRm16 (.reg .esi)),
    ([0x0F, 0x01, 0x01], .sgdtM (.based16 .bxdi .none)),
    ([0x0F, 0x01, 0x4A, 0x04], .sidtM (.based16 .bpsi (.d8 0x04))),
    ([0x0F, 0x01, 0x97, 0x34, 0x12], .lgdtM (.based16 .bx (.d16 0x1234))),
    ([0x0F, 0x01, 0x1E, 0x78, 0x56], .lidtM (.direct16 0x5678)),
    ([0x0F, 0x01, 0x24], .smswRm16 (.mem (.based16 .si .none))),
    ([0x0F, 0x01, 0xF4], .lmswRm16 (.reg .esp)),
    ([0x0F, 0x01, 0x39], .invlpgM (.based16 .bxdi .none)),
    ([0x0F, 0x02, 0xEE], .larRvRmv .ebp (.reg .esi)),
    ([0x0F, 0x03, 0x87, 0x34, 0x12], .lslRvRmv .eax (.mem (.based16 .bx (.d16 0x1234)))),
    ([0x0F, 0x06], .clts),
    ([0x0F, 0x08], .invd),
    ([0x0F, 0x09], .wbinvd),
    ([0x0F, 0x20, 0xE7], .movR32CRn .edi 4),
    ([0x0F, 0x21, 0xFC], .movR32DRn .esp 7),
    ([0x0F, 0x22, 0xD1], .movCRnR32 2 .ecx),
    ([0x0F, 0x23, 0xEE], .movDRnR32 5 .esi),
    ([0x0F, 0x24, 0xC3], .movR32TRn .ebx 0),
    ([0x0F, 0x26, 0xD8], .movTRnR32 3 .eax),
    ([0x0F, 0x80, 0x37, 0x91], .joRelv 0x9137),
    ([0x0F, 0x81, 0x38, 0x91], .jnoRelv 0x9138),
    ([0x0F, 0x82, 0x39, 0x91], .jbRelv 0x9139),
    ([0x0F, 0x83, 0x3A, 0x91], .jaeRelv 0x913A),
    ([0x0F, 0x84, 0x3B, 0x91], .jeRelv 0x913B),
    ([0x0F, 0x85, 0x3C, 0x91], .jneRelv 0x913C),
    ([0x0F, 0x86, 0x3D, 0x91], .jbeRelv 0x913D),
    ([0x0F, 0x87, 0x3E, 0x91], .jaRelv 0x913E),
    ([0x0F, 0x88, 0x3F, 0x91], .jsRelv 0x913F),
    ([0x0F, 0x89, 0x40, 0x91], .jnsRelv 0x9140)] : List (List Byte × Instr)).all reads16 = true := by
  decide +kernel

/-- Words written out from the opcode table and the ModRM tables, `jpRelv` to `btsRmvImm8`. -/
theorem test_decode_11 : ([
    ([0x0F, 0x8A, 0x41, 0x91], .jpRelv 0x9141),
    ([0x0F, 0x8B, 0x42, 0x91], .jnpRelv 0x9142),
    ([0x0F, 0x8C, 0x43, 0x91], .jlRelv 0x9143),
    ([0x0F, 0x8D, 0x44, 0x91], .jgeRelv 0x9144),
    ([0x0F, 0x8E, 0x45, 0x91], .jleRelv 0x9145),
    ([0x0F, 0x8F, 0x46, 0x91], .jgRelv 0x9146),
    ([0x0F, 0x90, 0x34], .setoRm8 (.mem (.based16 .si .none))),
    ([0x0F, 0x91, 0xCA], .setnoRm8 (.reg .dl)),
    ([0x0F, 0x92, 0x21], .setbRm8 (.mem (.based16 .bxdi .none))),
    ([0x0F, 0x93, 0xFC], .setaeRm8 (.reg .ah)),
    ([0x0F, 0x94, 0x97, 0x34, 0x12], .seteRm8 (.mem (.based16 .bx (.d16 0x1234)))),
    ([0x0F, 0x95, 0xEE], .setneRm8 (.reg .dh)),
    ([0x0F, 0x96, 0x04], .setbeRm8 (.mem (.based16 .si .none))),
    ([0x0F, 0x97, 0xD8], .setaRm8 (.reg .al)),
    ([0x0F, 0x98, 0x31], .setsRm8 (.mem (.based16 .bxdi .none))),
    ([0x0F, 0x99, 0xCA], .setnsRm8 (.reg .dl)),
    ([0x0F, 0x9A, 0xA7, 0x34, 0x12], .setpRm8 (.mem (.based16 .bx (.d16 0x1234)))),
    ([0x0F, 0x9B, 0xFC], .setnpRm8 (.reg .ah)),
    ([0x0F, 0x9C, 0x14], .setlRm8 (.mem (.based16 .si .none))),
    ([0x0F, 0x9D, 0xEE], .setgeRm8 (.reg .dh)),
    ([0x0F, 0x9E, 0x01], .setleRm8 (.mem (.based16 .bxdi .none))),
    ([0x0F, 0x9F, 0xD8], .setgRm8 (.reg .al)),
    ([0x0F, 0xA0], .pushFs),
    ([0x0F, 0xA1], .popFs),
    ([0x0F, 0xA8], .pushGs),
    ([0x0F, 0xA9], .popGs),
    ([0x0F, 0xA3, 0x11], .btRmvRv (.mem (.based16 .bxdi .none)) .edx),
    ([0x0F, 0xAB, 0xEE], .btsRmvRv (.reg .esi) .ebp),
    ([0x0F, 0xB3, 0x87, 0x34, 0x12], .btrRmvRv (.mem (.based16 .bx (.d16 0x1234))) .eax),
    ([0x0F, 0xBB, 0xD8], .btcRmvRv (.reg .eax) .ebx),
    ([0x0F, 0xBA, 0x24, 0xDF], .btRmvImm8 (.mem (.based16 .si .none)) 0xDF),
    ([0x0F, 0xBA, 0xEA, 0xE0], .btsRmvImm8 (.reg .edx) 0xE0)] : List (List Byte × Instr)).all reads16 = true := by
  decide +kernel

/-- Words written out from the opcode table and the ModRM tables, `btrRmvImm8` to `bswapR32`. -/
theorem test_decode_12 : ([
    ([0x0F, 0xBA, 0x31, 0xE1], .btrRmvImm8 (.mem (.based16 .bxdi .none)) 0xE1),
    ([0x0F, 0xBA, 0xFC, 0xE2], .btcRmvImm8 (.reg .esp) 0xE2),
    ([0x0F, 0xA4, 0x97, 0x34, 0x12, 0xE3], .shldRmvRvImm8 (.mem (.based16 .bx (.d16 0x1234))) .edx 0xE3),
    ([0x0F, 0xA5, 0xEE], .shldRmvRvCl (.reg .esi) .ebp),
    ([0x0F, 0xAC, 0x04, 0xE5], .shrdRmvRvImm8 (.mem (.based16 .si .none)) .eax 0xE5),
    ([0x0F, 0xAD, 0xD8], .shrdRmvRvCl (.reg .eax) .ebx),
    ([0x0F, 0xAF, 0x31], .imulRvRmv .esi (.mem (.based16 .bxdi .none))),
    ([0x0F, 0xB2, 0x4A, 0x04], .lssRvM16v .ecx (.based16 .bpsi (.d8 0x04))),
    ([0x0F, 0xB4, 0xA7, 0x34, 0x12], .lfsRvM16v .esp (.based16 .bx (.d16 0x1234))),
    ([0x0F, 0xB5, 0x3E, 0x78, 0x56], .lgsRvM16v .edi (.direct16 0x5678)),
    ([0x0F, 0xB6, 0x14], .movzxRvRm8 .edx (.mem (.based16 .si .none))),
    ([0x0F, 0xB7, 0xEE], .movzxR32Rm16 .ebp (.reg .esi)),
    ([0x0F, 0xBE, 0x01], .movsxRvRm8 .eax (.mem (.based16 .bxdi .none))),
    ([0x0F, 0xBF, 0xD8], .movsxR32Rm16 .ebx (.reg .eax)),
    ([0x0F, 0xBC, 0xB7, 0x34, 0x12], .bsfRvRmv .esi (.mem (.based16 .bx (.d16 0x1234)))),
    ([0x0F, 0xBD, 0xCA], .bsrRvRmv .ecx (.reg .edx)),
    ([0x0F, 0xB0, 0x24], .cmpxchgRm8R8 (.mem (.based16 .si .none)) .ah),
    ([0x0F, 0xB1, 0xFC], .cmpxchgRmvRv (.reg .esp) .edi),
    ([0x0F, 0xC0, 0x11], .xaddRm8R8 (.mem (.based16 .bxdi .none)) .dl),
    ([0x0F, 0xC1, 0xEE], .xaddRmvRv (.reg .esi) .ebp),
    ([0x0F, 0xC9], .bswapR32 .ecx)] : List (List Byte × Instr)).all reads16 = true := by
  decide +kernel

/-- The eight addressing forms of a byte displacement, R272, and the forms without one. -/
theorem test_decode_forms16 : ([
    ([0x8B, 0x00], load (.based16 .bxsi .none)), ([0x8B, 0x01], load (.based16 .bxdi .none)),
    ([0x8B, 0x02], load (.based16 .bpsi .none)), ([0x8B, 0x03], load (.based16 .bpdi .none)),
    ([0x8B, 0x04], load (.based16 .si .none)), ([0x8B, 0x05], load (.based16 .di .none)),
    ([0x8B, 0x06, 0x34, 0x12], load (.direct16 0x1234)), ([0x8B, 0x07], load (.based16 .bx .none)),
    ([0x8B, 0x46, 0x00], load (.based16 .bp (.d8 0))), ([0x8B, 0x86, 0x34, 0x12], load (.based16 .bp (.d16 0x1234)))]
    : List (List Byte × Instr)).all reads16 = true := by
  decide +kernel

/-- The 32-bit forms of R273: without a SIB byte, with one, and the two exceptions of mod 00. -/
theorem test_decode_forms32 : ([
    ([0x8B, 0x00], load (.based32 .eax .none)), ([0x8B, 0x46, 0xFC], load (.based32 .esi (.d8 0xFC))),
    ([0x8B, 0x87, 0x78, 0x56, 0x34, 0x12], load (.based32 .edi (.d32 0x12345678))),
    ([0x8B, 0x05, 0x78, 0x56, 0x34, 0x12], load (.direct32 0x12345678)),
    ([0x8B, 0x04, 0x8B], load (.sib 2 .ecx .ebx .none)), ([0x8B, 0x44, 0x24, 0x08], load (.sib 0 .esp .esp (.d8 8))),
    ([0x8B, 0x84, 0xF5, 0x01, 0x00, 0x00, 0x80], load (.sib 3 .esi .ebp (.d32 0x80000001))),
    ([0x8B, 0x04, 0x75, 0x78, 0x56, 0x34, 0x12], load (.sibNoBase 1 .esi 0x12345678)),
    ([0x8B, 0x44, 0x05, 0x00], load (.sib 0 .eax .ebp (.d8 0))), ([0xB8, 0x78, 0x56, 0x34, 0x12], .movRvImmv .eax 0x12345678),
    ([0xEA, 0x78, 0x56, 0x34, 0x12, 0xCD, 0xAB], .jmpPtr16v 0x12345678 0xABCD),
    ([0xA1, 0x78, 0x56, 0x34, 0x12], .movEaxMoffsv 0x12345678), ([0xDB, 0xC1], .esc 3 0 (.reg 1))]
    : List (List Byte × Instr)).all (reads ctx32) = true := by
  decide +kernel

/-- Opcodes of no instruction are refused by name: 0F FF, 8C with a segment register that is none, C6 with a digit that is
none, LEA of a register. -/
theorem test_decode_refuses :
    ([[0x0F, 0xFF], [0x8C, 0xF0], [0xC6, 0xC8], [0x8D, 0xC0]] : List (List Byte)).all
      (fun bs => match decode ctx16 bs with
        | .undef => true
        | _ => false) = true := by
  decide +kernel

/-! ## Single steps

Results stand in spec/95_test_vectors.md; a word with a prefix takes a step for the prefix. -/

/-- A processor with the default parameters. -/
def cfgOf (c : Cpu) : Config := { Config.default with cpu := c }

/-- A segment register of real mode. -/
def realSeg (sel : Word) : SegReg := SegReg.real sel (sel.setWidth 32 <<< 4)

/-- Real mode, segments at 1000h, IP 100h, SP 100h, the other registers 0. -/
def base (c : Cpu) : State :=
  { State.powerOn (cfgOf c) with
    cs := realSeg 0x1000, ds := realSeg 0x1000, es := realSeg 0x1000, ss := realSeg 0x1000
    eip := 0x100, resetLatch := false
    regs := { eax := 0, ecx := 0, edx := 0, ebx := 0, esp := 0x100, ebp := 0, esi := 0, edi := 0 } }

def withReg (q : Reg) (v : Dword) (s : State) : State := { s with regs := s.regs.set q v }

def withMem (a : Nat) : List Byte → State → State
  | [], s => s
  | b :: l, s => withMem (a + 1) l { s with mem := Memory.write s.mem a b }

/-- The flags CF, OF, SF, ZF, AF, PF, as six binary digits. -/
def withFlags (k : Nat) (s : State) : State :=
  { s with flags := { s.flags with
      cf := k / 32 % 2 = 1, ovf := k / 16 % 2 = 1, sf := k / 8 % 2 = 1, zf := k / 4 % 2 = 1, af := k / 2 % 2 = 1
      pf := k % 2 = 1 } }

def flagsOf (t : State) : Nat :=
  t.flags.cf.toNat * 32 + t.flags.ovf.toNat * 16 + t.flags.sf.toNat * 8 + t.flags.zf.toNat * 4 + t.flags.af.toNat * 2 +
    t.flags.pf.toNat

/-- The flags of a mask are those of a value; a flag the manual leaves open is not looked at. -/
def flagsAre (t : State) (mask v : Nat) : Bool :=
  (!mask.testBit 5 || t.flags.cf == v.testBit 5) && (!mask.testBit 4 || t.flags.ovf == v.testBit 4) &&
    (!mask.testBit 3 || t.flags.sf == v.testBit 3) && (!mask.testBit 2 || t.flags.zf == v.testBit 2) &&
    (!mask.testBit 1 || t.flags.af == v.testBit 1) && (!mask.testBit 0 || t.flags.pf == v.testBit 0)

def atIp (v : Dword) (s : State) : State := { s with eip := v }

def steps : Nat → State → Option State
  | 0, s => some s
  | n + 1, s =>
    match step s with
    | .next t => steps n t
    | _ => none

/-- The steps an instruction of these bytes takes lead to a state as said. -/
def runs (n : Nat) (bs : List Byte) (s : State) (p : State → Bool) : Bool :=
  match steps n (s.withCode bs) with
  | some t => p t
  | none => false

def byteAt (t : State) (a : Nat) : Byte := Memory.read t.mem a
def wordAt (t : State) (a : Nat) : Nat := (byteAt t a).toNat + 256 * (byteAt t (a + 1)).toNat
def dwordAt (t : State) (a : Nat) : Nat := wordAt t a + 65536 * wordAt t (a + 2)
def ax (t : State) : Nat := (t.reg 16 .eax).toNat
def bx (t : State) : Nat := (t.reg 16 .ebx).toNat
def cx (t : State) : Nat := (t.reg 16 .ecx).toNat
def dx (t : State) : Nat := (t.reg 16 .edx).toNat
def sp (t : State) : Nat := (t.reg 16 .esp).toNat
def si (t : State) : Nat := (t.reg 16 .esi).toNat
def di (t : State) : Nat := (t.reg 16 .edi).toNat
def al (t : State) : Nat := ax t % 256
def nip (t : State) : Nat := t.eip.toNat
def withSeg (q : SReg) (v : Word) (s : State) : State := s.setSeg q (realSeg v)

/-- A vector of the real-mode table. -/
def vectorTo (n : Nat) (sel off : Word) (s : State) : State :=
  withMem (4 * n) [off.extractLsb' 0 8, off.extractLsb' 8 8, sel.extractLsb' 0 8, sel.extractLsb' 8 8] s

def withIntr (n : Byte) (s : State) : State := { s with pins := { s.pins with intr := some n } }
def withIf (s : State) : State := { s with flags := { s.flags with intf := true } }
def withDf (s : State) : State := { s with flags := { s.flags with df := true } }
def withPorts (l : List (Nat × Byte)) (s : State) : State := { s with portIn := l }
def inHandler (t : State) (n : Nat) : Bool := t.cs.sel == 0x7000 && nip t == n

/-- The bytes of a segment descriptor. -/
def descBytes (limit : Nat) (b : Nat) (acc : Byte) (hi : Byte) : List Byte :=
  [BitVec.ofNat 8 limit, BitVec.ofNat 8 (limit / 256), BitVec.ofNat 8 b, BitVec.ofNat 8 (b / 256),
    BitVec.ofNat 8 (b / 65536), acc, hi, BitVec.ofNat 8 (b / 2 ^ 24)]

/-- The bytes of a gate. -/
def gateBytes (off sel : Nat) (cnt acc : Byte) : List Byte :=
  [BitVec.ofNat 8 off, BitVec.ofNat 8 (off / 256), BitVec.ofNat 8 sel, BitVec.ofNat 8 (sel / 256), cnt, acc,
    BitVec.ofNat 8 (off / 2 ^ 16), BitVec.ofNat 8 (off / 2 ^ 24)]

/-- A segment register of protected mode. -/
def segAt (sel : Word) (b lim : Dword) (acc : Byte) (big : Bool) : SegReg :=
  { sel := sel, valid := true, base := b, limit := lim, access := acc, big := big, gran := false, avl := false
    realKind := false }

/-- Protected mode at a level, segments of 64 KB at 10000h, the GDT at 8000h, the IDT at 9000h, a TSS at A000h. -/
def protectedAt (c : Cpu) (cpl : Nat) : State :=
  let acc (a : Byte) : Byte := a ||| (BitVec.ofNat 8 cpl <<< 5)
  { base c with
    cr0 := { (base c).cr0 with pe := true }
    cs := segAt (BitVec.ofNat 16 (0x18 + cpl)) 0x10000 0xFFFF (acc 0x9B) false
    ss := segAt (BitVec.ofNat 16 (0x20 + cpl)) 0x10000 0xFFFF (acc 0x93) false
    ds := segAt (BitVec.ofNat 16 (0x20 + cpl)) 0x10000 0xFFFF (acc 0x93) false
    es := segAt (BitVec.ofNat 16 (0x20 + cpl)) 0x10000 0xFFFF (acc 0x93) false
    gdtr := { base := 0x8000, limit := 0xFF }, idtr := { base := 0x9000, limit := 0x7FF }
    tr := { sel := 0x28, base := 0xA000, limit := 0x100, is386 := 3 ≤ c.level } }

def gdtEntry (i : Nat) (d : List Byte) (s : State) : State := withMem (0x8000 + 8 * i) d s
def idtEntry (i : Nat) (d : List Byte) (s : State) : State := withMem (0x9000 + 8 * i) d s

/-- Exception `n` has an interrupt gate of the 80286 to offset `n` of a code segment at 30000h. -/
def catching (n cpl : Nat) (big : Bool) (s : State) : State :=
  gdtEntry 19 (descBytes 0xFFFF 0x30000 (0x9A ||| (BitVec.ofNat 8 cpl <<< 5)) 0)
    (idtEntry n (gateBytes n (0x98 + cpl) 0 (if big then 0xEE else 0xE6)) s)

/-- Exception `n` was taken so, with the error word and the saved IP on the stack. -/
def caught (t : State) (n : Nat) (err : Option Nat) (big : Bool) (ret : Nat) : Bool :=
  t.cs.base == 0x30000 && nip t == n &&
    (let sp := 0x10000 + t.regs.esp.toNat % 65536
     match err with
     | some e => if big then dwordAt t sp == e && dwordAt t (sp + 4) == ret else wordAt t sp == e && wordAt t (sp + 2) == ret
     | none => if big then dwordAt t sp == ret else wordAt t sp == ret)

def withTs (s : State) : State := { s with cr0 := { s.cr0 with ts := true } }
def withMp (s : State) : State := { s with cr0 := { s.cr0 with mp := true } }
def withEm (s : State) : State := { s with cr0 := { s.cr0 with em := true } }
def withIopl (k : BitVec 2) (s : State) : State := { s with flags := { s.flags with iopl := k } }

/-- spec/95_test_vectors.md T41.1. -/
theorem test_add_al_overflow : runs 1 [0x04, 0x50] (withReg .eax 0x50 (base .i80486)) (fun t => al t == 0xA0 &&
    flagsOf t == 0b011001) = true := by
  decide +kernel

/-- spec/95_test_vectors.md T41.4. -/
theorem test_add_word_carry_and_zero : runs 1 [0x01, 0xD8] (withReg .eax 0x8000 (withReg .ebx 0x8000 (base
    .i80486))) (fun t => ax t == 0 && flagsOf t == 0b110101) = true := by
  decide +kernel

/-- spec/95_test_vectors.md T41.5. -/
theorem test_add_doubleword_carry : runs 2 [0x66, 0x83, 0xC0, 0x01] (withReg .eax 0xFFFFFFFF (base .i80486)) (fun t
    => t.regs.eax == 0 && flagsOf t == 0b100111) = true := by
  decide +kernel

/-- spec/95_test_vectors.md T41.7. -/
theorem test_adc_takes_carry : runs 1 [0x14, 0x00] (withFlags 32 (withReg .eax 0xFF (base .i80486))) (fun t => al t
    == 0 && flagsOf t == 0b100111) = true := by
  decide +kernel

/-- spec/95_test_vectors.md T41.10. -/
theorem test_inc_keeps_carry : runs 1 [0x40] (withFlags 32 (withReg .eax 0x7FFF (base .i80486))) (fun t => ax t ==
    0x8000 && flagsOf t == 0b111011) = true := by
  decide +kernel

/-- spec/95_test_vectors.md T41.14. -/
theorem test_sub_borrow : runs 1 [0x2C, 0x05] (withReg .eax 3 (base .i80486)) (fun t => al t == 0xFE && flagsOf t ==
    0b101010) = true := by
  decide +kernel

/-- spec/95_test_vectors.md T41.15. -/
theorem test_sbb_takes_carry : runs 1 [0x1C, 0xFF] (withFlags 32 (withReg .eax 0 (base .i80486))) (fun t => al t ==
    0 && flagsOf t == 0b100111) = true := by
  decide +kernel

/-- spec/95_test_vectors.md T41.16. -/
theorem test_dec_overflow : runs 1 [0x48] (withReg .eax 0x8000 (base .i80486)) (fun t => ax t == 0x7FFF && flagsOf t
    == 0b010011) = true := by
  decide +kernel

/-- spec/95_test_vectors.md T41.18. -/
theorem test_cmp_changes_flags_only : runs 1 [0x3C, 0x80] (withReg .eax 0x7F (base .i80486)) (fun t => al t == 0x7F
    && flagsOf t == 0b111001) = true := by
  decide +kernel

/-- spec/95_test_vectors.md T41.20. -/
theorem test_neg_most_negative : runs 1 [0xF6, 0xD8] (withReg .eax 0x80 (base .i80486)) (fun t => al t == 0x80 &&
    flagsOf t == 0b111000) = true := by
  decide +kernel

/-- spec/95_test_vectors.md T41.41. -/
theorem test_add_sign_extended_byte : runs 1 [0x83, 0x06, 0x00, 0x02, 0xFF] ( withMem 0x10200 [1,0] (base .i80486))
    (fun t => wordAt t 0x10200 == 0 && flagsOf t == 0b100111) = true := by
  decide +kernel

/-- spec/95_test_vectors.md T41.24. -/
theorem test_mul_byte : runs 1 [0xF6, 0xE3] (withReg .eax 0xFF (withReg .ebx 0xFF (base .i80486))) (fun t => ax t ==
    0xFE01 && flagsAre t 0b110000 48) = true := by
  decide +kernel

/-- spec/95_test_vectors.md T41.26. -/
theorem test_mul_word : runs 1 [0xF7, 0xE3] (withReg .eax 0xFFFF (withReg .ebx 0xFFFF (base .i80486))) (fun t => ax
    t == 1 && dx t == 0xFFFE && flagsAre t 0b110000 48) = true := by
  decide +kernel

/-- spec/95_test_vectors.md T41.27. -/
theorem test_imul_byte : runs 1 [0xF6, 0xEB] (withReg .eax 0xFE (withReg .ebx 3 (base .i80486))) (fun t => ax t ==
    0xFFFA && flagsAre t 0b110000 0) = true := by
  decide +kernel

/-- spec/95_test_vectors.md T41.30. -/
theorem test_imul_byte_needs_ah : runs 1 [0xF6, 0xEB] (withReg .eax 0x80 (withReg .ebx 0xFF (base .i80486))) (fun t
    => ax t == 0x80 && flagsAre t 0b110000 48) = true := by
  decide +kernel

/-- spec/95_test_vectors.md T41.31. -/
theorem test_div_byte : runs 1 [0xF6, 0xF3] (withReg .eax 0x100 (withReg .ebx 2 (base .i80486))) (fun t => ax t ==
    0x80) = true := by
  decide +kernel

/-- spec/95_test_vectors.md T41.33. -/
theorem test_div_overflow_8086_saves_next : runs 1 [0xF6, 0xF3] ( withMem 0 [0,2,0x34,0x12] (atIp 0x105 (withReg
    .eax 0x200 (base .i8086)))) (fun t => wordAt t 0x100FA == 0x107 && wordAt t 0x100FC == 0x1000 && wordAt t
    0x100FE == 2 && nip t == 0x200) = true := by
  decide +kernel

/-- spec/95_test_vectors.md T41.35. -/
theorem test_idiv_negative_divisor : runs 1 [0xF6, 0xFB] (withReg .eax 7 (withReg .ebx 0xFE (base .i80486))) (fun t
    => ax t == 0x01FD) = true := by
  decide +kernel

/-- spec/95_test_vectors.md T41.36. -/
theorem test_idiv_most_negative_quotient_8086 : runs 1 [0xF6, 0xFB] ( withMem 0 [0,2,0x34,0x12] (withReg .eax 0xFF80
    (withReg .ebx 1 (base .i8086)))) (fun t => ax t == 0xFF80 && nip t == 0x200) = true := by
  decide +kernel

/-- spec/95_test_vectors.md T41.39. -/
theorem test_cbw : runs 1 [0x98] (withFlags 63 (withReg .eax 0x80 (base .i80486))) (fun t => ax t == 0xFF80 &&
    flagsOf t == 63) = true := by
  decide +kernel

/-- spec/95_test_vectors.md T41.40. -/
theorem test_cwd : runs 1 [0x99] (withReg .eax 0x8000 (base .i80486)) (fun t => dx t == 0xFFFF) = true := by
  decide +kernel

/-- spec/95_test_vectors.md T42.1. -/
theorem test_and : runs 1 [0x24, 0x3C] (withReg .eax 0xF0 (base .i80486)) (fun t => al t == 0x30 && flagsAre t
    0b111101 0b000001) = true := by
  decide +kernel

/-- spec/95_test_vectors.md T42.2. -/
theorem test_or : runs 1 [0x0C, 0x01] (withReg .eax 0x80 (base .i80486)) (fun t => al t == 0x81 && flagsAre t
    0b111101 0b001001) = true := by
  decide +kernel

/-- spec/95_test_vectors.md T42.3. -/
theorem test_xor : runs 1 [0x31, 0xC0] (withFlags 48 (withReg .eax 0x1234 (base .i80486))) (fun t => ax t == 0 &&
    flagsAre t 0b111101 0b000101) = true := by
  decide +kernel

/-- spec/95_test_vectors.md T42.4. -/
theorem test_test : runs 1 [0xA8, 0x80] (withReg .eax 0x80 (base .i80486)) (fun t => al t == 0x80 && flagsAre t
    0b111101 0b001000) = true := by
  decide +kernel

/-- spec/95_test_vectors.md T42.5. -/
theorem test_not_keeps_flags : runs 1 [0xF6, 0xD0] (withFlags 51 (withReg .eax 0x0F (base .i80486))) (fun t => al t
    == 0xF0 && flagsOf t == 51) = true := by
  decide +kernel

/-- spec/95_test_vectors.md T42.10. -/
theorem test_rol_one : runs 1 [0xD0, 0xC0] (withReg .eax 0x81 (base .i80486)) (fun t => al t == 3 && flagsAre t
    0b110000 0b110000) = true := by
  decide +kernel

/-- spec/95_test_vectors.md T42.11. -/
theorem test_ror_one : runs 1 [0xD0, 0xC8] (withReg .eax 1 (base .i80486)) (fun t => al t == 0x80 && flagsAre t
    0b110000 0b110000) = true := by
  decide +kernel

/-- spec/95_test_vectors.md T42.12. -/
theorem test_rcl_one : runs 1 [0xD0, 0xD0] (withReg .eax 0x80 (base .i80486)) (fun t => al t == 0 && flagsAre t
    0b111111 0b110000) = true := by
  decide +kernel

/-- spec/95_test_vectors.md T42.13. -/
theorem test_rcr_one : runs 1 [0xD1, 0xD8] (withFlags 32 (withReg .eax 1 (base .i80486))) (fun t => ax t == 0x8000
    && flagsAre t 0b110000 0b110000) = true := by
  decide +kernel

/-- spec/95_test_vectors.md T42.17. -/
theorem test_rol_count_unmasked : runs 1 [0xD2, 0xC0] (withReg .ecx 0x21 (withReg .eax 0x81 (base .i8086))) (fun t
    => al t == 3 && flagsAre t 0b100000 0b100000) = true := by
  decide +kernel

/-- spec/95_test_vectors.md T42.18. -/
theorem test_rol_count_masked : runs 1 [0xD2, 0xC0] (withReg .ecx 0x21 (withReg .eax 0x81 (base .i80486))) (fun t =>
    al t == 3 && flagsAre t 0b110000 0b110000) = true := by
  decide +kernel

/-- spec/95_test_vectors.md T42.22. -/
theorem test_shl_overflow : runs 1 [0xD1, 0xE0] (withReg .eax 0x4000 (base .i80486)) (fun t => ax t == 0x8000 &&
    flagsAre t 0b111101 0b011001) = true := by
  decide +kernel

/-- spec/95_test_vectors.md T42.26. -/
theorem test_shl_count_zero_after_mask : runs 1 [0xD2, 0xE0] (withFlags 21 (withReg .ecx 0x20 (withReg .eax 0xFF
    (base .i80486)))) (fun t => al t == 0xFF && flagsAre t 0b111111 0b010101) = true := by
  decide +kernel

/-- spec/95_test_vectors.md T42.27. -/
theorem test_shr_one : runs 1 [0xD0, 0xE8] (withReg .eax 0x81 (base .i80486)) (fun t => al t == 0x40 && flagsAre t
    0b111101 0b110000) = true := by
  decide +kernel

/-- spec/95_test_vectors.md T42.30. -/
theorem test_sar_one : runs 1 [0xD0, 0xF8] (withReg .eax 0x81 (base .i80486)) (fun t => al t == 0xC0 && flagsAre t
    0b111101 0b101001) = true := by
  decide +kernel

/-- spec/95_test_vectors.md T20.1. -/
theorem test_mov_store_low_byte_first : runs 1 [0xA3, 0x00, 0x02] (withReg .eax 0x1234 (base .i80486)) (fun t =>
    byteAt t 0x10200 == 0x34 && byteAt t 0x10201 == 0x12) = true := by
  decide +kernel

/-- spec/95_test_vectors.md T20.6. -/
theorem test_mov_word_wraps_on_8086 : runs 1 [0x8B, 0x07] ( withMem 0x10000 [0x12] (withMem 0x1FFFF [0x34] (withReg
    .ebx 0xFFFF (base .i8086)))) (fun t => ax t == 0x1234) = true := by
  decide +kernel

/-- spec/95_test_vectors.md T20.8. -/
theorem test_mov_past_stack_limit : runs 1 [0x8B, 0x46, 0x00] (vectorTo 12 0x7000 12 (withReg .ebp 0xFFFF (base
    .i80486))) (fun t => inHandler t 12) = true := by
  decide +kernel

/-- spec/95_test_vectors.md T20.9. -/
theorem test_mov_bp_uses_ss : runs 1 [0x8A, 0x42, 0x04] ( withMem 0x20124 [0x77] (withSeg .ss 0x2000 (withReg .ebp
    0x100 (withReg .esi 0x20 (base .i80486))))) (fun t => al t == 0x77) = true := by
  decide +kernel

/-- spec/95_test_vectors.md T20.11. -/
theorem test_mov_override : runs 2 [0x26, 0x8A, 0x07] ( withMem 0x20010 [0x77] (withSeg .es 0x2000 (withReg .ebx
    0x10 (base .i80486)))) (fun t => al t == 0x77) = true := by
  decide +kernel

/-- spec/95_test_vectors.md T20.12. -/
theorem test_out_word_two_ports : runs 1 [0xEF] (withReg .edx 0x300 (withReg .eax 0x1234 (base .i80486))) (fun t =>
    t.portOut == [(0x301,0x12),(0x300,0x34)]) = true := by
  decide +kernel

/-- spec/95_test_vectors.md T20.14. -/
theorem test_xchg_memory : runs 1 [0x86, 0x06, 0x00, 0x02] ( withMem 0x10200 [0x55] (withReg .eax 0xAA (base
    .i80486))) (fun t => al t == 0x55 && byteAt t 0x10200 == 0xAA) = true := by
  decide +kernel

/-- spec/95_test_vectors.md T30.7. -/
theorem test_mov_16_keeps_upper_half : runs 1 [0x89, 0xD8] (withReg .eax 0xAAAA0000 (withReg .ebx 0x12345678 (base
    .i80486))) (fun t => t.regs.eax == 0xAAAA5678) = true := by
  decide +kernel

/-- spec/95_test_vectors.md T30.8. -/
theorem test_mov_sib : runs 2 [0x67, 0x8A, 0x24, 0xBB] ( withMem 0x10108 [0x44] (withReg .ebx 0x100 (withReg .edi 2
    (base .i80486)))) (fun t => ax t == 0x4400) = true := by
  decide +kernel

/-- spec/95_test_vectors.md T30.13. -/
theorem test_mov_too_long : runs 15 [0x66, 0x66, 0x66, 0x66, 0x66, 0x66, 0x66, 0x66, 0x66, 0x66, 0x66, 0x66, 0x66,
    0x66, 0x89, 0xD8] (vectorTo 13 0x7000 13 (base .i80486)) (fun t => inHandler t 13 && wordAt t 0x100FA == 0x100)
    = true := by
  decide +kernel

/-- spec/95_test_vectors.md T30.14. -/
theorem test_undefined_opcode : runs 1 [0x0F, 0xFF] (vectorTo 6 0x7000 6 (base .i80486)) (fun t => inHandler t 6 &&
    wordAt t 0x100FA == 0x100) = true := by
  decide +kernel

/-- spec/95_test_vectors.md T40.4. -/
theorem test_mov_to_ds : runs 1 [0x8E, 0xD8] (withReg .eax 0x1234 (base .i80486)) (fun t => t.ds.sel == 0x1234 &&
    t.ds.base == 0x12340) = true := by
  decide +kernel

/-- spec/95_test_vectors.md T40.6. -/
theorem test_mov_to_cs_is_undefined : runs 1 [0x8E, 0xC8] (vectorTo 6 0x7000 6 (withReg .eax 0x1234 (base .i80286)))
    (fun t => inHandler t 6) = true := by
  decide +kernel

/-- spec/95_test_vectors.md T40.7. -/
theorem test_mov_from_ds : runs 1 [0x8C, 0xD8] (withSeg .ds 0x2000 (base .i80486)) (fun t => ax t == 0x2000) = true
    := by
  decide +kernel

/-- spec/95_test_vectors.md T43.3. -/
theorem test_jmp_near_back : runs 1 [0xE9, 0xFD, 0xFF] ((base .i80486)) (fun t => nip t == 0x100) = true := by
  decide +kernel

/-- spec/95_test_vectors.md T43.6. -/
theorem test_jmp_far_memory : runs 1 [0xFF, 0x2E, 0x10, 0x00] ( withMem 0x10010 [0x78,0x56,0x34,0x12] (base
    .i80486)) (fun t => nip t == 0x5678 && t.cs.sel == 0x1234) = true := by
  decide +kernel

/-- spec/95_test_vectors.md T43.11. -/
theorem test_jcxz_taken : runs 1 [0xE3, 0x05] (withReg .ecx 0 (base .i80486)) (fun t => nip t == 0x107) = true := by
  decide +kernel

/-- spec/95_test_vectors.md T43.12. -/
theorem test_je_word_displacement : runs 1 [0x0F, 0x84, 0x00, 0x10] (withFlags 4 (base .i80486)) (fun t => nip t ==
    0x1104) = true := by
  decide +kernel

/-- spec/95_test_vectors.md T43.13. -/
theorem test_call_near : runs 1 [0xE8, 0x0D, 0x00] (atIp 0x10 (base .i80486)) (fun t => nip t == 0x20 && sp t ==
    0xFE && wordAt t 0x100FE == 0x13) = true := by
  decide +kernel

/-- spec/95_test_vectors.md T43.15. -/
theorem test_call_far : runs 1 [0x9A, 0x34, 0x12, 0x00, 0x20] (atIp 0 (base .i80486)) (fun t => nip t == 0x1234 &&
    t.cs.sel == 0x2000 && sp t == 0xFC && wordAt t 0x100FE == 0x1000 && wordAt t 0x100FC == 5) = true := by
  decide +kernel

/-- spec/95_test_vectors.md T43.17. -/
theorem test_ret_and_discard : runs 1 [0xC2, 0x02, 0x00] ( withMem 0x100FE [0x13,0] (withReg .esp 0xFE (base
    .i80486))) (fun t => nip t == 0x13 && sp t == 0x102) = true := by
  decide +kernel

/-- spec/95_test_vectors.md T43.19. -/
theorem test_retf_and_discard : runs 1 [0xCA, 0x04, 0x00] ( withMem 0x100FC [5,0,0,0x20] (withReg .esp 0xFC (base
    .i80486))) (fun t => nip t == 5 && sp t == 0x104 && t.cs.sel == 0x2000) = true := by
  decide +kernel

/-- spec/95_test_vectors.md T43.7 to T43.10. -/
theorem test_jg_not_taken : runs 1 [0x7F, 0x02] (withFlags 8 (base .i80486)) (fun t => nip t == 258 && flagsOf t ==
    8) = true := by
  decide +kernel

/-- spec/95_test_vectors.md T44.1. -/
theorem test_push : runs 1 [0x50] (withReg .eax 0x1234 (base .i80486)) (fun t => sp t == 0xFE && byteAt t 0x100FE ==
    0x34 && byteAt t 0x100FF == 0x12) = true := by
  decide +kernel

/-- spec/95_test_vectors.md T44.3. -/
theorem test_pop : runs 1 [0x5B] ( withMem 0x100FE [0x34,0x12] (withReg .esp 0xFE (base .i80486))) (fun t => sp t ==
    0x100 && bx t == 0x1234) = true := by
  decide +kernel

/-- spec/95_test_vectors.md T44.4. -/
theorem test_push_sp_8086 : runs 1 [0x54] ((base .i8086)) (fun t => sp t == 0xFE && wordAt t 0x100FE == 0xFE) = true
    := by
  decide +kernel

/-- spec/95_test_vectors.md T44.5. -/
theorem test_push_sp_80286 : runs 1 [0x54] ((base .i80286)) (fun t => sp t == 0xFE && wordAt t 0x100FE == 0x100) =
    true := by
  decide +kernel

/-- spec/95_test_vectors.md T44.9. -/
theorem test_pushf : runs 1 [0x9C] (withIf (withFlags 5 (base .i80486))) (fun t => wordAt t 0x100FE == 0x246 && sp t
    == 0xFE) = true := by
  decide +kernel

/-- spec/95_test_vectors.md T44.11. -/
theorem test_popf : runs 1 [0x9D] ( withMem 0x100FE [0xFF,0xFF] (withReg .esp 0xFE (base .i8086))) (fun t => flagsOf
    t == 63 && t.flags.intf && t.flags.df && t.flags.tf) = true := by
  decide +kernel

/-- spec/95_test_vectors.md T44.17. -/
theorem test_lahf : runs 1 [0x9F] (withFlags 0b101010 (base .i80486)) (fun t => ax t == 0x9300) = true := by
  decide +kernel

/-- spec/95_test_vectors.md T44.18. -/
theorem test_sahf : runs 1 [0x9E] (withFlags 16 (withReg .eax 0xD500 (base .i80486))) (fun t => flagsOf t == 63) =
    true := by
  decide +kernel

/-- spec/95_test_vectors.md T44.19. -/
theorem test_int_real : runs 1 [0xCD, 0x10] (vectorTo 0x10 0xF000 0x1234 (atIp 0x50 (withIf (base .i80486)))) (fun t
    => wordAt t 0x100FE == 0x202 && wordAt t 0x100FC == 0x1000 && wordAt t 0x100FA == 0x52 && sp t == 0xFA &&
    !t.flags.intf && t.cs.sel == 0xF000 && nip t == 0x1234) = true := by
  decide +kernel

/-- spec/95_test_vectors.md T44.21. -/
theorem test_int3_real : runs 1 [0xCC] (vectorTo 3 0xF000 0x1234 (atIp 0x50 (withIf (base .i80486)))) (fun t =>
    wordAt t 0x100FA == 0x51 && t.cs.sel == 0xF000 && nip t == 0x1234) = true := by
  decide +kernel

/-- spec/95_test_vectors.md T44.22. -/
theorem test_into_taken : runs 1 [0xCE] (vectorTo 4 0xF000 0x1234 (atIp 0x50 (withFlags 16 (base .i80486)))) (fun t
    => nip t == 0x1234 && t.cs.sel == 0xF000 && wordAt t 0x100FA == 0x51) = true := by
  decide +kernel

/-- spec/95_test_vectors.md T45.1. -/
theorem test_loop_taken : runs 1 [0xE2, 0xFB] (withReg .ecx 2 (atIp 0x105 (base .i80486))) (fun t => cx t == 1 &&
    nip t == 0x102) = true := by
  decide +kernel

/-- spec/95_test_vectors.md T45.3. -/
theorem test_loop_counter_zero : runs 1 [0xE2, 0xFB] (withReg .ecx 0 (atIp 0x105 (base .i80486))) (fun t => cx t ==
    0xFFFF && nip t == 0x102) = true := by
  decide +kernel

/-- spec/95_test_vectors.md T45.4. -/
theorem test_loope : runs 1 [0xE1, 0xFB] (withFlags 4 <| withReg .ecx 5 (atIp 0x105 (base .i80486))) (fun t => cx t
    == 4 && nip t == 0x102) = true := by
  decide +kernel

/-- spec/95_test_vectors.md T45.5. -/
theorem test_loopne : runs 1 [0xE0, 0xFB] (withFlags 4 <| withReg .ecx 2 (atIp 0x105 (base .i80486))) (fun t => cx t
    == 1 && nip t == 0x107) = true := by
  decide +kernel

/-- spec/95_test_vectors.md T45.7. -/
theorem test_in_al : runs 1 [0xE4, 0x60] (withPorts [(0x60,0x1C)] (base .i80486)) (fun t => al t == 0x1C) = true :=
    by
  decide +kernel

/-- spec/95_test_vectors.md T45.8. -/
theorem test_in_word : runs 1 [0xED] (withReg .edx 0x300 (withPorts [(0x301,0x12),(0x300,0x34)] (base .i80486)))
    (fun t => ax t == 0x1234) = true := by
  decide +kernel

/-- spec/95_test_vectors.md T45.9. -/
theorem test_out_al : runs 1 [0xE6, 0x20] (withReg .eax 0x20 (base .i80486)) (fun t => t.portOut == [(0x20,0x20)]) =
    true := by
  decide +kernel

/-- spec/95_test_vectors.md T45.11. -/
theorem test_xchg_accumulator : runs 1 [0x93] (withReg .eax 0x1111 (withReg .ebx 0x2222 (base .i80486))) (fun t =>
    ax t == 0x2222 && bx t == 0x1111) = true := by
  decide +kernel

/-- spec/95_test_vectors.md T45.14. -/
theorem test_xlat_wraps : runs 1 [0xD7] ( withMem 0x10001 [0x41] (withReg .ebx 0xFFFF (withReg .eax 2 (base
    .i80486)))) (fun t => al t == 0x41) = true := by
  decide +kernel

/-- spec/95_test_vectors.md T45.15. -/
theorem test_lea : runs 1 [0x8D, 0x5A, 0x04] (withReg .ebp 0x100 (withReg .esi 0x20 (base .i80486))) (fun t => bx t
    == 0x124) = true := by
  decide +kernel

/-- spec/95_test_vectors.md T45.16. -/
theorem test_lds : runs 1 [0xC5, 0x1E, 0x10, 0x00] ( withMem 0x10010 [0x34,0x12,0,0x20] (base .i80486)) (fun t => bx
    t == 0x1234 && t.ds.sel == 0x2000 && t.ds.base == 0x20000) = true := by
  decide +kernel

/-- spec/95_test_vectors.md T45.17. -/
theorem test_les : runs 1 [0xC4, 0x3E, 0x10, 0x00] ( withMem 0x10010 [0x34,0x12,0,0x20] (base .i80486)) (fun t => di
    t == 0x1234 && t.es.sel == 0x2000) = true := by
  decide +kernel

/-- spec/95_test_vectors.md T46.1. -/
theorem test_movsb : runs 1 [0xA4] ( withMem 0x10200 [0x41] (withReg .esi 0x200 (withReg .edi 0x300 (base
    .i80486)))) (fun t => byteAt t 0x10300 == 0x41 && si t == 0x201 && di t == 0x301) = true := by
  decide +kernel

/-- spec/95_test_vectors.md T46.2. -/
theorem test_movsw_down : runs 1 [0xA5] (withDf (withMem 0x10200 [0x41,0x42] (withReg .esi 0x200 (withReg .edi 0x300
    (base .i80486))))) (fun t => wordAt t 0x10300 == 0x4241 && si t == 0x1FE && di t == 0x2FE) = true := by
  decide +kernel

/-- spec/95_test_vectors.md T46.3. -/
theorem test_cmpsb : runs 1 [0xA6] ( withMem 0x10300 [0x42] (withMem 0x10200 [0x41] (withReg .esi 0x200 (withReg
    .edi 0x300 (base .i80486))))) (fun t => flagsOf t == 0b101011 && si t == 0x201 && di t == 0x301) = true := by
  decide +kernel

/-- spec/95_test_vectors.md T46.4. -/
theorem test_scasb : runs 1 [0xAE] ((withReg .esi 0x200 (withReg .edi 0x300 (base .i80486)))) (fun t => flagsOf t ==
    0b000101 && di t == 0x301 && si t == 0x200) = true := by
  decide +kernel

/-- spec/95_test_vectors.md T46.5. -/
theorem test_lodsw_down : runs 1 [0xAD] (withDf (withMem 0x10010 [0x34,0x12] (withReg .esi 0x10 (base .i80486))))
    (fun t => ax t == 0x1234 && si t == 0xE) = true := by
  decide +kernel

/-- spec/95_test_vectors.md T46.6. -/
theorem test_stosw : runs 1 [0xAB] ( withMem 0x10100 [5,5] (withReg .edi 0x100 (atIp 0x300 (base .i80486)))) (fun t
    => wordAt t 0x10100 == 0 && di t == 0x102) = true := by
  decide +kernel

/-- spec/95_test_vectors.md T46.8. -/
theorem test_rep_counter_zero : runs 2 [0xF3, 0xA4] ((withReg .esi 0x200 (withReg .edi 0x300 (base .i80486)))) (fun
    t => nip t == 0x102 && si t == 0x200 && di t == 0x300) = true := by
  decide +kernel

/-- spec/95_test_vectors.md T46.15. -/
theorem test_aaa : runs 1 [0x37] (withFlags 2 (withReg .eax 0x11 (base .i80486))) (fun t => ax t == 0x107 &&
    flagsAre t 34 34) = true := by
  decide +kernel

/-- spec/95_test_vectors.md T46.18. -/
theorem test_aas : runs 1 [0x3F] (withFlags 2 (withReg .eax 0x1FE (base .i80486))) (fun t => ax t == 8 && flagsAre t
    34 34) = true := by
  decide +kernel

/-- spec/95_test_vectors.md T46.19. -/
theorem test_aad : runs 1 [0xD5, 0x0A] (withFlags 0 (withReg .eax 0x307 (base .i80486))) (fun t => ax t == 0x25 &&
    flagsAre t 13 0) = true := by
  decide +kernel

/-- spec/95_test_vectors.md T46.21. -/
theorem test_aam : runs 1 [0xD4, 0x0A] (withFlags 0 (withReg .eax 0x3F (base .i80486))) (fun t => ax t == 0x603 &&
    flagsAre t 13 1) = true := by
  decide +kernel

/-- spec/95_test_vectors.md T46.25. -/
theorem test_daa : runs 1 [0x27] (withFlags 0 (withReg .eax 0xFA (base .i80486))) (fun t => al t == 0x60 && flagsAre
    t 34 34) = true := by
  decide +kernel

/-- spec/95_test_vectors.md T46.29. -/
theorem test_das : runs 1 [0x2F] (withFlags 34 (withReg .eax 0xFF (base .i80486))) (fun t => al t == 0x99 &&
    flagsAre t 34 34) = true := by
  decide +kernel

/-- spec/95_test_vectors.md T46.31. -/
theorem test_hlt : runs 1 [0xF4] (vectorTo 8 0x7000 8 (withIf (base .i80486))) (fun t => t.run == .halted && nip t
    == 0x101) = true := by
  decide +kernel

/-- spec/95_test_vectors.md T46.35. -/
theorem test_lock_refused : runs 2 [0xF0, 0x89, 0xD8] (vectorTo 6 0x7000 6 (base .i80486)) (fun t => inHandler t 6)
    = true := by
  decide +kernel

/-- spec/95_test_vectors.md T47.1. -/
theorem test_imul_three_operands : runs 1 [0x6B, 0xD1, 0x0A] (withReg .ecx 0x64 (base .i80486)) (fun t => dx t ==
    0x3E8 && flagsAre t 48 0) = true := by
  decide +kernel

/-- spec/95_test_vectors.md T47.7. -/
theorem test_push_sign_extended : runs 1 [0x6A, 0xFF] ((base .i80486)) (fun t => wordAt t 0x100FE == 0xFFFF) = true
    := by
  decide +kernel

/-- spec/95_test_vectors.md T47.9. -/
theorem test_bound_inside : runs 1 [0x62, 0x1E, 0x00, 0x02] ( withMem 0x10200 [0,0,0x63,0] (withReg .ebx 0x63 (base
    .i80486))) (fun t => nip t == 0x104) = true := by
  decide +kernel

/-- spec/95_test_vectors.md T47.10. -/
theorem test_bound_outside : runs 1 [0x62, 0x1E, 0x00, 0x02] (vectorTo 5 0x7000 5 (withMem 0x10200 [0,0,0x63,0]
    (withReg .ebx 0x64 (base .i80486)))) (fun t => inHandler t 5 && wordAt t 0x100FA == 0x100) = true := by
  decide +kernel

/-- spec/95_test_vectors.md T47.12. -/
theorem test_pusha : runs 1 [0x60] (withReg .eax 1 (withReg .ecx 2 (withReg .edx 3 (withReg .ebx 4 (withReg .ebp 5
    (withReg .esi 6 (withReg .edi 7 (base .i80486)))))))) (fun t => sp t == 0xF0 && wordAt t 0x100FE == 1 && wordAt
    t 0x100FC == 2 && wordAt t 0x100FA == 3 && wordAt t 0x100F8 == 4 && wordAt t 0x100F6 == 0x100 && wordAt t
    0x100F4 == 5 && wordAt t 0x100F2 == 6 && wordAt t 0x100F0 == 7) = true := by
  decide +kernel

/-- spec/95_test_vectors.md T47.13. -/
theorem test_popa : runs 1 [0x61] ( withMem 0x100F0 [7,0,6,0,5,0,0x34,0x12,4,0,3,0,2,0,1,0] (withReg .esp 0xF0 (base
    .i80486))) (fun t => sp t == 0x100 && ax t == 1 && cx t == 2 && dx t == 3 && bx t == 4 && t.regs.ebp == 5 && si
    t == 6 && di t == 7) = true := by
  decide +kernel

/-- spec/95_test_vectors.md T47.15. -/
theorem test_enter_nested : runs 1 [0xC8, 0x04, 0x00, 0x02] ( withMem 0x101FE [0xBB,0xBB,0xAA,0xAA] (withReg .ebp
    0x200 (base .i80486))) (fun t => wordAt t 0x100FE == 0x200 && wordAt t 0x100FC == 0xAAAA && wordAt t 0x100FA ==
    0xBBBB && t.regs.ebp == 0xFE && sp t == 0xF6) = true := by
  decide +kernel

/-- spec/95_test_vectors.md T47.16. -/
theorem test_leave : runs 1 [0xC9] ( withMem 0x100FE [0,2] (withReg .ebp 0xFE (withReg .esp 0xF2 (base .i80486))))
    (fun t => sp t == 0x100 && t.regs.ebp == 0x200) = true := by
  decide +kernel

/-- spec/95_test_vectors.md T47.17. -/
theorem test_insb : runs 1 [0x6C] (withPorts [(0x60,0x1C)] (withReg .edx 0x60 (withReg .edi 0x10 (base .i80486))))
    (fun t => byteAt t 0x10010 == 0x1C && di t == 0x11) = true := by
  decide +kernel

/-- spec/95_test_vectors.md T47.18. -/
theorem test_outsb : runs 1 [0x6E] ( withMem 0x10005 [0x41] (withReg .edx 0x378 (withReg .esi 5 (base .i80486))))
    (fun t => t.portOut == [(0x378,0x41)] && si t == 6) = true := by
  decide +kernel

/-- spec/95_test_vectors.md T47.20. -/
theorem test_lmsw : runs 1 [0x0F, 0x01, 0xF0] (withReg .eax 1 (base .i80486)) (fun t => t.cr0.pe) = true := by
  decide +kernel

/-- spec/95_test_vectors.md T47.22. -/
theorem test_smsw_80286 : runs 1 [0x0F, 0x01, 0xE2] ((base .i80286)) (fun t => dx t == 0xFFF0) = true := by
  decide +kernel

/-- spec/95_test_vectors.md T47.23. -/
theorem test_clts : runs 1 [0x0F, 0x06] (withTs (protectedAt .i80486 0)) (fun t => !t.cr0.ts) = true := by
  decide +kernel

/-- spec/95_test_vectors.md T47.25. -/
theorem test_lgdt : runs 1 [0x0F, 0x01, 0x16, 0x00, 0x02] ( withMem 0x10200 [0xFF,7,0,0x10,2,0] (base .i80486)) (fun
    t => t.gdtr.limit == 0x7FF && t.gdtr.base == 0x021000) = true := by
  decide +kernel

/-- spec/95_test_vectors.md T47.27. -/
theorem test_ltr_marks_busy : runs 1 [0x0F, 0x00, 0xD8] (gdtEntry 5 (descBytes 0x2B 0xA000 0x81 0) (withReg .eax
    0x28 (protectedAt .i80486 0))) (fun t => t.tr.sel == 0x28 && byteAt t 0x802D == 0x83) = true := by
  decide +kernel

/-- spec/95_test_vectors.md T47.30. -/
theorem test_arpl : runs 1 [0x63, 0x06, 0x00, 0x02] ( withMem 0x10200 [8,0] (withReg .eax 3 (protectedAt .i80486
    0))) (fun t => wordAt t 0x10200 == 0xB && t.flags.zf) = true := by
  decide +kernel

/-- spec/95_test_vectors.md T47.32. -/
theorem test_lsl : runs 1 [0x0F, 0x03, 0x06, 0x00, 0x02] (gdtEntry 2 (descBytes 0x1FFF 0x100000 0xF2 0) (withMem
    0x10200 [0x10,0] (protectedAt .i80486 0))) (fun t => ax t == 0x1FFF && t.flags.zf) = true := by
  decide +kernel

/-- spec/95_test_vectors.md T47.34. -/
theorem test_lar : runs 1 [0x0F, 0x02, 0x06, 0x00, 0x02] (gdtEntry 1 (descBytes 0x1FFF 0x100000 0x9A 0) (withMem
    0x10200 [8,0] (protectedAt .i80486 0))) (fun t => ax t == 0x9A00 && t.flags.zf) = true := by
  decide +kernel

/-- spec/95_test_vectors.md T47.35. -/
theorem test_verr_unreadable : runs 1 [0x0F, 0x00, 0xE3] (withFlags 4 (gdtEntry 1 (descBytes 0x1FFF 0x100000 0x98 0)
    (withReg .ebx 8 (protectedAt .i80486 0)))) (fun t => !t.flags.zf) = true := by
  decide +kernel

/-- spec/95_test_vectors.md T47.36. -/
theorem test_verw_writable : runs 1 [0x0F, 0x00, 0x2E, 0x00, 0x02] (gdtEntry 2 (descBytes 0x1FFF 0x100000 0x92 0)
    (withMem 0x10200 [0x10,0] (protectedAt .i80486 0))) (fun t => t.flags.zf) = true := by
  decide +kernel

/-- spec/95_test_vectors.md T48.4. -/
theorem test_imul_two_operands : runs 1 [0x0F, 0xAF, 0x1E, 0x00, 0x02] ( withMem 0x10200 [0xFE,0xFF] (withReg .ebx 3
    (base .i80486))) (fun t => bx t == 0xFFFA && flagsAre t 48 0) = true := by
  decide +kernel

/-- spec/95_test_vectors.md T48.6. -/
theorem test_bsf : runs 1 [0x0F, 0xBC, 0x1E, 0x00, 0x02] ( withMem 0x10200 [0x48,0] (base .i80486)) (fun t => bx t
    == 3 && t.flags.zf) = true := by
  decide +kernel

/-- spec/95_test_vectors.md T48.7. -/
theorem test_bsr : runs 1 [0x0F, 0xBD, 0xC3] (withReg .ebx 0x48 (base .i80486)) (fun t => ax t == 6 && t.flags.zf) =
    true := by
  decide +kernel

/-- spec/95_test_vectors.md T48.10. -/
theorem test_bt : runs 1 [0x0F, 0xBA, 0xE0, 0x0C] (withReg .eax 4096 (base .i80486)) (fun t => t.flags.cf && ax t ==
    0x1000) = true := by
  decide +kernel

/-- spec/95_test_vectors.md T48.13. -/
theorem test_bts : runs 1 [0x0F, 0xBA, 0xE8, 0x0F] (withReg .eax 0 (base .i80486)) (fun t => !t.flags.cf && ax t ==
    0x8000) = true := by
  decide +kernel

/-- spec/95_test_vectors.md T48.12. -/
theorem test_btr : runs 1 [0x0F, 0xBA, 0xF0, 0x00] (withReg .eax 65535 (base .i80486)) (fun t => t.flags.cf && ax t
    == 0xFFFE) = true := by
  decide +kernel

/-- spec/95_test_vectors.md T48.11. -/
theorem test_btc : runs 1 [0x0F, 0xBA, 0xF8, 0x0C] (withReg .eax 4096 (base .i80486)) (fun t => t.flags.cf && ax t
    == 0) = true := by
  decide +kernel

/-- spec/95_test_vectors.md T48.16. -/
theorem test_bt_memory_before_operand : runs 1 [0x0F, 0xA3, 0x06, 0x00, 0x02] ( withMem 0x101FE [0,0x80] (withReg
    .eax 0xFFFF (base .i80486))) (fun t => t.flags.cf) = true := by
  decide +kernel

/-- spec/95_test_vectors.md T48.20. -/
theorem test_movsx : runs 1 [0x0F, 0xBE, 0xC3] (withReg .ebx 0x80 (base .i80486)) (fun t => ax t == 0xFF80) = true
    := by
  decide +kernel

/-- spec/95_test_vectors.md T48.21. -/
theorem test_movzx : runs 1 [0x0F, 0xB6, 0xC3] (withReg .ebx 0x80 (base .i80486)) (fun t => ax t == 0x80) = true :=
    by
  decide +kernel

/-- spec/95_test_vectors.md T48.24. -/
theorem test_setb : runs 1 [0x0F, 0x92, 0xC1] (withFlags 32 (base .i80486)) (fun t => cx t == 1) = true := by
  decide +kernel

/-- spec/95_test_vectors.md T48.26. -/
theorem test_shld : runs 1 [0x0F, 0xA4, 0x06, 0x00, 0x02, 0x0C] ( withMem 0x10200 [0x34,0x12] (withReg .eax 0xABCD
    (base .i80486))) (fun t => wordAt t 0x10200 == 0x4ABC && t.flags.cf) = true := by
  decide +kernel

/-- spec/95_test_vectors.md T48.27. -/
theorem test_shrd : runs 1 [0x0F, 0xAC, 0x06, 0x00, 0x02, 0x04] ( withMem 0x10200 [0x34,0x12] (withReg .eax 0xABCD
    (base .i80486))) (fun t => wordAt t 0x10200 == 0xD123 && !t.flags.cf) = true := by
  decide +kernel

/-- spec/95_test_vectors.md T48.33. -/
theorem test_lss : runs 1 [0x0F, 0xB2, 0x26, 0x00, 0x02] ( withMem 0x10200 [0,1,0,0x30] (base .i80486)) (fun t => sp
    t == 0x100 && t.ss.sel == 0x3000) = true := by
  decide +kernel

/-- spec/95_test_vectors.md T48.34. -/
theorem test_lfs : runs 1 [0x0F, 0xB4, 0x1E, 0x00, 0x02] ( withMem 0x10200 [0,1,0,0x30] (base .i80486)) (fun t => bx
    t == 0x100 && t.fs.sel == 0x3000) = true := by
  decide +kernel

/-- spec/95_test_vectors.md T48.35. -/
theorem test_mov_from_cr0 : runs 1 [0x0F, 0x20, 0xC0] (withReg .eax 5 (base .i80386)) (fun t => t.regs.eax == 0) =
    true := by
  decide +kernel

/-- spec/95_test_vectors.md T48.36. -/
theorem test_mov_from_cr0_user : runs 1 [0x0F, 0x20, 0xC0] (catching 13 3 false (protectedAt .i80486 3)) (fun t =>
    caught t 13 (some 0) false 0x100) = true := by
  decide +kernel

/-- spec/95_test_vectors.md T49.1. -/
theorem test_bswap : runs 2 [0x66, 0x0F, 0xCA] (withReg .edx 0x12345678 (base .i80486)) (fun t => t.regs.edx ==
    0x78563412) = true := by
  decide +kernel

/-- spec/95_test_vectors.md T49.4. -/
theorem test_xadd : runs 1 [0x0F, 0xC1, 0x0E, 0x00, 0x02] ( withMem 0x10200 [0xFF,0xFF] (withReg .ecx 1 (base
    .i80486))) (fun t => wordAt t 0x10200 == 0 && cx t == 0xFFFF && flagsOf t == 0b100111) = true := by
  decide +kernel

/-- spec/95_test_vectors.md T49.6. -/
theorem test_cmpxchg_equal : runs 1 [0x0F, 0xB0, 0x1E, 0x00, 0x02] ( withMem 0x10200 [5] (withReg .eax 5 (withReg
    .ebx 9 (base .i80486)))) (fun t => byteAt t 0x10200 == 9 && al t == 5 && flagsOf t == 0b000101) = true := by
  decide +kernel

/-- spec/95_test_vectors.md T49.7. -/
theorem test_cmpxchg_different : runs 1 [0x0F, 0xB0, 0x1E, 0x00, 0x02] ( withMem 0x10200 [7] (withReg .eax 5
    (withReg .ebx 9 (base .i80486)))) (fun t => byteAt t 0x10200 == 7 && al t == 7 && flagsOf t == 0b101010) = true
    := by
  decide +kernel

/-- spec/95_test_vectors.md T49.10. -/
theorem test_wbinvd_user : runs 1 [0x0F, 0x09] (catching 13 3 false (protectedAt .i80486 3)) (fun t => caught t 13
    (some 0) false 0x100) = true := by
  decide +kernel

/-- spec/93_implementation_defined.md V1: INVLPG runs in real mode. -/
theorem test_invlpg_real : runs 1 [0x0F, 0x01, 0x3E, 0x00, 0x02] (base .i80486) (fun t => nip t == 0x105) = true := by
  decide +kernel

/-- spec/95_test_vectors.md T49.19. -/
theorem test_esc_emulated : runs 1 [0xD9, 0x06, 0x00, 0x02] (vectorTo 7 0x7000 7 (withEm (base .i80486))) (fun t =>
    inHandler t 7 && wordAt t 0x100FA == 0x100) = true := by
  decide +kernel

/-- spec/95_test_vectors.md T49.21. -/
theorem test_wait_task_switched : runs 1 [0x9B] (vectorTo 7 0x7000 7 (withTs (withMp (base .i80486)))) (fun t =>
    inHandler t 7) = true := by
  decide +kernel

/-- spec/95_test_vectors.md T60.3. -/
theorem test_intr : runs 1 [0x90] (vectorTo 8 0x7000 8 (withIf (withIntr 8 (base .i80486)))) (fun t => inHandler t 8
    && wordAt t 0x100FA == 0x100 && wordAt t 0x100FE == 0x202 && !t.flags.intf) = true := by
  decide +kernel

/-- spec/95_test_vectors.md T60.5. -/
theorem test_nmi : runs 1 [0x90] (vectorTo 2 0x7000 2 { (base .i80486) with nmiPending := true }) (fun t =>
    inHandler t 2 && wordAt t 0x100FA == 0x100) = true := by
  decide +kernel

/-- spec/95_test_vectors.md T60.8. -/
theorem test_shutdown : runs 1 [0xCD, 0x10] ({ (base .i80286) with idtr := { base := 0, limit := 0x1F } }) (fun t =>
    t.run == .shutdown) = true := by
  decide +kernel

/-- spec/95_test_vectors.md T60.9. -/
theorem test_double_fault : runs 1 [0xCD, 0x10] (vectorTo 8 0x7000 8
    { (base .i80286) with idtr := { base := 0, limit := 0x23 } }) (fun t => inHandler t 8 && sp t == 0xFA) = true :=
    by
  decide +kernel

/-- spec/95_test_vectors.md T60.13. -/
theorem test_segment_not_present : runs 1 [0x8E, 0xD8] (catching 11 3 false (gdtEntry 4 (descBytes 0xFFFF 0 0x72 0)
    (withReg .eax 0x23 (protectedAt .i80486 3)))) (fun t => caught t 11 (some 0x20) false 0x100) = true := by
  decide +kernel

/-- spec/95_test_vectors.md T61.20. -/
theorem test_task_switch_jmp : runs 1 [0xEA, 0x99, 0x99, 0x30, 0x00] (gdtEntry 3 (descBytes 0xFFFF 0x10000 0x9A 0)
    (gdtEntry 4 (descBytes 0xFFFF 0x10000 0x92 0) (gdtEntry 5 (descBytes 0x2B 0xA000 0x83 0) (gdtEntry 6 (descBytes
    0x2B 0xB000 0x81 0) (withMem 0xB000
    [0,0,0,0,0,0,0,0,0,0,0,0,0,0,0,5,2,0,1,0,2,0,3,0,4,0,128,0,6,0,7,0,8,0,32,0,24,0,32,0,32,0,0,0] (withReg .eax
    0x77
    { (protectedAt .i80286 0) with tr := { sel := 0x28, base := 0xA000, limit := 0x2B, is386 := false }, ldtr := { sel := 0, valid := false, base := 0, limit := 0 } }))))))
    (fun t => t.tr.sel == 0x30 && t.cr0.ts && ax t == 1 && cx t == 2 && dx t == 3 && bx t == 4 && sp t == 0x80 &&
    t.regs.ebp.toNat % 65536 == 6 && si t == 7 && di t == 8 && nip t == 0x500 && t.cs.sel == 0x18 && t.ss.valid &&
    byteAt t 0x8035 == 0x83 && byteAt t 0x802D == 0x81 && !t.flags.nt && wordAt t 0xA00E == 0x105 && wordAt t 0xA012
    == 0x77 && wordAt t 0xA024 == 0x18) = true := by
  decide +kernel

/-- spec/95_test_vectors.md T61.40. -/
theorem test_data_breakpoint : runs 1 [0xA1, 0x02, 0x02] ({ (base .i80486) with dr0 := 0x10200, dr7 := 0x000F0001 })
    (fun t => t.trap.enabled == 1) = true := by
  decide +kernel

/-- spec/95_test_vectors.md T61.43. -/
theorem test_instruction_breakpoint : runs 1 [0x90] (vectorTo 1 0x7000 1
    { (base .i80486) with dr1 := 0x10100, dr7 := 0x00000004 }) (fun t => inHandler t 1 && wordAt t 0x100FA == 0x100)
    = true := by
  decide +kernel

/-- spec/95_test_vectors.md T61.46. -/
theorem test_debug_register_guard : runs 1 [0x0F, 0x21, 0xF0] (vectorTo 1 0x7000 1 (withReg .eax 7
    { (base .i80486) with dr7 := 0x2000 })) (fun t => inHandler t 1 && t.dr6 == 0x2000 && t.dr7 == 0 && t.regs.eax
    == 7 && wordAt t 0x100FA == 0x100) = true := by
  decide +kernel

/-- spec/95_test_vectors.md T21.13. -/
theorem test_call_gate : runs 1 [0x9A, 0x00, 0x00, 0x33, 0x00] ( withMem 0x10100 [0xAA,0xAA,0xBB,0xBB] (gdtEntry 6
    (gateBytes 0x400 8 2 0xE4) (gdtEntry 1 (descBytes 0xFFFF 0x30000 0x9A 0) (gdtEntry 2 (descBytes 0xFFFF 0x20000
    0x92 0) (withMem 0xA000 [0,0,0,8,0x10,0]
    { (protectedAt .i80286 3) with ss := segAt 0x27 0x10000 0xFFFF 0xF3 false, tr := { sel := 0x28, base := 0xA000, limit := 0x100, is386 := false }, eip := 0x200 })))))
    (fun t => t.ss.sel == 0x10 && sp t == 0x7F4 && wordAt t 0x207FE == 0x27 && wordAt t 0x207FC == 0x100 && wordAt t
    0x207FA == 0xBBBB && wordAt t 0x207F8 == 0xAAAA && wordAt t 0x207F6 == 0x1B && wordAt t 0x207F4 == 0x205 &&
    t.cs.sel == 8 && nip t == 0x400 && t.cpl == 0) = true := by
  decide +kernel

/-- spec/95_test_vectors.md T21.17. -/
theorem test_in_permitted_by_map : runs 1 [0xE4, 0x29] (withPorts [(0x29,5)] (withMem 0xA066 [0x68,0] (withMem
    0xA06D [0xFD] (protectedAt .i80486 3)))) (fun t => al t == 5) = true := by
  decide +kernel

/-- spec/95_test_vectors.md T21.17. -/
theorem test_in_word_refused_by_map : runs 1 [0xE5, 0x28] (catching 13 3 false (withMem 0xA066 [0x68,0] (withMem
    0xA06D [2] (protectedAt .i80486 3)))) (fun t => caught t 13 (some 0) false 0x100) = true := by
  decide +kernel

/-- spec/95_test_vectors.md T21.7. -/
theorem test_expand_down_below : runs 1 [0xA0, 0xFF, 0x0F] (catching 13 0 false
    { (protectedAt .i80486 0) with ds := segAt 0x20 0x10000 0xFFF 0x97 false }) (fun t => caught t 13 (some 0) false
    0x100) = true := by
  decide +kernel

/-- spec/95_test_vectors.md T21.7. -/
theorem test_expand_down_above : runs 1 [0xA0, 0x00, 0x10] ( withMem 0x11000 [7]
    { (protectedAt .i80486 0) with ds := segAt 0x20 0x10000 0xFFF 0x97 false }) (fun t => al t == 7) = true := by
  decide +kernel

/-- spec/95_test_vectors.md T70.6. -/
theorem test_reset_jmp_near_keeps_high_base : runs 1 [0xE9, 0x00, 0x80] ((State.powerOn (cfgOf .i80486))) (fun t =>
    t.cs.base != 0xF0000 && nip t == 0x7FF3 && t.resetLatch) = true := by
  decide +kernel

/-- spec/95_test_vectors.md T70.7. -/
theorem test_reset_jmp_far_ends_high_base : runs 1 [0xEA, 0x5B, 0xE0, 0x00, 0xF0] ((State.powerOn (cfgOf .i80486)))
    (fun t => t.cs.base == 0xF0000 && nip t == 0xE05B && !t.resetLatch && t.physical (t.linear .cs 0xE05B) ==
    0xFE05B) = true := by
  decide +kernel

/-- T49.13, T49.14 (rule R655): 12.5 and -0.3125 as their parts. -/
theorem test_single_examples :
    RealFormat.single.pack { sign := false, exp := 0x82, man := 0x480000 } = 0x41480000 ∧
      RealFormat.single.pack { sign := true, exp := 0x7D, man := 0x200000 } = 0xBEA00000 := by
  decide +kernel

/-- T49.15, T49.16 (rule R654): 12.5 widened from double to extended precision is 4002 C800000000000000h (rule R655). -/
theorem test_widen_double : RealFormat.double.widen 0x4029000000000000 = (0x4002C800000000000000, []) := by
  decide +kernel

/-- R653, R655: 12.5 from extended to double, to an integer (to even) and to BCD; -13 as BCD. -/
theorem test_narrow :
    RealFormat.double.narrow .nearest 0x4002C800000000000000 = (0x4029000000000000, []) ∧
      narrowInt 16 .nearest 0x4002C800000000000000 = (12, [.precision]) ∧
      narrowInt 16 .up 0x4002C800000000000000 = (13, [.precision]) ∧
      (narrowBcd .nearest 0x4002C800000000000000).1 = 0x12 ∧ bcdOf (-13) = 0x80000000000000000013 ∧
      bcdValue 0x80000000000000000013 = -13 ∧ widenInt 5 = 0x4001A000000000000000 := by
  decide +kernel

/-- R657: the masked overflow of 2^200 in single precision gives infinity, or the largest number rounded to zero. -/
theorem test_overflow :
    (RealFormat.single.narrow .nearest 0x40C78000000000000000).1 = 0x7F800000 ∧
      (RealFormat.single.narrow .truncate 0x40C78000000000000000).1 = 0x7F7FFFFF := by
  decide +kernel

/-- R657, by hand from R654: in single precision 2^-126 is the smallest normalised number; 2^-130 is a denormal result and
an underflow, 2^-160 is rounded to zero besides; a denormal of the extended format is reported once. -/
theorem test_denormal_result :
    RealFormat.single.narrow .nearest 0x3F818000000000000000 = (0x00800000, []) ∧
      RealFormat.single.narrow .nearest 0x3F7D8000000000000000 = (0x00080000, [.denormal, .underflow]) ∧
      RealFormat.single.narrow .nearest 0x3F5F8000000000000000 = (0, [.denormal, .underflow, .precision]) ∧
      RealFormat.extended.narrow .nearest 1 = (1, [.denormal, .underflow]) := by
  decide +kernel

/-- R656: the infinities compare beyond every number. -/
theorem test_infinities : (RealFormat.single.rank 0x7F800000 > RealFormat.single.rank 0x7F7FFFFF) = true ∧
    (RealFormat.single.rank 0xFF800000 < RealFormat.single.rank 0xFF7FFFFF) = true := by
  decide +kernel

/-- T49.17 (rule R656): infinities and zeros of single precision. -/
theorem test_single_special :
    RealFormat.single.kind 0x7F800000 = RealFormat.single.kind 0xFF800000 ∧
      RealFormat.single.kind 0 = RealFormat.single.kind 0x80000000 ∧
      RealFormat.single.kind 0x7F800000 ≠ RealFormat.single.kind 0 := by
  decide +kernel

/-- T49.18: the integer indefinite value. -/
theorem test_integer_indefinite :
    integerIndefinite 16 = 0x8000 ∧ integerIndefinite 32 = 0x80000000 ∧ integerIndefinite 64 = 0x8000000000000000 := by
  decide +kernel

/-! ## The hypotheses of the statements can be met

One theorem for each statement that has hypotheses, a clause at the boundary values of its range where it has one. -/

/-- A word in memory, a register, and a load through DS. -/
def memOp : Mem := .direct16 0x200

/-- The 80486 and the 8086 in real mode, the 80486 with 32-bit operands. -/
def real486 : State := base .i80486
def real86 : State := base .i8086
def real32 : State := { real486 with cur := { real486.cur with op := true } }

/-- With a repeat prefix. -/
def repeated (s : State) : State := { s with cur := { s.cur with rep := some .rep } }

/-- The 80486 in protected mode at levels 0 and 3. -/
def prot0 : State := protectedAt .i80486 0
def prot3 : State := protectedAt .i80486 3

/-- The 80386 in V86 mode. -/
def virtual86 (iopl : BitVec 2) : State :=
  let s := protectedAt .i80386 0
  { s with
    cs := SegReg.v86 0x2000, ss := SegReg.v86 0x3000, ds := SegReg.v86 0x4000, es := SegReg.v86 0x5000
    fs := SegReg.v86 0x6000, gs := SegReg.v86 0x7000, flags := { s.flags with vm := true, iopl := iopl } }

theorem roomFor_of {s : State} {w n : Nat}
    (h : (List.range n).all (fun i => s.reaches .ss .write (s.down w (i + 1)) (w / 8) (w / 8)) = true) :
    s.roomFor w n := by
  intro i h1 h2
  have := List.all_eq_true.mp h (i - 1) (List.mem_range.mpr (by omega))
  rwa [show i - 1 + 1 = i by omega] at this

theorem holds_of {s : State} {w n : Nat}
    (h : (List.range n).all (fun i => s.reaches .ss .read (s.up w i) (w / 8) (w / 8)) = true) : s.holds w n :=
  fun i hi => List.all_eq_true.mp h i (List.mem_range.mpr hi)

theorem offStack_of {s : State} {w n a : Nat}
    (h : (List.range n).all (fun i => (List.range (w / 8)).all fun k =>
      decide (s.placeAt .ss (s.down w (i + 1)) k ≠ a)) = true) : s.offStack w n a := by
  intro i k h1 h2 h3
  have := List.all_eq_true.mp (List.all_eq_true.mp h (i - 1) (List.mem_range.mpr (by omega))) k (List.mem_range.mpr h3)
  rw [show i - 1 + 1 = i by omega] at this
  exact of_decide_eq_true this

/-- A next state there is. -/
theorem next_of {o : Host.Outcome State Fault Refusal} (h : nextWith (fun _ => true) o = true) :
    ∃ t, o = .next t := by
  match o, h with
  | .next t, _ => exact ⟨t, rfl⟩

theorem witness_AluBytes : ∀ s ∈ [real486, real86], ∀ op ∈ [Alu.add, .or, .adc, .sbb, .and, .sub, .xor],
    ∀ d ∈ [Rm8.reg .bh, .mem memOp], ∀ f ∈ op.forms8 d .cl 0xFF,
      s.lockOk f.dst.isMem = true ∧ f.src.ready s = true ∧ s.ready8 .update f.dst = true := by
  decide +kernel

theorem witness_AluWords : ∀ s ∈ [real486, real86, real32], ∀ op ∈ [Alu.add, .or, .adc, .sbb, .and, .sub, .xor],
    ∀ d ∈ [Rmv.reg .esp, .mem memOp], ∀ f ∈ op.formsv d .ecx 0xFFFF 0xFF,
      s.lockOk f.dst.isMem = true ∧ f.src.ready s s.opWidth = true ∧ s.readyv .update s.opWidth f.dst = true := by
  decide +kernel

theorem witness_CompareAndTest :
    (∀ d ∈ [Rm8.reg .bh, .mem memOp], ∀ f ∈ cmpForms8 d .cl 0xFF ++ testForms8 d .cl 0xFF,
      real486.lockOk false = true ∧ f.src.ready real486 = true ∧ real486.ready8 .read f.dst = true) ∧
    ∀ s ∈ [real486, real32], ∀ d ∈ [Rmv.reg .esp, .mem memOp],
      ∀ f ∈ cmpFormsv d .ecx 0xFFFF 0xFF ++ testFormsv d .ecx 0xFFFF,
        s.lockOk false = true ∧ f.src.ready s s.opWidth = true ∧ s.readyv .read s.opWidth f.dst = true := by
  decide +kernel

theorem witness_UnaryInstructions :
    (∀ d ∈ [Rm8.reg .bh, .mem memOp], real486.lockOk d.isMem = true ∧ real486.ready8 .update d = true) ∧
    ∀ s ∈ [real486, real32], ∀ d ∈ [Rmv.reg .esp, .mem memOp],
      s.lockOk d.isMem = true ∧ s.readyv .update s.opWidth d = true ∧ s.lockOk false = true := by
  decide +kernel

theorem witness_Multiplications : ∀ s ∈ [real486, real86, real32], s.lockOk false = true ∧
    (∀ d ∈ [Rm8.reg .bh, .mem memOp], s.ready8 .read d = true) ∧
    ∀ d ∈ [Rmv.reg .ebx, .mem memOp], s.readyv .read s.opWidth d = true := by
  decide +kernel

/-- Quotients 255 and 256, 65535 and 65536, a divisor 0. -/
theorem witness_DivideUnsigned :
    (∀ p ∈ [((0xFFFF : Nat), (0xFF : Nat), false), (0xFEFF, 0xFF, true), (0x0100, 1, false), (0x00FF, 1, true), (5, 0, false)],
      let s := withReg .eax (BitVec.ofNat 32 p.1) (withReg .ebx (BitVec.ofNat 32 p.2.1) real486)
      let n := (s.reg 16 .eax).toNat
      let k := (s.val8 (.reg .bl)).toNat
      s.lockOk false = true ∧ s.ready8 .read (.reg .bl) = true ∧ decide (k ≠ 0 ∧ n / k < 256) = p.2.2) ∧
    ∀ p ∈ [((0 : Nat), (0xFFFF : Nat), (1 : Nat), true), (1, 0, 1, false), (0xFFFE, 0xFFFF, 0xFFFF, true), (0xFFFF, 0, 0xFFFF, false),
        (0, 5, 0, false)],
      let s := withReg .edx (BitVec.ofNat 32 p.1) (withReg .eax (BitVec.ofNat 32 p.2.1)
        (withReg .ebx (BitVec.ofNat 32 p.2.2.1) real486))
      let n := (s.reg 16 .edx).toNat * 2 ^ 16 + (s.reg 16 .eax).toNat
      let k := (s.valv 16 (.reg .ebx)).toNat
      s.opWidth = 16 ∧ s.lockOk false = true ∧ s.readyv .read 16 (.reg .ebx) = true ∧
        decide (k ≠ 0 ∧ n / k < 2 ^ 16) = p.2.2.2 := by
  decide +kernel

/-- Quotients -129, -128, -127, 127 and 128, a divisor 0; -128 does not fit on the 8086. -/
theorem witness_DivideSigned :
    (∀ p ∈ [(real486, 0xFF7F, 1, false), (real486, 0xFF80, 1, true), (real486, 0x007F, 1, true),
        (real486, 0x0080, 1, false), (real486, 5, 0, false), (real86, 0xFF80, 1, false), (real86, 0xFF81, 1, true)],
      let s := withReg .eax p.2.1 (withReg .ebx p.2.2.1 p.1)
      let n := (s.reg 16 .eax).toInt
      let k := (s.val8 (.reg .bl)).toInt
      s.lockOk false = true ∧ s.ready8 .read (.reg .bl) = true ∧
        decide (k ≠ 0 ∧ (if s.level = 0 then -127 else -128) ≤ n.tdiv k ∧ n.tdiv k ≤ 127) = p.2.2.2) ∧
    ∀ p ∈ [(real486, 0xFFFF, 0x8000, 1, true), (real486, 0xFFFF, 0x7FFF, 1, false), (real486, 0, 0x7FFF, 1, true),
        (real486, 0, 0x8000, 1, false), (real486, 0, 1, 0, false), (real86, 0xFFFF, 0x8000, 1, false),
        (real86, 0xFFFF, 0x8001, 1, true)],
      let s := withReg .edx p.2.1 (withReg .eax p.2.2.1 (withReg .ebx p.2.2.2.1 p.1))
      let n := (s.reg 16 .edx).toInt * 2 ^ 16 + (s.reg 16 .eax).toNat
      let k := (s.valv 16 (.reg .ebx)).toInt
      s.opWidth = 16 ∧ s.lockOk false = true ∧ s.readyv .read 16 (.reg .ebx) = true ∧
        decide (k ≠ 0 ∧ (if s.level = 0 then 1 - 2 ^ 15 else -(2 ^ 15)) ≤ n.tdiv k ∧ n.tdiv k < 2 ^ 15) = p.2.2.2.2 := by
  decide +kernel

/-- Counts 0, 1, 31 and 32 (which counts as 0 from the 80286), 255 on the 8086. -/
theorem witness_ShiftRotateBytes : ∀ p ∈ [(real486, 0, 0), (real486, 1, 1), (real486, 31, 31), (real486, 32, 0),
      (real86, 0, 0), (real86, 255, 255)],
    let s := withReg .ecx p.2.1 p.1
    (if s.level = 0 then (Count.cl.val s).toNat else (Count.cl.val s).toNat % 32) = p.2.2 ∧ s.lockOk false = true ∧
      ∀ d ∈ [Rm8.reg .bh, .mem memOp], s.ready8 .update d = true := by
  decide +kernel

theorem witness_ShiftRotateWords : ∀ p ∈ [(real486, 0, 0), (real486, 1, 1), (real32, 31, 31), (real486, 32, 0),
      (real86, 0, 0), (real86, 255, 255)],
    let s := withReg .ecx p.2.1 p.1
    (if s.level = 0 then (Count.cl.val s).toNat else (Count.cl.val s).toNat % 32) = p.2.2 ∧ s.lockOk false = true ∧
      ∀ d ∈ [Rmv.reg .esp, .mem memOp], s.readyv .update s.opWidth d = true := by
  decide +kernel

/-- Counts 0, 1, the width and one more. -/
theorem witness_DoubleShifts : ∀ p ∈ [(0, 0), (1, 1), (16, 16), (17, 17), (32, 0)],
    let s := withReg .ecx p.1 real486
    s.opWidth = 16 ∧ (s.reg8 .cl).toNat % 32 = p.2 ∧ s.lockOk false = true ∧
      ∀ d ∈ [Rmv.reg .esp, .mem memOp], s.readyv .update 16 d = true := by
  decide +kernel

/-- Bit numbers 0, 15 and 16 of a register, bit numbers -1 and 32767 around a word of memory. -/
theorem witness_BitInstructions :
    (∀ p ∈ [((0 : Nat), 0), (15, 15), (16, 0)], let s := withReg .eax (BitVec.ofNat 32 p.1) real486
      s.lockOk false = true ∧ s.opWidth = 16 ∧ (s.reg 16 .eax).toNat % 16 = p.2) ∧
    (∀ p ∈ [((0xFFFF : Nat), (0x1FE : Dword)), (0x7FFF, 0x11FE), (0, 0x200)], let s := withReg .eax (BitVec.ofNat 32 p.1) real486
      s.lockOk true = true ∧ s.bitUnit 16 memOp (s.reg 16 .eax) = p.2 ∧
        s.reaches (s.memSeg memOp) .update p.2 2 4 = true) ∧
    real486.reaches (real486.memSeg memOp) .read (real486.memOff memOp) 2 4 = true := by
  decide +kernel

/-- No bit; the lowest and the highest bit alone. -/
theorem witness_BitScans :
    (real486.lockOk false = true ∧ real486.readyv .read real486.opWidth (.reg .ebx) = true ∧
      real486.valv real486.opWidth (.reg .ebx) = 0) ∧
    (let s := withReg .ebx 0x8000 real486;
      s.valv 16 (.reg .ebx) = 0x8000 ∧ (∀ j, j < 15 → (0x8000 : Word).getLsbD j = false)) ∧
    ∀ j, 15 < j → (0x8000 : Word).getLsbD j = false :=
  ⟨by decide +kernel, by decide +kernel, fun j h => BitVec.getLsbD_of_ge _ _ (by omega)⟩

theorem witness_Moves : ∀ s ∈ [real486, real32, real86], s.lockOk false = true ∧
    (∀ d ∈ [Rm8.reg .bh, .mem memOp], ∀ src ∈ [Src8.rm (.reg .bh), .imm 0xFF], src.ready s = true ∧
      s.ready8 .write d = true) ∧ (Src8.rm (.mem memOp)).ready s = true ∧ s.ready8 .write (.reg .bh) = true ∧
    (∀ d ∈ [Rmv.reg .esp, .mem memOp], ∀ src ∈ [Srcv.rm (.reg .ebx), .imm 0xFFFF], src.ready s s.opWidth = true ∧
      s.readyv .write s.opWidth d = true) ∧ (Srcv.rm (.mem memOp)).ready s s.opWidth = true := by
  decide +kernel

/-- The last byte and the last word of the segment. -/
theorem witness_DirectMoves : real486.lockOk false = true ∧
    (let g := real486.cur.seg.getD .ds;
      real486.reaches g .read 0xFFFF 1 1 = true ∧ real486.reaches g .write 0xFFFF 1 1 = true ∧
        real486.reaches g .read 0xFFFE 2 2 = true ∧ real486.reaches g .write 0xFFFE 2 2 = true) ∧
    let s := withReg .ebx 0xFFFF (withReg .eax 2 real486)
    s.lockOk false = true ∧ s.reaches (s.cur.seg.getD .ds) .read
      (BitVec.ofNat 32 (((s.reg s.addrWidth .ebx).toNat + (s.reg8 .al).toNat) % 2 ^ s.addrWidth)) 1 1 = true := by
  decide +kernel

theorem witness_MovesFromSegment : ∀ s ∈ [real486, real32], s.lockOk false = true ∧
    ∀ d ∈ [Rmv.reg .ebx, .mem memOp], s.readyv .write 16 d = true := by
  decide +kernel

theorem witness_ExtensionsAndOffsets : ∀ s ∈ [real486, real32], s.lockOk false = true ∧
    (∀ m ∈ [Rm8.reg .bh, .mem memOp], s.ready8 .read m = true) ∧
    ∀ m ∈ [Rmv.reg .ebx, .mem memOp], s.readyv .read 16 m = true := by
  decide +kernel

theorem witness_Exchanges : ∀ s ∈ [real486, real32],
    (∀ d ∈ [Rm8.reg .bh, .mem memOp], s.lockOk d.isMem = true ∧ s.ready8 .update d = true) ∧
    ∀ d ∈ [Rmv.reg .eax, .mem memOp], s.lockOk d.isMem = true ∧ s.readyv .update s.opWidth d = true := by
  decide +kernel

/-- The accumulator equal to the destination, and not. -/
theorem witness_CompareExchanges : ∀ p ∈ [((0 : Nat), true), (1, false)], let s := withReg .eax (BitVec.ofNat 32 p.1) real486
    (s.lockOk true = true ∧ s.ready8 .update (.mem memOp) = true ∧ decide (s.reg8 .al = s.val8 (.mem memOp)) = p.2) ∧
      s.readyv .update s.opWidth (.mem memOp) = true ∧
      decide (s.reg s.opWidth .eax = s.valv s.opWidth (.mem memOp)) = p.2 := by
  decide +kernel

/-- In real and in V86 mode. -/
theorem witness_SegmentLoads86 : ∀ s ∈ [real486, real32, virtual86 0], s.lockOk false = true ∧ s.prot = false ∧
    s.readyv .read 16 (.mem memOp) = true ∧ (withReg .esp 0x100 s).canPop s.opWidth = true ∧
    s.reachesPair memOp (s.opWidth / 8) 2 = true := by
  decide +kernel

/-- A descriptor in entry 2 of the GDT, and a selector in BX. -/
def withDesc (acc : Byte) (sel : Dword) (s : State) : State :=
  withReg .ebx sel (gdtEntry 2 (descBytes 0x1FFF 0x100000 acc 0) s)

/-- The descriptor that stands there. -/
def descIs (acc : Byte) : Descriptor := leValue 64 (descBytes 0x1FFF 0x100000 acc 0)

/-- The selectors 10h and 13h name it, whatever its access byte. -/
theorem names_descIs : ∀ acc ∈ [0x92, 0x90, 0x12, 0x98, 0x9A, 0x9E, 0xD2, 0x82, 0x81, 0x89, 0x01, 0x02, 0x1A],
    ∀ sel ∈ [0x10, 0x13], ∀ s ∈ [prot0, prot3],
      (withDesc (BitVec.ofNat 8 acc) 0 s).names (BitVec.ofNat 16 sel) (descIs (BitVec.ofNat 8 acc)) 0x8010 ∧
        selNull (BitVec.ofNat 16 sel) = false := by
  unfold State.names State.finds
  decide +kernel

/-- Null, outside the table; a segment with DPL equal to CPL and below it, not readable, not present; for SS also RPL. -/
theorem witness_ProtectedSegmentLoads :
    (∀ s ∈ [prot0, prot3], s.lockOk false = true ∧ s.prot = true ∧ s.readyv .read 16 (.reg .ebx) = true) ∧
    (∀ n ∈ [0, 3], selNull ((withReg .ebx (BitVec.ofNat 32 n) prot0).valv 16 (.reg .ebx)) = true) ∧
    ((withReg .ebx 0x100 prot0).valv 16 (.reg .ebx) = 0x100 ∧ selNull 0x100 = false ∧
      (withReg .ebx 0x100 prot0).descAddr 0x100 = none) ∧
    (withDesc 0x92 0x10 prot0).valv 16 (.reg .ebx) = 0x10 ∧
    (dIsReadable (descIs 0x92) = true ∧ max prot0.cpl (selRpl 0x10) ≤ dDpl (descIs 0x92) ∧
      dPresent (descIs 0x92) = true ∧ prot0.cpl = 0 ∧ selRpl 0x10 = 0 ∧ dIsWritableData (descIs 0x92) = true) ∧
    (dIsReadable (descIs 0x98) = false ∧ dConforming (descIs 0x92) = false ∧
      dDpl (descIs 0x92) < max prot0.cpl (selRpl 0x13) ∧ dPresent (descIs 0x12) = false ∧
      dIsReadable (descIs 0x12) = true) ∧
    (dIsWritableData (descIs 0x90) = false ∧ dIsWritableData (descIs 0x12) = true ∧ dDpl (descIs 0xD2) ≠ 0) := by
  decide +kernel

/-- The selector 10h in BX, on top of the stack, and after a word in memory. -/
theorem witness_ProtectedSegmentLoads_forms (g : SReg) (hg : g ≠ .cs) :
    let s := withMem 0x10100 [0x10, 0] (withMem 0x10202 [0x10, 0] (withDesc 0x92 0x10 prot0))
    let p := (s.setSp (s.popAt 16)).regs
    let q := (s.setReg .eax (s.memVal 16 (s.memSeg memOp) (s.memOff memOp))).regs
    s.segForm (.movSregRm16 g (.reg .ebx)) g 0x10 s.regs ∧
      ∃ i, s.segForm i g 0x10 p ∧ ∃ i, s.segForm i g 0x10 q := by
  intro s p q
  have pop : ∀ i, (i = .popEs ∧ g = .es ∨ i = .popSs ∧ g = .ss ∨ i = .popDs ∧ g = .ds ∨ i = .popFs ∧ g = .fs ∨
      i = .popGs ∧ g = .gs) → s.segForm i g 0x10 p := fun i hi => .inr (.inl ⟨hi, by decide +kernel⟩)
  have far : ∀ i, (i = .ldsRvM16v .eax memOp ∧ g = .ds ∨ i = .lesRvM16v .eax memOp ∧ g = .es ∨
      i = .lfsRvM16v .eax memOp ∧ g = .fs ∨ i = .lgsRvM16v .eax memOp ∧ g = .gs ∨ i = .lssRvM16v .eax memOp ∧ g = .ss) →
      s.segForm i g 0x10 q := fun i hi => .inr (.inr ⟨.eax, memOp, hi, by decide +kernel⟩)
  refine ⟨.inl ⟨.reg .ebx, rfl, by decide +kernel⟩, ?_⟩
  cases g
  · exact ⟨.popEs, pop _ (by simp), .lesRvM16v .eax memOp, far _ (by simp)⟩
  · exact absurd rfl hg
  · exact ⟨.popSs, pop _ (by simp), .lssRvM16v .eax memOp, far _ (by simp)⟩
  · exact ⟨.popDs, pop _ (by simp), .ldsRvM16v .eax memOp, far _ (by simp)⟩
  · exact ⟨.popFs, pop _ (by simp), .lfsRvM16v .eax memOp, far _ (by simp)⟩
  · exact ⟨.popGs, pop _ (by simp), .lgsRvM16v .eax memOp, far _ (by simp)⟩

/-- With the stack pointer at 100h, and at 0, from which a push goes to the top of the segment. -/
theorem witness_Pushes : ∀ s ∈ [real486, real32, real86, withReg .esp 0 real486, prot3], s.lockOk false = true ∧
    s.canPush s.opWidth = true ∧ s.reaches .ss .write (s.pushAt s.opWidth) (s.opWidth / 8) 2 = true ∧
    s.reaches (s.memSeg memOp) .read (s.memOff memOp) (s.opWidth / 8) (s.opWidth / 8) = true := by
  decide +kernel

/-- The last word of the segment as the top of the stack. -/
theorem witness_Pops : ∀ s ∈ [real486, real86, withReg .esp 0xFFFE real486], s.lockOk false = true ∧
    s.canPop s.opWidth = true ∧ ∀ d ∈ [Rmv.reg .esp, .mem memOp],
      (s.setSp (s.popAt s.opWidth)).readyv .write s.opWidth d = true := by
  decide +kernel

/-- ENTER at nesting levels 0 and 31, with the old frame above the stack pointer. -/
theorem witness_RegisterBlocksAndFrames :
    real486.lockOk false = true ∧ real486.roomFor 16 8 ∧ real486.holds 16 8 ∧
    (let s := withReg .ebp 0x300 real486;
      s.roomFor 16 32 ∧
      (∀ i, i < 31 → s.reaches .ss .read (s.stackOff (s.regs.ebp - BitVec.ofNat 32 (2 * i))) 2 2 = true) ∧
      s.ss.inLimit (s.stackOff (s.down 16 32 - (0x10 : Word).setWidth 32)).toNat 1 = true ∧
      (∀ k, k < 2 → s.offStack 16 32 (s.placeAt .ss (s.stackOff (s.regs.ebp - BitVec.ofNat 32 60)) k))) ∧
    (let u := real486.setSp (withReg .ebp 0x300 real486).regs.ebp;
      u.canPop 16 = true) ∧ real486.opWidth = 16 := by
  refine ⟨by decide +kernel, roomFor_of (by decide +kernel), holds_of (by decide +kernel),
    ⟨roomFor_of (by decide +kernel), by decide +kernel, by decide +kernel, fun k hk => offStack_of ?_⟩, by decide +kernel,
    by decide +kernel⟩
  revert k
  decide +kernel

theorem witness_FlagInstructions : ∀ s ∈ [real486, real86, prot3, virtual86 0], s.lockOk false = true ∧
    s.ready8 .write (.mem memOp) = true := by
  decide +kernel

/-- In V86 mode with IOPL 3 and outside it. -/
theorem witness_FlagsOnStack : ∀ s ∈ [real486, real32, real86, prot3, virtual86 3], s.lockOk false = true ∧
    (s.v86 = true → s.flags.iopl = 3) ∧ s.canPush s.opWidth = true ∧ s.canPop s.opWidth = true := by
  decide +kernel

theorem witness_SumAndDifferenceFlags : ∀ w ∈ [8, 16, 32], w = 8 ∨ w = 16 ∨ w = 32 := by
  decide +kernel

/-- The flags after the comparison of 80h with 7Fh. -/
theorem witness_Conditions :
    Alu.sub.sets (0x80 : Byte) 0x7F false
      { Flags.afterReset with cf := false, pf := false, af := true, zf := false, sf := false, ovf := true } := by
  unfold Alu.sets Flags.tells Flags.ofDiff Alu.result
  decide +kernel

/-- Taken and not taken; a target in the segment, and one outside it, which takes a 32-bit operand. -/
theorem witness_NearJumps :
    (∀ s ∈ [real486, real86], s.lockOk false = true ∧ s.targetOk (targetOf s.op32 (s.nextIp + 0xFFFFFF80)) = true ∧
      s.readyv .read s.opWidth (.mem memOp) = true) ∧
    (real32.lockOk false = true ∧ real32.targetOk (targetOf real32.op32 (real32.nextIp + 0x10000)) = false) ∧
    (Cond.e.holds real486.flags = false ∧ Cond.ne.holds real486.flags = true) ∧
    (real486.reg real486.addrWidth .ecx = 0 ∧ (withReg .ecx 1 real486).reg real486.addrWidth .ecx ≠ 0) := by
  decide +kernel

/-- The counter 1, which becomes 0, and 0, which becomes FFFFh; a target below offset 0 with a 32-bit operand. -/
theorem witness_Loops :
    ((withReg .ecx 1 real486).reg 16 .ecx - 1 = 0 ∧ real486.reg 16 .ecx - 1 = 0xFFFF ∧ real486.addrWidth = 16) ∧
    real486.lockOk false = true ∧ real486.targetOk (targetOf real486.op32 (real486.nextIp + 0xFFFFFF80)) = true ∧
    (let s := atIp 0 real32;
      s.lockOk false = true ∧ s.targetOk (targetOf s.op32 (s.nextIp + 0xFFFFFF80)) = false) := by
  decide +kernel

theorem witness_NearCallsAndReturns :
    (∀ s ∈ [real486, real32, real86], s.lockOk false = true ∧ s.canPush s.opWidth = true ∧ s.canPop s.opWidth = true ∧
      s.readyv .read s.opWidth (.reg .ebx) = true ∧ s.targetOk (targetOf s.op32 ((s.valv s.opWidth (.reg .ebx)).setWidth 32)) = true ∧
      s.targetOk (targetOf s.op32 ((s.top s.opWidth).setWidth 32)) = true) ∧
    (real32.targetOk (targetOf real32.op32 (real32.nextIp + 0x10000)) = false) ∧
    let s := withMem 0x10100 [0, 0, 1, 0] real32
    s.canPop s.opWidth = true ∧ s.targetOk (targetOf s.op32 ((s.top s.opWidth).setWidth 32)) = false := by
  decide +kernel

theorem witness_FarTransfers86 : ∀ s ∈ [real486, real86, virtual86 0], s.lockOk false = true ∧ s.prot = false ∧
    s.targetOk (targetOf s.op32 0xFFFF) = true ∧ s.roomFor 16 2 ∧ s.holds 16 2 ∧ s.opWidth = 16 ∧
    s.targetOk (targetOf s.op32 ((s.top 16).setWidth 32)) = true ∧
    s.reachesPair memOp 2 2 = true := by
  have stack : ∀ s ∈ [real486, real86, virtual86 0],
      (List.range 2).all (fun i => s.reaches .ss .write (s.down 16 (i + 1)) 2 2) = true ∧
        (List.range 2).all (fun i => s.reaches .ss .read (s.up 16 i) 2 2) = true := by decide +kernel
  have others : ∀ s ∈ [real486, real86, virtual86 0], s.lockOk false = true ∧ s.prot = false ∧
      s.targetOk (targetOf s.op32 0xFFFF) = true ∧ s.opWidth = 16 ∧
      s.targetOk (targetOf s.op32 ((s.top 16).setWidth 32)) = true ∧ s.reachesPair memOp 2 2 = true := by decide +kernel
  intro s hs
  obtain ⟨lock, mode, there, rest⟩ := others s hs
  exact ⟨lock, mode, there, roomFor_of (stack s hs).1, holds_of (stack s hs).2, rest⟩

/-- The places of three words pushed do not touch vector `n`. -/
theorem offStack_vector (s : State) (hs : s ∈ [real486, real86]) (n : Nat) (hn : n ∈ [0, 3, 255]) (k : Nat)
    (hk : k < 2) : s.offStack 16 3 (s.tablePlace (n * 4) k) ∧ s.offStack 16 3 (s.tablePlace (n * 4 + 2) k) := by
  constructor
  · apply offStack_of
    revert s n k
    decide +kernel
  · apply offStack_of
    revert s n k
    decide +kernel

theorem witness_RealInterruptReturn : real486.holds 16 3 ∧ real486.lockOk false = true ∧ real486.real = true ∧
    real486.opWidth = 16 ∧ real486.targetOk (targetOf real486.op32 ((real486.top 16).setWidth 32)) = true :=
  ⟨holds_of (by decide +kernel), by decide +kernel⟩

/-- Vector 255. -/
theorem witness_InterruptThenReturn :
    (real486.roomFor 16 3 ∧ ∀ i, i ≤ 3 → 1 ≤ i → real486.reaches .ss .read (real486.down 16 i) 2 2 = true) ∧
    real486.lockOk false = true ∧ real486.real = true ∧ real486.op32 = false ∧
    real486.cur.op = false ∧ 255 * 4 + 3 ≤ real486.idtr.limit.toNat ∧
    real486.tableOk .read (255 * 4) 2 = true ∧ real486.tableOk .read (255 * 4 + 2) 2 = true := by
  refine ⟨⟨roomFor_of (by decide +kernel), fun i hi => ?_⟩, by decide +kernel⟩
  have h : ∀ i, i < 4 → 1 ≤ i → real486.reaches .ss .read (real486.down 16 i) 2 2 = true := by decide +kernel
  exact h i (by omega)

/-- Bounds -5 and 99: at each bound inside, one past it outside. -/
theorem witness_BoundChecks : ∀ p ∈ [((0xFFFB : Nat), true), (0x63, true), (0xFFFA, false), (0x64, false)],
    let s := withReg .ebx (BitVec.ofNat 32 p.1) (withMem 0x10200 [0xFB, 0xFF, 0x63, 0] real486)
    let g := s.memSeg memOp
    s.lockOk false = true ∧ s.opWidth = 16 ∧ s.reachesPair memOp 2 2 = true ∧
      decide ((s.memVal 16 g (s.memOff memOp)).toInt ≤ (s.reg 16 .ebx).toInt ∧
        (s.reg 16 .ebx).toInt ≤ (s.memVal 16 g (s.memOff memOp + BitVec.ofNat 32 2)).toInt) = p.2 := by
  decide +kernel

/-- No prefix, a counter of 1 (the last element) and of 2, a counter of 0. -/
theorem witness_StringMoves :
    (∀ s ∈ [real486, repeated (withReg .ecx 1 real486), repeated (withReg .ecx 2 real486)],
      (s.cur.rep = none ∨ s.reg s.addrWidth .ecx ≠ 0) ∧ s.lockOk false = true ∧ ∀ n ∈ [1, 2],
        s.reaches (s.cur.seg.getD .ds) .read (s.pointer .esi) n n = true ∧
        s.reaches .es .write (s.pointer .edi) n n = true) ∧
    ¬((repeated real486).cur.rep = none ∨ (repeated real486).reg (repeated real486).addrWidth .ecx ≠ 0) := by
  decide +kernel

theorem witness_StringCompares :
    (∀ s ∈ [real486, repeated (withReg .ecx 1 real486), repeated (withReg .ecx 2 real486)],
      (s.cur.rep = none ∨ s.reg s.addrWidth .ecx ≠ 0) ∧ s.lockOk false = true ∧ ∀ n ∈ [1, 2],
        s.reaches (s.cur.seg.getD .ds) .read (s.pointer .esi) n n = true ∧
        s.reaches .es .read (s.pointer .edi) n n = true) ∧
    ¬((repeated real486).cur.rep = none ∨ (repeated real486).reg (repeated real486).addrWidth .ecx ≠ 0) := by
  decide +kernel

/-- Low digits 9 and 10, AF set; base 0 and 10. -/
theorem witness_DecimalAdjustments : ∀ p ∈ [(9, 0, false), (10, 0, true), (0, 2, true)],
    let s := withFlags p.2.1 (withReg .eax p.1 real486)
    s.lockOk false = true ∧ decide (s.flags.af = true ∨ 9 < (s.reg8 .al).toNat % 16) = p.2.2 := by
  decide +kernel

theorem witness_TableRegisters : ∀ s ∈ [real486, protectedAt .i80286 0, prot0], s.lockOk false = true ∧ s.cpl = 0 ∧
    s.reaches (s.memSeg memOp) .read (s.memOff memOp) 6 4 = true ∧
    s.reaches (s.memSeg memOp) .write (s.memOff memOp) 6 4 = true := by
  decide +kernel

theorem witness_StatusRegisters : prot0.prot = true ∧ prot0.lockOk false = true ∧ prot0.cpl = 0 ∧
    ∀ d ∈ [Rmv.reg .ebx, .mem memOp], prot0.readyv .write 16 d = true ∧ prot0.readyv .read 16 d = true := by
  decide +kernel

/-- An LDT, a TSS of each kind; a busy TSS, a TSS and an LDT that are not present, a selector of the LDT, a null one. -/
theorem witness_TaskAndLdtLoads :
    (prot0.lockOk false = true ∧ prot0.prot = true ∧ prot0.cpl = 0 ∧ prot0.readyv .read 16 (.reg .ebx) = true) ∧
    (prot0.valv 16 (.reg .ebx) = 0 ∧ selNull 0 = true) ∧
    ((withReg .ebx 0x14 prot0).valv 16 (.reg .ebx) = 0x14 ∧ selNull 0x14 = false ∧ selLocal 0x14 = true) ∧
    selLocal 0x10 = false ∧
    (dIsSystem (descIs 0x82) = true ∧ dType (descIs 0x82) = 2 ∧ dPresent (descIs 0x82) = true) ∧
    (dIsSystem (descIs 0x81) = true ∧ dType (descIs 0x81) = 1 ∧ dType (descIs 0x89) = 9 ∧
      dPresent (descIs 0x89) = true ∧ (withDesc 0x89 0x10 prot0).tableOk .write (0x8010 + 5) 1 = true) ∧
    (dPresent (descIs 0x02) = false ∧ dType (descIs 0x02) = 2 ∧ dIsSystem (descIs 0x02) = true) ∧
    (dPresent (descIs 0x01) = false ∧ dType (descIs 0x01) = 1 ∧ dIsSystem (descIs 0x01) = true) ∧
    dIsSystem (descIs 0x92) = false := by
  decide +kernel

/-- Visible at level 0 and not at level 3; readable, writable, with rights and a limit, and without. -/
theorem witness_SelectorChecks :
    (∀ s ∈ [prot0, prot3], s.lockOk false = true ∧ s.prot = true ∧ s.readyv .read 16 (.reg .ebx) = true ∧
      s.readyv .update 16 (.mem memOp) = true) ∧
    (max prot0.cpl (selRpl 0x10) ≤ dDpl (descIs 0x92) ∧ dConforming (descIs 0x92) = false ∧
      ¬(max prot3.cpl (selRpl 0x10) ≤ dDpl (descIs 0x92)) ∧ dConforming (descIs 0x9E) = true) ∧
    (dIsReadable (descIs 0x92) = true ∧ dIsReadable (descIs 0x98) = false ∧ dIsWritableData (descIs 0x92) = true ∧
      dIsWritableData (descIs 0x90) = false ∧ dIsSystem (descIs 0x92) = false ∧ dType (descIs 0x82) = 2) ∧
    (selNull 0 = true ∧ prot0.descAddr 0x100 = none) ∧
    (withDesc 0x92 0x10 prot0).finds 0x10 (descIs 0x92) 0x8010 ∧
    (withDesc 0x92 0x10 prot0).tableOk .write (0x8010 + 5) 1 = true := by
  unfold State.finds
  decide +kernel

/-- Each register number, at level 0; a debug-register guard set and clear; CR0 images that are refused; a TLB test command that
writes to way 2, and one that looks for the entry it wrote. -/
theorem witness_SpecialRegisterMoves :
    (∀ s ∈ [prot0, real486, protectedAt .i80386 0], s.lockOk false = true ∧ s.cpl = 0 ∧ 3 ≤ s.level ∧ s.cr0Ok = true ∧
      s.dr7.getLsbD 13 = false ∧ s.flags.rf = false) ∧
    (∀ rf, let s : State := { prot0 with dr7 := 0x2000, flags := { prot0.flags with rf := rf } }
      s.dr7.getLsbD 13 = true ∧ s.flags.rf = rf ∧ s.lockOk false = true ∧ s.cpl = 0 ∧ s.cr0Ok = true) ∧
    (∀ n ∈ [0x60000011, 0xE0000011, 0x10], let v : Dword := BitVec.ofNat 32 n
      (v.getLsbD 31 = true → v.getLsbD 0 = true) ∧ (v.getLsbD 29 = true → v.getLsbD 30 = true)) ∧
    (0x80000000 : Dword).getLsbD 31 = true ∧ (0x80000000 : Dword).getLsbD 0 = false ∧
    (0x20000001 : Dword).getLsbD 29 = true ∧ (0x20000001 : Dword).getLsbD 30 = false ∧
    prot0.cacheOn = false ∧
    (let v : Dword := 0x00403D40;
      let s : State := { prot0 with tr7 := 0x00123018 };
      v.getLsbD 0 = false ∧ v.getLsbD 10 ≠ v.getLsbD 9 ∧ v.getLsbD 8 ≠ v.getLsbD 7 ∧ v.getLsbD 6 ≠ v.getLsbD 5 ∧
        s.tr7.getLsbD 4 = true ∧ s.tr7.toNat / 4 % 4 = 2) ∧
    (let v : Dword := 0x00403D41;
      v.getLsbD 0 = true ∧ ∀ k : Fin 4, prot0.tlb[tlbSetOf 0x403000].ways[k].valid = false) := by
  decide +kernel

/-- An 80486 with its cache modelled, which holds the line at 10200h in way 1. -/
def cached (cd nw : Bool) : State :=
  let line : CacheLine := { valid := true, tag := 0x20, data := 0x0F0E0D0C0B0A09080706050403020100 }
  { prot0 with
    cfg := { prot0.cfg with cacheModel := .full }, cr0 := { prot0.cr0 with cd := cd, nw := nw }
    cache := [(32, { CacheSet.empty with ways := CacheSet.empty.ways.set 1 line })] }

/-- The four commands of TR5, set 32, entry 1. -/
theorem witness_SpecialRegisterMoves_cache :
    (cached true true).cacheOn = true ∧ (cached true true).lockOk false = true ∧ (cached true true).cpl = 0 ∧
      (cached true true).cr0Ok = true ∧ ∀ k, k < 4 → let v : Dword := 0x204 + BitVec.ofNat 32 k
        v.toNat % 4 = k ∧ v.toNat / 16 % 128 = 32 ∧ v.toNat / 4 % 4 = 1 := by
  decide +kernel

theorem witness_ProcessorControl : (∀ s ∈ [prot0, prot3, real486, withIopl 3 prot3], s.lockOk false = true) ∧
    prot0.cpl = 0 ∧ prot0.prot = true ∧ real486.real = true ∧ prot0.cpl ≤ prot0.flags.iopl.toNat ∧
    (withIopl 3 prot3).cpl ≤ (withIopl 3 prot3).flags.iopl.toNat := by
  decide +kernel

/-- Level 3 with IOPL 0, V86 mode with IOPL 0 and 2, real mode; LOCK before NOP on the 80486, in V86 mode and on the 80286. -/
theorem witness_Privileges :
    (prot3.lockOk false = true ∧ prot3.level ≠ 0 ∧ prot3.cpl ≠ 0 ∧ prot3.prot = true ∧ prot3.real = false ∧
      prot3.flags.iopl.toNat < prot3.cpl) ∧
    (∀ s ∈ [virtual86 0, virtual86 2], s.lockOk false = true ∧ s.level ≠ 0 ∧ s.v86 = true ∧ s.flags.iopl ≠ 3) ∧
    (real486.lockOk false = true ∧ real486.prot = false) ∧ mayLock .nop = false ∧
    isPrefix (.addRm8R8 (.mem memOp) .al) = false ∧ mayLock (.addRm8R8 (.mem memOp) .al) = true ∧
    (∀ s ∈ [real486, virtual86 0, protectedAt .i80286 3], let u : State := { s with cur := { s.cur with lock := true } }
      u.cur.lock = true ∧ (u.v86 = true → u.flags.iopl ≠ 3) ∧ (u.level = 2 → u.flags.iopl.toNat < u.cpl)) := by
  decide +kernel

/-- DS with a limit, expanding up or down. -/
def limited (acc : Byte) (limit : Dword) (s : State) : State := { s with ds := segAt 0x20 0x10000 limit acc false }

/-- The word at 200h: the limit 201h lets it through, 200h does not; expand down with limit 1FFh lets it through, with 200h
not; read-only and unusable segments; an address that is not aligned, at level 3 with AM and AC set. -/
theorem witness_SegmentFaults :
    (prot3.lockOk false = true ∧ prot3.level = 4 ∧ prot3.opWidth = 16 ∧ prot3.memSeg memOp = .ds ∧
      (prot3.memOff memOp).toNat = 0x200) ∧
    (∀ p ∈ [((0xF3 : Nat), (0x201 : Nat), false), (0xF3, 0x200, true), (0xF7, 0x1FF, false), (0xF7, 0x200, true)],
      let g := (limited (BitVec.ofNat 8 p.1) (BitVec.ofNat 32 p.2.1) prot3).ds
      g.valid = true ∧ g.allows .read = true ∧ g.allows .write = true ∧
        decide (if g.expandDown then 0x200 ≤ g.limit.toNat ∨ (if g.big then 2 ^ 32 else 2 ^ 16) < 0x200 + 2
          else g.limit.toNat < 0x200 + 2 - 1) = p.2.2) ∧
    (limited 0xF1 0xFFFF prot3).ds.allows .write = false ∧
    (let s := withIopl 0 prot3;
      let u : State := { s with cr0 := { s.cr0 with am := true }, flags := { s.flags with ac := true } };
      u.cr0.am = true ∧ u.flags.ac = true ∧ u.cpl = 3 ∧ u.linear .ds 0x201 % 2 ≠ 0) := by
  decide +kernel

/-- A push from the stack pointer 1 wraps past the top, a pop at FFFFh crosses it; MOV, PUSH, near CALL, RET and strings. -/
theorem witness_SegmentFaults_forms (s : State) (h : s = withReg .esp 1 prot3 ∨ s = withReg .esp 0xFFFF prot3) :
    (s.accessForm (.movRm8R8 (.mem memOp) .al) .ds .write 0x200 1 ∧ s.accessForm (.pushRv .eax) .ss .write (s.pushAt 16) 2 ∧
      s.accessForm (.callRelv 0) .ss .write (s.pushAt 16) 2 ∧ s.accessForm .ret .ss .read s.sp 2 ∧
      s.accessForm .movsb .ds .read (s.pointer .esi) 1 ∧ s.accessForm .stosv .es .write (s.pointer .edi) 2) ∧
    s.lockOk false = true ∧ s.level ≠ 0 ∧ s.ss.valid = true ∧ s.ss.allows .write = true ∧ s.ss.allows .read = true ∧
      s.ss.expandDown = false ∧ (s.ss.limit.toNat < (s.pushAt 16).toNat + 2 - 1 ∨ s.ss.limit.toNat < s.sp.toNat + 2 - 1) := by
  rcases h with rfl | rfl
  all_goals
    refine ⟨?_, by decide +kernel⟩
    simp [State.accessForm]
    unfold State.takesElement
    decide +kernel

/-- A pointer in the last word of a segment of 4 GB. -/
theorem witness_SegmentFaults_top :
    let s := limited 0x93 0xFFFFFFFF { prot0 with cs := { prot0.cs with big := true } }
    let s : State := { s with cur := { s.cur with op := true } }
    let m : Mem := .direct32 0xFFFFFFFE
    pairForm (.ldsRvM16v .eax m) m ∧ s.lockOk false = true ∧ 2 < s.level ∧ s.opWidth = 16 ∧
      s.reaches (s.memSeg m) .read (s.memOff m) (s.opWidth / 8) (s.opWidth / 8) = true ∧
      2 ^ 32 ≤ (s.memOff m).toNat + s.opWidth / 8 :=
  ⟨.inl ⟨.eax, .inl rfl⟩, by decide +kernel⟩

/-- An IDT with a gate of a kind at entry 21h, and the code segment it names at entry 2 of the GDT. -/
def withGate (acc : Byte) (s : State) : State :=
  withDesc 0x9A 0 (idtEntry 0x21 (gateBytes 0x1234 0x10 0 acc) s)

/-- The gate. -/
def gateIs (acc : Byte) : Descriptor := leValue 64 (gateBytes 0x1234 0x10 0 acc)

/-- Tables with what the changes of level and task need: in the GDT a code and a data segment of level 0 (10h, 20h) and of
level 3 (40h, 48h), the current TSS (28h), a call gate with two parameters (30h), a TSS at B000h (38h) and a task gate (50h);
in the IDT an interrupt gate (21h) and a task gate (22h); in the current TSS the stack 20h:100h for level 0 and the back link
38h; in the other a V86 task. -/
def tables (tss : Byte) (s : State) : State :=
  gdtEntry 2 (descBytes 0x1FFF 0x100000 0x9A 0) <| gdtEntry 4 (descBytes 0xFFFF 0x20000 0x92 0) <|
  gdtEntry 5 (descBytes 0x100 0xA000 0x8B 0) <| gdtEntry 6 (gateBytes 0x1234 0x10 2 0xEC) <|
  gdtEntry 7 (descBytes 0x67 0xB000 tss 0) <| gdtEntry 8 (descBytes 0x1FFF 0x100000 0xFA 0) <|
  gdtEntry 9 (descBytes 0xFFFF 0x40000 0xF2 0) <| gdtEntry 10 (gateBytes 0 0x38 0 0xE5) <|
  idtEntry 0x21 (gateBytes 0x1234 0x10 0 0xEE) <| idtEntry 0x22 (gateBytes 0 0x38 0 0xE5) <|
  withMem 0xA000 [0x38, 0, 0, 0, 0, 1, 0, 0, 0x20, 0] <| withMem 0xB020 [0x34, 0x12, 0, 0, 2, 0, 2, 0] s

def codeIs (acc : Byte) : Descriptor := leValue 64 (descBytes 0x1FFF 0x100000 acc 0)
def dataIs (b : Nat) (acc : Byte) : Descriptor := leValue 64 (descBytes 0xFFFF b acc 0)
def tssIs (acc : Byte) : Descriptor := leValue 64 (descBytes 0x67 0xB000 acc 0)

/-! The named conditions of the statements, from what of them can be computed. -/

theorem roomApart_of {s : State} {w n : Nat} {as : List Nat}
    (h : (List.range n).all (fun i => s.reaches .ss .write (s.down w (i + 1)) (w / 8) (w / 8)) = true)
    (h2 : as.all (fun a => (List.range n).all (fun i => (List.range (w / 8)).all fun k =>
      decide (s.placeAt .ss (s.down w (i + 1)) k ≠ s.tablePlace (a + 5) 0))) = true) : s.roomApart w n as :=
  ⟨roomFor_of h, fun a ha => offStack_of (List.all_eq_true.mp h2 a ha)⟩

theorem finds_of {s : State} {sel : Word} {d : Descriptor} {a : Nat}
    (h : s.descAddr sel = some a ∧ s.tableOk .read a 8 = true ∧ s.tableVal 64 a = d) : s.finds sel d a := h

theorem names_of {s : State} {sel : Word} {d : Descriptor} {a : Nat}
    (h : (s.descAddr sel = some a ∧ s.tableOk .read a 8 = true ∧ s.tableVal 64 a = d) ∧
      s.tableOk .write (a + 5) 1 = true) : s.names sel d a := h

theorem findsStack_of {s : State} {level : Nat} {ss : Word} {d : Descriptor} {a : Nat} (h : s.names ss d a)
    (h2 : selNull ss = false ∧ selRpl ss = level ∧ dIsWritableData d = true ∧ dDpl d = level ∧ dPresent d = true) :
    s.findsStack level ss d a :=
  ⟨h2.1, h, h2.2⟩

theorem raises_int {s : State} {n : Byte} (h : s.lockOk false = true ∧ (s.v86 = true → s.flags.iopl = 3)) :
    s.raises (exec (.intImm8 n) s) true n none s.nextIp s.flags.rf s := by
  simp [State.raises, h.1]
  exact .inr (.inl h.2)

theorem raises_ext (s : State) (n : Byte) : s.raises (s.takeExternal n) false n none s.resumeIp s.flags.rf s := by
  simp [State.raises]

theorem raises_fault (s : State) (n : Byte) (err : Option Word) :
    s.raises (s.deliverExn s.nextIp (Exn.fault n err)) false n err (if s.level = 0 then s.nextIp else s.eip) true
      (s.noted (Exn.fault n err)) :=
  .inr (.inr ⟨Exn.fault n err, s.nextIp, by simp [Exn.fault]⟩)

/-- RETF with four bytes to remove from level 0 to level 3: the stack holds 40h:1234h and, above the parameters, 4Bh:0200h. -/
theorem witness_LevelChangesAndTaskSwitches :
    let s := withMem 0x10100 [0x34, 0x12, 0x43, 0, 1, 2, 3, 4, 0, 2, 0x4B, 0] (tables 0x89 prot0)
    (s.returnForm (.retfImm16 4) 4 ∧ s.names 0x43 (codeIs 0xFA) 0x8040 ∧ s.findsStack 3 0x4B (dataIs 0x40000 0xF2) 0x8048) ∧
      s.lockOk false = true ∧ s.prot = true ∧ s.level ≠ 0 ∧ s.opWidth = 16 ∧
      (s.memVal 16 .ss (s.up 16 1)).setWidth 16 = (0x43 : Word) ∧ selNull 0x43 = false ∧ s.cpl < selRpl 0x43 ∧
      dIsCode (codeIs 0xFA) = true ∧ dConforming (codeIs 0xFA) = false ∧
      dDpl (codeIs 0xFA) = selRpl 0x43 ∧ dPresent (codeIs 0xFA) = true ∧
      ((s.top 16).setWidth 32 : Dword).toNat ≤ (dLimit s.level (codeIs 0xFA)).toNat ∧
      s.reaches .ss .read (s.stackOff (s.sp + BitVec.ofNat 32 8)) 2 2 = true ∧
      s.reaches .ss .read (s.stackOff (s.sp + BitVec.ofNat 32 10)) 2 2 = true ∧
      (s.memVal 16 .ss (s.stackOff (s.sp + BitVec.ofNat 32 10))).setWidth 16 = (0x4B : Word) :=
  ⟨⟨.inl ⟨.inr rfl, holds_of (by decide +kernel)⟩, names_of (by decide +kernel),
    findsStack_of (names_of (by decide +kernel)) (by decide +kernel)⟩, by decide +kernel⟩

/-- IRETD at level 0 with nine doublewords, VM set in the third. -/
theorem witness_LevelChangesAndTaskSwitches_toV86 :
    let s : State := withMem 0x10100 [0x34, 0x12, 0, 0, 0, 0x10, 0, 0, 2, 0, 2, 0] (tables 0x89 prot0)
    let s : State := { s with cur := { s.cur with op := true } }
    s.holds 32 9 ∧ s.lockOk false = true ∧ s.prot = true ∧ s.cpl = 0 ∧ s.flags.nt = false ∧ s.op32 = true ∧
      (s.memVal 32 .ss (s.up 32 2)).getLsbD 17 = true :=
  ⟨holds_of (by decide +kernel), by decide +kernel⟩

/-- INT 21h, from level 3 and from V86 mode, to the handler at level 0. -/
theorem witness_LevelChangesAndTaskSwitches_inner :
    ∀ s, s = tables 0x89 prot3 ∨ s = tables 0x89 (virtual86 3) →
      let gate : Descriptor := leValue 64 (gateBytes 0x1234 0x10 0 0xEE)
      s.raises (exec (.intImm8 0x21) s) true 0x21 none s.nextIp s.flags.rf s ∧
      (s.atInner (dDpl (codeIs 0x9A)) 0x20 0x100 (dataIs 0x20000 0x92)).roomApart 32
        ((if s.v86 then 4 else 0) + 5) [0x8010, 0x8020] ∧
      (s.idtGives 0x21 gate ∧ s.entryGate true gate ∧ s.innerStackIs (dDpl (codeIs 0x9A)) 0x20 0x100) ∧
      (s.names (gateSel gate) (codeIs 0x9A) 0x8010 ∧
        s.findsStack (dDpl (codeIs 0x9A)) 0x20 (dataIs 0x20000 0x92) 0x8020) ∧
      s.real = false ∧ 2 ≤ s.level ∧ selNull (gateSel gate) = false ∧
      dIsCode (codeIs 0x9A) = true ∧ dConforming (codeIs 0x9A) = false ∧
      dDpl (codeIs 0x9A) < s.cpl ∧ dPresent (codeIs 0x9A) = true ∧
      (s.v86 = true → dDpl (codeIs 0x9A) = 0 ∧ 8 ≤ dType gate ∧ s.tr.is386 = true) ∧
      (gateOffset gate).toNat ≤ (dLimit s.level (codeIs 0x9A)).toNat := by
  rintro s (rfl | rfl)
  all_goals
    refine ⟨raises_int (by decide +kernel), roomApart_of (by decide +kernel) (by decide +kernel), ?_,
      ⟨names_of (by decide +kernel), findsStack_of (names_of (by decide +kernel)) (by decide +kernel)⟩, by decide +kernel⟩
    unfold State.idtGives State.entryGate State.innerStackIs
    decide +kernel

/-- A far CALL through the call gate 30h from level 3, two doublewords of parameters. -/
theorem witness_LevelChangesAndTaskSwitches_callGate :
    let s := tables 0x89 prot3
    let u := s.atInner 0 0x20 0x100 (dataIs 0x20000 0x92)
    let gate : Descriptor := leValue 64 (gateBytes 0x1234 0x10 2 0xEC)
    (s.farForm (.callPtr16v 0 0x33) true 0x33 0 ∧ s.finds 0x33 gate 0x8030 ∧ s.names 0x10 (codeIs 0x9A) 0x8010 ∧
      s.findsStack 0 0x20 (dataIs 0x20000 0x92) 0x8020) ∧
      u.roomApart 32 6 [0x8010, 0x8020] ∧
      (∀ j, j < 2 → ∀ k, k < 4 → u.offStack 32 2 (s.placeAt .ss (s.up 32 j) k)) ∧
      s.innerStackIs 0 0x20 0x100 ∧
      (∀ j, j < 2 → s.reaches .ss .read (s.up 32 j) 4 4 = true ∧ ∀ k, k < 4 →
        s.placeAt .ss (s.up 32 j) k ≠ s.tablePlace (0x8020 + 5) 0) ∧
      s.lockOk false = true ∧ s.prot = true ∧ s.level ≠ 0 ∧
      selNull 0x33 = false ∧ dIsSystem gate = true ∧ dType gate = 12 ∧ 3 ≤ s.level ∧
      max s.cpl (selRpl 0x33) ≤ dDpl gate ∧ dPresent gate = true ∧ selNull (gateSel gate) = false ∧
      gateSel gate = 0x10 ∧ dDpl (codeIs 0x9A) < s.cpl ∧
      (gateOffset gate).toNat ≤ (dLimit s.level (codeIs 0x9A)).toNat ∧ gateCount gate = 2 := by
  refine ⟨⟨.inr (.inl ⟨rfl, rfl⟩), finds_of (by decide +kernel), names_of (by decide +kernel),
    findsStack_of (names_of (by decide +kernel)) (by decide +kernel)⟩,
    roomApart_of (by decide +kernel) (by decide +kernel), fun j hj k hk => offStack_of ?_, ?_⟩
  · revert j k
    decide +kernel
  · unfold State.innerStackIs
    decide +kernel

/-- The places a task switch saves the registers in, and those of the new TSS. -/
def savedPlaces (s : State) : List Nat :=
  if s.tr.is386 then (List.range 64).map (s.tablePlace (s.tr.base.toNat + 32))
  else (List.range 28).map (s.tablePlace (s.tr.base.toNat + 14))

theorem savedAt_iff (s : State) (x : Nat) : s.savedAt x ↔ x ∈ savedPlaces s := by
  unfold State.savedAt savedPlaces
  split <;> simp [eq_comm]

theorem places_iff (s : State) (b n x : Nat) :
    (∃ k, k < n ∧ x = s.tablePlace b k) ↔ x ∈ (List.range n).map (s.tablePlace b) := by
  simp [eq_comm]

/-- A task at B000h in a TSS of either format, of level 0 with the code and stack segments 10h and 20h, DS in the LDT 58h at
C000h (a data segment of level 3), ES null; the current TSS at A000h of either format, nested from 38h. -/
def tasks (old : Bool) (new : Byte) (s : State) : State :=
  let word (v : Byte) : List Byte := if new = 0x89 ∨ new = 0x8B then [v, 0, 0, 0] else [v, 0]
  let regs : List Byte := [0x34, 2, 1, 2, 3, 4, 5, 6, 7, 8, 0, 0x10, 0x20, 0x0C] ++
    if new = 0x89 ∨ new = 0x8B then [0x48, 0, 0x58] else [0x58]
  let s := withMem (if new = 0x89 ∨ new = 0x8B then 0xB020 else 0xB00E) (regs.flatMap word) (tables new s)
  let s := gdtEntry 11 (descBytes 0x1F 0xC000 0x82 0) (withMem 0xC008 (descBytes 0xFFFF 0x40000 0xF2 0) s)
  { s with tr := { s.tr with is386 := old }, gdtr := { s.gdtr with limit := 0x5F } }

/-- The descriptors of its segments. -/
def taskSegs (g : SReg) : Descriptor × Nat :=
  match g with
  | .cs => (codeIs 0x9A, 0x8010)
  | .ss => (dataIs 0x20000 0x92, 0x8020)
  | .ds => (dataIs 0x40000 0xF2, 0xC008)
  | .fs => (dataIs 0x40000 0xF2, 0x8048)
  | .es | .gs => (0, 0)

theorem switchRoom_of {s : State} {kind : SwitchKind} {sel : Word} {d : Descriptor} {as : List Nat}
    (h : let base := (dBase s.level d).toNat
      let taken := (List.range (if 8 ≤ dType d then 104 else 44)).map (s.tablePlace base)
      let b1 := s.tablePlace (s.busyAt s.tr.sel) 0
      let b2 := s.tablePlace (s.busyAt sel) 0
      (selNull s.tr.sel = false ∧
        (if s.tr.is386 then s.tableOk .write (s.tr.base.toNat + 32) 64 = true
          else s.tableOk .write (s.tr.base.toNat + 14) 28 = true) ∧
        s.tableOk .update (s.busyAt s.tr.sel) 1 = true ∧ s.tableOk .update (s.busyAt sel) 1 = true ∧
        s.tableOk .write base (if 8 ≤ dType d then 4 else 2) = true) ∧
      (b1 ≠ b2 ∧ (∀ x, x ∈ savedPlaces s → x ≠ b1 ∧ x ≠ b2 ∧ x ∉ taken) ∧ b1 ∉ taken ∧ b2 ∉ taken) ∧
      ∀ a, a ∈ as → (∀ k, k < 8 → let x := s.tablePlace a k; x ≠ b1 ∧ x ≠ b2 ∧ x ∉ savedPlaces s ∧ x ∉ taken) ∧
        ∀ a', a' ∈ as → ∀ k, k < 8 → s.tablePlace a' k = s.tablePlace (a + 5) 0 → k = 5) :
    s.switchRoom kind sel d as := by
  simp only [State.switchRoom, savedAt_iff, places_iff, decide_eq_true_eq]
  obtain ⟨⟨own, saving, oldBusy, newBusy, link⟩, ⟨apart, saved, clear⟩, descs⟩ := h
  exact ⟨own, saving, oldBusy, newBusy, fun _ => link, apart, saved, clear.1, clear.2, descs⟩

/-- A segment register of a task can be loaded, as a computation. -/
def segFits (s : State) (g : SReg) (level : Nat) (sel : Word) (d : Descriptor) (a : Nat) : Bool :=
  let named := decide (s.descAddr sel = some a) && s.tableOk .read a 8 && decide (s.tableVal 64 a = d) &&
    s.tableOk .write (a + 5) 1 && dPresent d
  match g with
  | .cs => !selNull sel && named && dIsCode d && !dConforming d && decide (dDpl d = level)
  | .ss => !selNull sel && named && decide (selRpl sel = level) && dIsWritableData d && decide (dDpl d = level)
  | .ds | .es | .fs | .gs => selNull sel || (named && dIsReadable d && decide (max level (selRpl sel) ≤ dDpl d))

theorem taskSeg_of {s : State} {g : SReg} {level : Nat} {sel : Word} {d : Descriptor} {a : Nat}
    (h : segFits s g level sel d a = true) : s.taskSeg g level sel d a := by
  cases g <;> simp [segFits, State.taskSeg, State.findsStack, State.names, State.finds] at h ⊢ <;> grind

/-- A task can be switched to, as a computation: `dl` and `al` are the descriptor of its LDT and its address. -/
def taskFit (s : State) (kind : SwitchKind) (sel : Word) (d : Descriptor) (a : Nat) (l : LdtReg) (dl : Descriptor) (al : Nat)
    (segs : SReg → Descriptor × Nat) (as : List Nat) : Bool :=
  let f := decide (8 ≤ dType d)
  let base := (dBase s.level d).toNat
  let ldt := s.tssLdt f base
  let eip := (s.tssField f base 0).toNat
  decide (selNull sel = false ∧ selLocal sel = false ∧ (s.descAddr sel = some a ∧ s.tableOk .read a 8 = true ∧
      s.tableVal 64 a = d) ∧ dIsSystem d = true ∧ dType d ∈ (if kind = .iret then [3, 11] else [1, 9]) ∧
      (f = true → 3 ≤ s.level) ∧ dPresent d = true ∧ (if f then 103 else 43) ≤ (dLimit s.level d).toNat ∧
      if f then s.tableOk .read (base + 32) 72 = true else s.tableOk .read (base + 14) 30 = true) &&
    (if selNull ldt then decide (l = { s.ldtr with sel := ldt, valid := false })
      else decide (al ∈ as ∧ selLocal ldt = false ∧ (s.descAddr ldt = some al ∧ s.tableOk .read al 8 = true ∧
        s.tableVal 64 al = dl) ∧ dIsSystem dl = true ∧ dType dl = 2 ∧ dPresent dl = true ∧
        l = { sel := ldt, valid := true, base := dBase s.level dl, limit := dLimitWord s.level dl })) &&
    (if s.tssVm f base then decide (eip ≤ 0xFFFF)
      else decide (eip ≤ (dLimit s.level (segs .cs).1).toNat) &&
        ([.es, .cs, .ss, .ds, .fs, .gs] : List SReg).all fun g =>
          (selNull (s.tssSel f base g) || decide ((segs g).2 ∈ as)) &&
          segFits { s with ldtr := l } g (selRpl (s.tssSel f base .cs)) (s.tssSel f base g) (segs g).1 (segs g).2)

theorem taskFits_of {s : State} {kind : SwitchKind} {sel : Word} {d : Descriptor} {a : Nat} {l : LdtReg} {dl : Descriptor}
    {al : Nat} {segs : SReg → Descriptor × Nat} {as : List Nat} (h : taskFit s kind sel d a l dl al segs as = true) :
    s.taskFits kind sel d l segs as := by
  simp only [taskFit, Bool.and_eq_true, decide_eq_true_eq] at h
  obtain ⟨⟨⟨h1, h2, h3, h4, h5, h6, h7, h8, h9⟩, hl⟩, hs⟩ := h
  refine ⟨h1, h2, ⟨a, h3⟩, h4, h5, fun h => h6 (of_decide_eq_true h), h7, ?_, ?_, ?_, ?_⟩
  · simpa using h8
  · simpa using h9
  · unfold State.taskLdt
    split at hl
    · rw [if_pos ‹_›]
      exact of_decide_eq_true hl
    · rw [if_neg ‹_›]
      obtain ⟨x, y, z⟩ := of_decide_eq_true hl
      exact ⟨dl, al, x, y, z⟩
  · split at hs
    · rw [if_pos ‹_›]
      exact of_decide_eq_true hs
    · rw [if_neg ‹_›]
      simp only [Bool.and_eq_true, List.all_eq_true, decide_eq_true_eq, Bool.or_eq_true] at hs
      refine ⟨hs.1, fun g => ?_⟩
      obtain ⟨x, y⟩ := hs.2 g (by cases g <;> simp)
      exact ⟨fun n => x.resolve_left (by simp [n]), taskSeg_of y⟩

/-- spec/20_memory.md R110 (a): a back link stored just where the old code segment would go on leaves no old byte to fetch. -/
theorem test_task_switch_queue : nextWith (fun t => t.stale == [] && t.tr.sel == 0x38)
    (exec (.callPtr16v 0 0x38) (withMem 0xB020 [0, 0x10, 0, 0] (tasks true 0x89 prot0))) = true := by
  decide +kernel

/-- spec/92_eei_decisions.md D7: in real mode the 80286 drives 20 lines for the vector table too, bytes across 1 MB included. -/
theorem test_vector_wrap :
    nextWith (fun t => t.cs.sel == 0x1234 && nip t == 0x5678)
      (exec .int3 (withMem 0 [0x56, 0x34, 0x12] (withMem 0xFFFFF [0x78]
        { base .i80286 with idtr := { base := 0x2FFFF3, limit := 0x3FF } }))) = true := by
  decide +kernel

/-- Far JMP and CALL to the TSS 38h, to the same through the task gate 50h, INT 22h through a task gate, an exception with an
error word: from TSSs of both formats. -/
theorem witness_LevelChangesAndTaskSwitches_tasks :
    let gate : Descriptor := leValue 64 (gateBytes 0 0x38 0 0xE5)
    ∀ s, s = tables 0x89 prot0 ∨ s = tasks false 0x81 prot0 →
      (s.farForm (.jmpPtr16v 0 0x38) false 0x38 0 ∧ s.farForm (.callPtr16v 0 0x50) true 0x50 0 ∧ s.finds 0x50 gate 0x8050 ∧
        s.raises (exec (.intImm8 0x22) s) true 0x22 none s.nextIp s.flags.rf s ∧
        s.raises (s.deliverExn s.nextIp (Exn.fault 0x22 (some 8))) false 0x22 (some 8)
          (if s.level = 0 then s.nextIp else s.eip) true (s.noted (Exn.fault 0x22 (some 8)))) ∧
      s.idtGives 0x22 gate ∧ s.real = false ∧ s.prot = true ∧ s.level ≠ 0 ∧ s.lockOk false = true ∧ dIsSystem gate = true ∧
        dType gate = 5 ∧ dPresent gate = true ∧ gateSel gate = 0x38 ∧ max s.cpl (selRpl 0x50) ≤ dDpl gate := by
  rintro gate s (rfl | rfl)
  all_goals
    refine ⟨⟨.inl ⟨rfl, rfl⟩, .inr (.inl ⟨rfl, rfl⟩), finds_of (by decide +kernel), raises_int (by decide +kernel),
      raises_fault _ _ _⟩, ?_⟩
    unfold State.idtGives
    decide +kernel

/-- A V86 task without an LDT. -/
theorem witness_LevelChangesAndTaskSwitches_v86Task (kind : SwitchKind) (hk : kind ≠ .iret) :
    (tables 0x89 prot0).taskFits kind 0x38 (tssIs 0x89) { sel := 0, valid := false, base := 0, limit := 0 }
      (fun _ => (0, 0)) [] ∧ (tables 0x89 prot0).switchRoom kind 0x38 (tssIs 0x89) [] := by
  refine ⟨taskFits_of (a := 0x8038) (dl := 0) (al := 0) ?_, switchRoom_of (by decide +kernel)⟩
  cases kind <;> first | exact absurd rfl hk | decide +kernel

/-- A task in protected mode with an LDT, switched to and back, between TSSs of both formats; its stack has room for an error
word. -/
theorem witness_LevelChangesAndTaskSwitches_ldtTask (kind : SwitchKind) (old : Bool) :
    let ldt : LdtReg := { sel := 0x58, valid := true, base := 0xC000, limit := 0x1F }
    let as := [0x8058, 0x8010, 0x8020, 0xC008, 0x8048]
    ∀ new, (new = if kind = .iret then 0x83 else 0x81) ∨ (new = if kind = .iret then 0x8B else 0x89) →
      let s : State := tasks old new { prot0 with flags := { prot0.flags with nt := true } }
      s.taskFits kind 0x38 (tssIs new) ldt taskSegs as ∧ s.switchRoom kind 0x38 (tssIs new) as ∧ s.prot = true ∧
        s.level ≠ 0 ∧ s.flags.nt = true ∧ s.tableOk .read s.tr.base.toNat 2 = true ∧ s.tableVal 16 s.tr.base.toNat = 0x38 := by
  rintro ldt as new (rfl | rfl)
  all_goals
    refine ⟨taskFits_of (a := 0x8038) (dl := leValue 64 (descBytes 0x1F 0xC000 0x82 0)) (al := 0x8058) ?_,
      switchRoom_of ?_, ?_⟩ <;> cases old <;> cases kind <;> decide +kernel

/-- The 80386 with an I/O permission map at TSS offset 68h that allows port 0 and refuses port 1. -/
def mapped386 (s : State) : State := withMem 0xA066 [0x68, 0, 0xFE] s

/-- Port 0 and port FFFFh; in protected mode with CPL equal to IOPL; in V86 mode by the map, which refuses port 1; above IOPL on
the 80286; INS and OUTS with no prefix and with counters 1, 2 and 0; a waiting byte and none. -/
theorem witness_PortTransfers :
    (∀ s ∈ [real486, withReg .edx 0xFFFF real32, withIopl 3 prot3, prot0], s.lockOk false = true ∧
      ∀ p ∈ [0, 0xFFFF], ∀ n ∈ [1, 2], s.ioAllowed p n) ∧
    (mapped386 (virtual86 0)).ioAllowed 0 1 ∧ (mapped386 (virtual86 0)).ioRefused 1 1 ∧
    (mapped386 (virtual86 0)).ioRefused 0 2 ∧ (protectedAt .i80286 3).ioRefused 0 1 ∧
    (∀ s ∈ [real486, repeated (withReg .ecx 1 real486), repeated (withReg .ecx 2 real486)], s.takesElement ∧
      ∀ n ∈ [1, 2], s.reaches (s.cur.seg.getD .ds) .read (s.pointer .esi) n n = true ∧
        s.reaches .es .write (s.pointer .edi) n n = true) ∧
    ¬(repeated real486).takesElement ∧
    takePort (withPorts [(0x60, 0x1C)] real486).portIn 0x60 = some (0x1C, []) ∧ takePort real486.portIn 0x60 = none := by
  unfold State.ioAllowed State.ioRefused State.ioMapReadable State.takesElement
  and_intros <;> decide +kernel

/-- Interrupts 0, 3 and 255 on the 8086 and the 80486, an external one and an exception; a table with no entry 255; no overflow. -/
theorem witness_RealInterrupts :
    (∀ s, s = real486 ∨ s = real86 → ∀ n : Byte, n ∈ [0, 3, 255] →
      (s.raises (exec (.intImm8 n) s) true n none s.nextIp s.flags.rf s ∧
        s.raises (s.takeExternal n) false n none s.resumeIp s.flags.rf s ∧
        s.raises (s.deliverExn s.nextIp (Exn.fault n none)) false n none (if s.level = 0 then s.nextIp else s.eip) true
          (s.noted (Exn.fault n none))) ∧
      let entry := (if s.level = 0 then 0 else s.idtr.base.toNat) + n.toNat * 4
      (∀ k, k < 2 → s.offStack 16 3 (s.tablePlace entry k) ∧ s.offStack 16 3 (s.tablePlace (entry + 2) k)) ∧
        s.roomFor 16 3 ∧ s.real = true ∧ (s.level = 0 ∨ n.toNat * 4 + 3 ≤ s.idtr.limit.toNat) ∧
        s.tableOk .read entry 2 = true ∧ s.tableOk .read (entry + 2) 2 = true) ∧
    (let s : State := { real486 with idtr := { base := 0, limit := 0x3FB } };
      ¬(s.level = 0 ∨ (255 : Byte).toNat * 4 + 3 ≤ s.idtr.limit.toNat) ∧
        (s.level = 0 ∨ (8 : Byte).toNat * 4 + 3 ≤ s.idtr.limit.toNat)) ∧
    real486.lockOk false = true ∧ real486.flags.ovf = false := by
  refine ⟨?_, by decide +kernel⟩
  rintro s (rfl | rfl) n hn
  all_goals
    refine ⟨⟨raises_int (by decide +kernel), raises_ext _ _, raises_fault _ _ _⟩, fun k hk => ⟨?_, ?_⟩, roomFor_of ?_, ?_⟩
    · exact offStack_of (by revert n k; decide +kernel)
    · exact offStack_of (by revert n k; decide +kernel)
    · decide +kernel
    · revert n
      decide +kernel

/-- To a code segment of the same level, reachable and not, present and not; a target at the limit and one past it; a CALL with
room for its items; a call gate, a task gate and a TSS, open and not; returns through a stack that holds the selector. -/
theorem witness_ProtectedTransfers :
    (prot0.lockOk false = true ∧ prot0.prot = true ∧ prot0.cpl = 0 ∧ prot0.opWidth = 16 ∧ prot0.level ≠ 0) ∧
    (selNull 0 = true ∧ prot0.descAddr 0x100 = none ∧ selNull 0x100 = false) ∧
    (dIsCode (descIs 0x9A) = true ∧ dConforming (descIs 0x9A) = false ∧ dDpl (descIs 0x9A) = 0 ∧ selRpl 0x10 = 0 ∧
      dPresent (descIs 0x9A) = true ∧ dLimit 4 (descIs 0x9A) = 0x1FFF ∧
      (targetOf prot0.op32 0x1FFF).toNat ≤ 0x1FFF ∧ 0x1FFF < (targetOf prot0.op32 0x2000).toNat) ∧
    (prot3.cpl = 3 ∧ dDpl (descIs 0x9A) ≠ 3) ∧
    (dIsCode (descIs 0x1A) = true ∧ dPresent (descIs 0x1A) = false) ∧
    (dIsCode (descIs 0x92) = false ∧ dIsSystem (descIs 0x92) = false ∧ dType (descIs 0x82) = 2 ∧
      dType (descIs 0x8C) = 12 ∧ dType (descIs 0x85) = 5 ∧ dType (descIs 0x89) = 9 ∧ dType (descIs 0x8B) = 11 ∧
      dIsSystem (descIs 0x8C) = true ∧ dDpl (descIs 0x8C) < max prot3.cpl (selRpl 0x10) ∧
      max prot0.cpl (selRpl 0x10) ≤ dDpl (descIs 0x8C)) := by
  decide +kernel

theorem witness_ProtectedTransfers_forms :
    (prot0.farForm (.jmpPtr16v 0x1FFF 0x10) false 0x10 0x1FFF ∧ prot0.farForm (.callPtr16v 0x1FFF 0x10) true 0x10 0x1FFF ∧
      (withMem 0x10200 [0xFF, 0x1F, 0x10, 0] prot0).farForm (.jmpM16v memOp) false 0x10 0x1FFF) ∧
    (withDesc 0x9A 0 prot0).roomApart 16 2 [0x8010] ∧
    (let s := withMem 0x10100 [0x34, 0x12, 0x10, 0, 2, 0] (withDesc 0x9A 0 prot0);
      (s.names 0x10 (descIs 0x9A) 0x8010 ∧ s.returnForm (.retfImm16 4) 4 ∧ s.returnForm .iret 0) ∧
        ((s.top 16).setWidth 32 : Dword) = 0x1234 ∧ (s.memVal 16 .ss (s.up 16 1)).setWidth 16 = (0x10 : Word)) ∧
    (let s := gdtEntry 6 (gateBytes 0x1234 0x10 0 0x8C) (withDesc 0x9A 0 prot0);
      s.roomApart 32 2 [0x8010] ∧ s.finds 0x30 (leValue 64 (gateBytes 0x1234 0x10 0 0x8C)) 0x8030 ∧
        s.names 0x10 (descIs 0x9A) 0x8010 ∧ (gateOffset (leValue 64 (gateBytes 0x1234 0x10 0 0x8C))).toNat ≤ 0x1FFF) :=
  ⟨⟨.inl ⟨rfl, rfl⟩, .inr (.inl ⟨rfl, rfl⟩), .inr (.inr ⟨memOp, .inl ⟨rfl, rfl⟩, by decide +kernel⟩)⟩,
    roomApart_of (by decide +kernel) (by decide +kernel),
    ⟨⟨names_of (by decide +kernel), .inl ⟨.inr rfl, holds_of (by decide +kernel)⟩,
      .inr ⟨rfl, rfl, holds_of (by decide +kernel), by decide +kernel⟩⟩, by decide +kernel⟩,
    roomApart_of (by decide +kernel) (by decide +kernel), finds_of (by decide +kernel), names_of (by decide +kernel),
    by decide +kernel⟩

/-- Gates of the 80386 and the 80286 that can be used at level 0; one of another kind, one not present; from level 3 one of level
0; INT n, an external interrupt and an exception with an error word; an IDT that ends before the entry. -/
theorem witness_GateEntry :
    (∀ s, s = withGate 0x8E prot0 ∨ s = withGate 0x86 prot0 →
      s.raises (exec (.intImm8 0x21) s) true 0x21 none s.nextIp s.flags.rf s ∧
      s.raises (s.takeExternal 0x21) false 0x21 none s.resumeIp s.flags.rf s ∧
      s.raises (s.deliverExn s.nextIp (Exn.fault 0x21 (some 8))) false 0x21 (some 8)
        (if s.level = 0 then s.nextIp else s.eip) true (s.noted (Exn.fault 0x21 (some 8)))) ∧
    (∀ w ∈ [16, 32], ∀ k ∈ [3, 4], (withGate 0x8E prot0).roomApart w k [0x8010]) ∧
    (∀ n ∈ [0x8E, 0x86, 0xEE, 0x92, 0x0E], let acc : Byte := BitVec.ofNat 8 n
      ∀ s ∈ [withGate acc prot0, withGate acc prot3], s.idtGives 0x21 (gateIs acc)) ∧
    ((withGate 0x8E prot0).entryGate true (gateIs 0x8E) ∧ (withGate 0x86 prot0).entryGate true (gateIs 0x86) ∧
      dIsSystem (gateIs 0x92) = false ∧ dPresent (gateIs 0x0E) = false ∧ dType (gateIs 0x0E) = 14 ∧
      dDpl (gateIs 0x8E) < prot3.cpl ∧ prot0.prot = true ∧ 2 ≤ prot0.level) ∧
    (∀ n ∈ [0x8E, 0x86], let acc : Byte := BitVec.ofNat 8 n
      let s := withGate acc prot0
      selNull (gateSel (gateIs acc)) = false ∧ s.names (gateSel (gateIs acc)) (descIs 0x9A) 0x8010 ∧
        dIsCode (descIs 0x9A) = true ∧ dPresent (descIs 0x9A) = true ∧ dDpl (descIs 0x9A) = s.cpl ∧
        (gateOffset (gateIs acc)).toNat ≤ (dLimit s.level (descIs 0x9A)).toNat) ∧
    (let s : State := { prot0 with idtr := { base := 0x9000, limit := 0x10E } };
      s.idtr.limit.toNat < (0x21 : Byte).toNat * 8 + 7) := by
  refine ⟨?_, fun w hw k hk => roomApart_of ?_ ?_, ?_⟩
  · rintro s (rfl | rfl) <;> exact ⟨raises_int (by decide +kernel), raises_ext _ _, raises_fault _ _ _⟩
  · revert w k
    decide +kernel
  · revert w k
    decide +kernel
  · unfold State.idtGives State.entryGate State.names State.finds
    decide +kernel

/-- With a unit (80486) and without (80386, 8086); TS set, MP and TS set, an error pending, the unit busy; an operand that runs
past its segment on the 80386. -/
theorem witness_NumericInstructions :
    (∀ s ∈ [prot0, protectedAt .i80386 0, real86], s.lockOk false = true ∧ s.cr0.em = false ∧ s.cr0.ts = false ∧
      s.fpuErrorPending = false ∧ s.fpuBusy = false ∧
      s.reaches (s.memSeg memOp) .write (s.memOff memOp) 2 2 = true ∧
      s.reaches (s.memSeg memOp) .read (s.memOff memOp) 2 2 = true ∧
      ∀ k ∈ [AccessKind.read, .write, .update], s.reaches (s.memSeg memOp) k (s.memOff memOp) 10 (fpuBoundary 10) = true) ∧
    prot0.cfg.hasFpu = true ∧ (protectedAt .i80386 0).cfg.hasFpu = false ∧ real86.cfg.hasFpu = false ∧
    (withTs prot0).cr0.ts = true ∧ (withMp (withTs prot0)).cr0.mp = true ∧
    (let s := protectedAt .i80386 0;
      ({ s with pins := { s.pins with error := true } } : State).fpuErrorPending = true ∧
      ({ s with pins := { s.pins with busy := true } } : State).fpuBusy = true) ∧
    (let s := limited 0x93 0x203 (protectedAt .i80386 0);
      let s : State := { s with cfg := { s.cfg with coprocessor := .i80387 } };
      s.level = 3 ∧ s.cfg.hasFpu = true ∧ s.segOk (s.memSeg memOp) .read (s.memOff memOp).toNat (min 10 2) = true ∧
        (s.seg (s.memSeg memOp)).inLimit (s.memOff memOp).toNat 10 = false) := by
  decide +kernel

/-- Shut down with and without NMI, halted, running with each event; an instruction breakpoint; the instructions that record. -/
theorem witness_BoundaryEvents :
    (∀ n ∈ [0xCD, 0xCC, 0xCE], ∃ t, step ({ real486 with flags := { real486.flags with tf := true, ovf := true } }.withCode
      [BitVec.ofNat 8 n, 0x21]) = .next t) ∧
    (∀ s ∈ [real486, prot3], s.pins.reset = false ∧ s.pins.flush = false ∧ s.cur.len = 0 ∧ s.run = .running ∧
      s.shadow = .none ∧ s.nmiPending = false ∧ s.nmiBlocked = false ∧ s.int9Pending = false ∧ s.pins.intr = none ∧
      ¬(s.trap.singleStep = true ∨ s.trap.taskSwitch = true ∨ s.trap.enabled ≠ 0) ∧ s.level ≠ 0 ∧
      s.insteadOfInstr.isNone = true ∧ s.repeating = none) ∧
    (withIntr 8 (withIf real486)).pins.intr = some 8 ∧ (withIntr 8 (withIf real486)).flags.intf = true ∧
    (let s : State := { real486 with dr0 := 0x10100, dr7 := 1 };
      s.flags.rf = false ∧ s.insteadOfInstr.isNone = true ∧ s.instrHits s.eip true ≠ 0) ∧
    (∀ rf ∈ [true, false], let s : State := { real486 with flags := { real486.flags with rf := rf, tf := true } }
      s.lockOk false = true ∧ s.trap = .clear ∧ s.flags.rf = rf ∧ s.prot = false ∧
        s.readyv .read s.opWidth (.mem memOp) = true ∧ s.readyv .write s.opWidth (.mem memOp) = true) := by
  have h : ∀ n ∈ [0xCD, 0xCC, 0xCE], nextWith (fun _ => true)
      (step ({ real486 with flags := { real486.flags with tf := true, ovf := true } }.withCode
        [BitVec.ofNat 8 n, 0x21])) = true := by decide +kernel
  exact ⟨fun n hn => next_of (h n hn), by decide +kernel⟩

/-- The 80386 with paging on: a directory at 10000h, a table at 20000h for the page of address 403ABCh. -/
def paged (pde pte : Byte) (cpl : Nat) : State :=
  let s := protectedAt .i80386 cpl
  withMem 0x10004 [pde, 0, 2, 0] (withMem 0x2000C [pte, 0, 0x30, 0]
    { s with cr0 := { s.cr0 with pg := true }, cr3 := 0x10000 })

/-- Both entries present and open to the user; one not present; a page of the supervisor; a read-only one. -/
theorem witness_PageTranslation :
    let lin := 0x403ABC
    ∀ n ∈ [0x07, 0x06, 0x03, 0x05],
      let e : Byte := BitVec.ofNat 8 n
      let s := paged 0x07 e 3
      s.cacheOn = false ∧ lin < 2 ^ 32 ∧ (∀ write ∈ [true, false], ∀ user ∈ [true, false], s.tlb[tlbSetOf lin].find s.wpOn lin write user = none) ∧
        s.cr3.toNat / 4096 * 4096 + lin / 2 ^ 22 * 4 = 0x10004 ∧
        leValue 32 ((List.range 4).map fun i => Memory.read s.mem (s.physical (0x10004 + i))) = (0x20007 : Dword) ∧
        0x20007 / 4096 * 4096 + lin / 4096 % 1024 * 4 = 0x2000C ∧
        leValue 32 ((List.range 4).map fun i => Memory.read s.mem (s.physical (0x2000C + i))) =
          (0x300000 + e.setWidth 32 : Dword) ∧
        (∀ i, i < 4 → s.cfg.regionKind (s.physical (0x10004 + i)) = .ram ∧
          s.cfg.regionKind (s.physical (0x2000C + i)) = .ram) ∧
        s.physical 0x10004 ≠ s.physical 0x2000C := by
  decide +kernel

/-- An entry the walk of a write has made answers a read of its page. -/
theorem witness_PageTranslation_tlb :
    (match translatePage 0x403ABC true true (paged 0x07 0x07 3) with
      | .ok (_, s) =>
        decide (∃ k : Fin 4, s.tlb[tlbSetOf 0x403000].ways[k].valid = true ∧
            s.tlb[tlbSetOf 0x403000].ways[k].tag = BitVec.ofNat 17 (0x403000 / 2 ^ 15) ∧
            s.tlb[tlbSetOf 0x403000].ways[k].dirty = true ∧ s.tlb[tlbSetOf 0x403000].ways[k].user = true ∧
            s.tlb[tlbSetOf 0x403000].ways[k].write = true ∧
            s.entryFresh 0x403000 s.tlb[tlbSetOf 0x403000].ways[k] = true ∧
            ∀ q : Fin 4, q ≠ k → s.tlb[tlbSetOf 0x403000].ways[q].valid = false)
      | .error _ => false) = true := by
  decide +kernel

/-- The line at 10200h is held, that at 10210h is not, and is filled where CD, KEN and PCD allow it. -/
theorem witness_PageTranslation_cache :
    (∀ s ∈ [cached false false, cached true true], s.cacheOn = true ∧ s.memoryOk = true ∧ s.caches 0x1020F 1 ∧
      (∀ j : Fin 4, j ≠ 1 → ¬s.caches 0x1020F j) ∧ (∀ k, ¬s.caches 0x10210 k) ∧ s.cfg.regionKind 0x1020F = .ram ∧
      ∀ i, i < 16 → s.cfg.regionKind (0x10210 + i) = .ram) ∧
    (cached false false).cr0.cd = false ∧ (cached false false).pins.ken = true ∧ (cached true true).cr0.cd = true := by
  unfold State.caches
  decide +kernel

/-- RESET while the machine runs and while it is shut down. -/
theorem witness_ResetValues : ∀ run ∈ [RunState.running, .shutdown],
    let s : State := { withMem 0x10000 [1] prot3 with pins := { prot3.pins with reset := true }, run := run }
    s.pins.reset = true ∧ s.run = run ∧ s.mem ≠ [] := by
  decide +kernel

/-- A step of the machine after reset, of a NOP at level 0 and at level 3. -/
theorem witness_StepKeepsInvariant : ∀ s ∈ [State.reset, real486.withCode [0x90], prot3.withCode [0x90]],
    s.inv = true ∧ ∃ t, step s = .next t := by
  intro s hs
  have h : ∀ s ∈ [State.reset, real486.withCode [0x90], prot3.withCode [0x90]],
      s.inv = true ∧ nextWith (fun _ => true) (step s) = true := by decide +kernel
  exact ⟨(h s hs).1, next_of (h s hs).2⟩

theorem witness_UserModeLimits : ∀ s ∈ [prot3.withCode [0x90], (withDesc 0x92 0x10 prot3).withCode [0x8E, 0xDB]],
    s.cpl ≠ 0 ∧ s.pins.reset = false ∧ ∃ t, step s = .next t := by
  intro s hs
  have h : ∀ s ∈ [prot3.withCode [0x90], (withDesc 0x92 0x10 prot3).withCode [0x8E, 0xDB]],
      s.cpl ≠ 0 ∧ s.pins.reset = false ∧ nextWith (fun _ => true) (step s) = true := by decide +kernel
  exact ⟨(h s hs).1, (h s hs).2.1, next_of (h s hs).2.2⟩

/-- A MOV at CS:IP, the code segment's bytes in memory. -/
theorem witness_StepRunsDecoded :
    let s := real486.withCode [0xB8, 0x34, 0x12]
    (∀ k, k < 3 → s.fetchable k ∧
      ([0xB8, 0x34, 0x12] : List Byte)[k]? = some (Memory.read s.mem (s.placeAt .cs
        ({ s with cur := { s.cur with len := s.cur.len + k } } : State).nextIp 0))) ∧
    decode s.decodeCtx [0xB8, 0x34, 0x12] = .ok (.movRvImmv .eax 0x1234) [] ∧ s.insteadOfInstr.isNone = true ∧
      s.repeating = none ∧ s.flat = true ∧ s.cr0.pg = false ∧ s.stale = [] ∧ s.dr7 &&& 0xFF = 0 ∧
      s.cfg.maxLength = some 15 ∧ s.cur.len + 3 ≤ 15 := by
  refine ⟨?_, by decide +kernel⟩
  unfold State.fetchable
  decide +kernel

/-- Terms of every shape that have an encoding, with 16- and 32-bit sizes. -/
theorem witness_DecodeUndoesEncode :
    (∀ i ∈ [Instr.addRmvRv (.mem memOp) .edi, .movRvImmv .eax 0xFFFF, .jmpPtr16v 0xFFFF 0xFFFF, .aam 10, .prefixFs],
      i.wf ctx16 = true) ∧
    ∀ i ∈ [Instr.movRvImmv .eax 0xFFFFFFFF, load (.sib 3 .esp .ebp (.d8 0x80)), .esc 7 7 (.reg 7)],
      i.wf ctx32 = true := by
  decide +kernel

end

end Sys2Proof.Tests
end

section
/-! PROOFS. Properties of states that the shared operations of the model keep, and what it is for a computation to keep
one. -/
-- One declaration after the other: many proofs at once take more thread stacks than the memory limit allows.
set_option Elab.async false
namespace Sys2Proof.Machine

/-! ### Lasting properties -/

/-- What a lasting property may speak of: the parameters, memory, VM, CR0, those system registers that no shared
operation loads, and the single step recorded. -/
def State.watched (s : State) :=
  (s.cfg, s.mem, s.flags.vm, s.cr0, (s.gdtr, s.idtr), (s.dr0, s.dr1, s.dr2, s.dr3), (s.dr6, s.dr7), (s.tr6, s.tr7),
    s.trap.singleStep)

/-- A property of states that lasts through everything but the loads of system registers: it speaks of the watched parts
only, and the changes the shared operations make to those keep it. -/
structure Lasting where
  holds : State → Prop
  same : ∀ {s t : State}, t.watched = s.watched → holds s → holds t
  store : ∀ {s : State} (a : Nat) (v : Byte), holds s → holds { s with mem := Memory.write s.mem a v }
  /-- Delivery of an interrupt leaves V86 mode. -/
  vmOff : ∀ {s : State}, holds s → holds { s with flags := { s.flags with vm := false } }
  /-- Flags computed from those of an earlier state. -/
  vmOf : ∀ {s t : State}, holds s → holds t → holds { t with flags := { t.flags with vm := s.flags.vm } }
  /-- IRET and task switches load VM, in protected mode only. -/
  vmAny : ∀ {s t : State} (vm : Bool), holds s → s.cr0.pe = true → holds t →
    holds { t with flags := { t.flags with vm := vm } }
  ts : ∀ {s : State} (b : Bool), holds s → holds { s with cr0 := { s.cr0 with ts := b } }
  dr6 : ∀ {s : State} (d : Dword), d &&& ~~~dr6Mask = 0 → holds s → holds { s with dr6 := s.dr6 ||| d }
  dr7 : ∀ {s : State} (d : Dword), holds s → holds { s with dr7 := s.dr7 &&& d }
  /-- What an interrupt records is dropped for what was recorded before it. -/
  stepOf : ∀ {s t : State}, holds s → holds t →
    holds { t with trap := { t.trap with singleStep := s.trap.singleStep } }

/-- A lasting property that does not speak of the single step recorded, which only the end of an instruction sets. -/
def Lasting.AnyStep (P : Lasting) : Prop :=
  ∀ (s : State) (b : Bool), P.holds s → P.holds { s with trap := { s.trap with singleStep := b } }

variable {α β : Type} {P : Lasting} {s t u : State}

/-- A change of other parts of the state. -/
theorem Lasting.keep (hs : P.holds s) (h : t.watched = s.watched := by rfl) : P.holds t := P.same h hs

/-- New flags with VM clear. -/
theorem Lasting.noVm (hs : P.holds s) (hv : t.flags.vm = false)
    (h : t.watched = ({ s with flags := t.flags } : State).watched := by rfl) : P.holds t := by
  refine P.same ?_ (P.vmOff hs)
  rw [h]; unfold State.watched; rw [hv]

/-- New flags with the VM of some state that has the property. -/
theorem Lasting.sameVm (hu : P.holds u) (hs : P.holds s) (hv : t.flags.vm = u.flags.vm)
    (h : t.watched = ({ s with flags := t.flags } : State).watched := by rfl) : P.holds t := by
  refine P.same ?_ (P.vmOf hu hs)
  rw [h]; unfold State.watched; rw [hv]

/-- New flags with any VM, where the property goes with protected mode. -/
theorem Lasting.anyVm (hu : P.holds u) (hp : u.cr0.pe = true) (hs : P.holds s)
    (h : t.watched = ({ s with flags := t.flags } : State).watched := by rfl) : P.holds t :=
  P.same (s := { s with flags := { s.flags with vm := t.flags.vm } }) h (P.vmAny t.flags.vm hu hp hs)

/-! ### Computations that keep a property -/

/-- An exception whose delivery keeps the property: it sets bits of DR6 that exist, and the task it was raised in, if a
switch had been made, has the property. -/
def Exn.Fits (P : Lasting) (e : Exn) : Prop := e.dr6 &&& ~~~dr6Mask = 0 ∧ ∀ t, e.newTask = some t → P.holds t

/-- A computation that started with a lasting property ended: completed with `Q`, or in an exception that fits. -/
def Ends (P : Lasting) (Q : State → Prop) (r : Except Abort (α × State)) : Prop :=
  match r with
  | .ok (_, t) => Q t
  | .error (.exn e) => e.Fits P
  | .error .shutdown => True
  | .error (.stop _) => True

/-- From every state with the property the computation ends with it. -/
def Keeps (P : Lasting) (m : M α) : Prop := ∀ s, P.holds s → Ends P P.holds (m s)

theorem Ends.error {Q R : State → Prop} {stop : Abort} (h : Ends P Q (.error stop : Except Abort (α × State))) :
    Ends P R (.error stop : Except Abort (β × State)) := by cases stop <;> exact h

protected theorem Ends.bind {Q R : State → Prop} {m : M α} {f : α → M β} (hm : Ends P Q (m s))
    (hf : ∀ a t, Q t → Ends P R (f a t)) : Ends P R ((m >>= f) s) := by
  rcases bind_cases m f s with ⟨stop, early, whole⟩ | ⟨done, ok, whole⟩
  · rw [early] at hm
    rw [whole]
    exact hm.error
  · rw [ok] at hm
    rw [whole]
    exact hf _ _ hm

protected theorem Keeps.pure {a : α} : Keeps P (pure a) := fun _ hs => hs

protected theorem Keeps.bind {m : M α} {f : α → M β} (hm : Keeps P m) (hf : ∀ a, Keeps P (f a)) : Keeps P (m >>= f) :=
  fun s hs => Ends.bind (hm s hs) fun a t ht => hf a t ht

protected theorem Keeps.map {m : M α} {f : α → β} (hm : Keeps P m) : Keeps P (f <$> m) := by
  intro s hs
  rw [map_apply]
  exact (hm.bind fun _ => .pure) s hs

protected theorem Keeps.get {f : State → M β} (hf : ∀ s, P.holds s → Keeps P (f s)) : Keeps P (get >>= f) :=
  fun s hs => hf s hs s hs

protected theorem Keeps.set (hs : P.holds s) : Keeps P (set s : M PUnit) := fun _ _ => hs

protected theorem Keeps.modify {f : State → State} (hf : ∀ s, P.holds s → P.holds (f s)) :
    Keeps P (modify f : M PUnit) := hf

protected theorem Keeps.ite {c : Prop} [Decidable c] {m n : M α} (hm : c → Keeps P m) (hn : ¬c → Keeps P n) :
    Keeps P (if c then m else n) := by
  split
  · exact hm ‹c›
  · exact hn ‹¬c›

/-- What follows an optional part. -/
protected theorem Keeps.optional {c : Prop} [Decidable c] {m : M Unit} {rest : Unit → M β}
    (hm : c → Keeps P m) (hr : ∀ a, Keeps P (rest a)) : Keeps P (if c then m >>= rest else rest ()) :=
  .ite (fun h => .bind (hm h) hr) fun _ => hr ()

/-- What follows several ways to go on. -/
protected theorem Keeps.join {m : M β} {rest : α → M β} (hm : (∀ a, Keeps P (rest a)) → Keeps P m)
    (hr : ∀ a, Keeps P (rest a)) : Keeps P m := hm hr

protected theorem Keeps.raise {e : Exn} (he : e.Fits P) : Keeps P (raise e : M α) := fun _ _ => he

protected theorem Keeps.check {ok : Bool} {e : M Unit} (he : Keeps P e) : Keeps P (check ok e) :=
  .ite (fun _ => .pure) fun _ => he

protected theorem Keeps.sized {k : (w : Nat) → M α} (hk : ∀ w, Keeps P (k w)) : Keeps P (sized k) :=
  fun s hs => hk _ s hs

/-- An exception that records no debug cause and was raised in the task that runs. -/
theorem plain_fits {e : Exn} (hd : e.dr6 = 0) (ht : e.newTask = none) : e.Fits P :=
  ⟨by simp [hd], by simp [ht]⟩

theorem fault_fits {vec : Byte} {err : Option Word} : (Exn.fault vec err).Fits P := plain_fits rfl rfl

theorem gp0_keeps : Keeps P (gp0 : M α) := .raise fault_fits
theorem gpSel_keeps {sel : Word} : Keeps P (gpSel sel : M α) := .raise fault_fits
theorem faultSel_keeps {vec : Byte} {sel : Word} : Keeps P (faultSel vec sel : M α) := .raise fault_fits

theorem undefinedOpcode_keeps : Keeps P (undefinedOpcode : M α) := by
  intro s hs
  unfold undefinedOpcode
  split
  · trivial
  · exact plain_fits rfl rfl

theorem limitFault_keeps {r : SReg} : Keeps P (limitFault r : M α) := by
  intro s hs
  unfold limitFault
  split <;> exact plain_fits rfl rfl

theorem freeBits_keeps {w : Nat} : Keeps P (freeBits w) := fun _ hs => P.keep hs
theorem freeBool_keeps : Keeps P freeBool := freeBits_keeps.bind fun _ => .pure
theorem freeBelow_keeps {n : Nat} : Keeps P (freeBelow n) := freeBits_keeps.bind fun _ => .pure
theorem getReg_keeps {w : Nat} {r : Reg} : Keeps P (getReg w r) := .get fun _ _ => .pure
theorem getReg8_keeps {r : Reg8} : Keeps P (getReg8 r) := .get fun _ _ => .pure
theorem putReg_keeps {w : Nat} {r : Reg} {v : BitVec w} : Keeps P (putReg r v) := .modify fun _ hs => P.keep hs
theorem putReg8_keeps {r : Reg8} {v : Byte} : Keeps P (putReg8 r v) := .modify fun _ hs => P.keep hs

theorem readMemory_keeps {a : Nat} : Keeps P (readMemory a) := .get fun s _ => by
  cases s.cfg.regionKind a with
  | absent => exact freeBits_keeps
  | ram => exact .pure
  | rom => exact .pure

theorem writeMemory_keeps {a : Nat} {v : Byte} : Keeps P (writeMemory a v) := .modify fun s hs => by
  cases s.cfg.regionKind a with
  | absent => exact hs
  | ram => exact P.same (by simp [State.watched]) (P.store a v hs)
  | rom => exact hs

theorem readBlock_keeps {n a : Nat} : Keeps P (readBlock n a) := by
  induction n generalizing a with
  | zero => exact .pure
  | succ n ih => exact readMemory_keeps.bind fun _ => ih.bind fun _ => .pure

theorem readPhys_keeps {pcd : Bool} {a : Nat} : Keeps P (readPhys pcd a) := .get fun s hs => .ite
  (fun _ => readMemory_keeps) fun _ => by
    dsimp only
    split
    · exact .bind (.set (P.keep hs)) fun _ => .pure
    · exact .ite (fun _ => readBlock_keeps.bind fun _ => .bind (.modify fun _ hs => P.keep hs) fun _ => .pure)
        fun _ => readMemory_keeps

theorem writePhys_keeps {a : Nat} {v : Byte} : Keeps P (writePhys a v) := .bind writeMemory_keeps fun _ =>
  .modify fun s hs => by
    split
    · dsimp only
      split
      · exact P.keep hs
      · exact hs
    · exact hs

theorem readPlaces_keeps {ps : List Place} : Keeps P (readPlaces ps) := by
  induction ps with
  | nil => exact .pure
  | cons p ps ih => exact .bind readPhys_keeps fun _ => .bind ih fun _ => .pure

theorem writePlaces_keeps {ps : List Place} {bs : List Byte} : Keeps P (writePlaces ps bs) := by
  induction ps generalizing bs with
  | nil => exact .pure
  | cons p ps ih =>
    cases bs with
    | nil => exact .pure
    | cons b bs => exact .bind writePhys_keeps fun _ => ih

theorem portIn8_keeps {p : Nat} : Keeps P (portIn8 p) := .get fun s hs => by
  split
  · exact .bind (.set (P.keep hs)) fun _ => .pure
  · exact .bind (.set (P.keep hs)) fun _ => .pure

theorem portOut8_keeps {p : Nat} {v : Byte} : Keeps P (portOut8 p v) := .modify fun _ hs => P.keep hs

theorem ioRead_keeps {n p : Nat} : Keeps P (ioRead n p) := by
  induction n generalizing p with
  | zero => exact .pure
  | succ n ih => exact .bind portIn8_keeps fun _ => .bind ih fun _ => .pure

theorem ioWrite_keeps {bs : List Byte} {p : Nat} : Keeps P (ioWrite bs p) := by
  induction bs generalizing p with
  | nil => exact .pure
  | cons b bs ih => exact .bind portOut8_keeps fun _ => ih

/-! ### Paging -/

theorem pageFault_keeps {lin : Nat} {present write user : Bool} : Keeps P (pageFault lin present write user : M α) :=
  .raise (plain_fits rfl rfl)

theorem readEntry_keeps {pcd : Bool} {a : Nat} : Keeps P (readEntry pcd a) :=
  .get fun _ _ => .bind readPlaces_keeps fun _ => .pure

theorem markEntry_keeps {a : Nat} {e : PageEntry} {dirty : Bool} : Keeps P (markEntry a e dirty) :=
  .ite (fun _ => .get fun _ _ => writePhys_keeps) fun _ => .pure

theorem setTlb_keeps {f : State → Fin 8} {g : State → TlbSet} : Keeps P (modify fun s => s.setTlb (f s) (g s)) :=
  .modify fun _ hs => P.keep hs

theorem chooseWay_keeps {t : TlbSet} : Keeps P (chooseWay t) := by
  unfold chooseWay
  split
  · exact .pure
  · exact .get fun _ _ => .ite (fun _ => .pure) fun _ => .bind freeBelow_keeps fun _ => .pure

theorem tlbInsert_keeps {lin : Nat} {e : TlbEntry} : Keeps P (tlbInsert lin e) :=
  .get fun _ _ => .bind chooseWay_keeps fun _ => setTlb_keeps

theorem walk_keeps {lin : Nat} {write user : Bool} : Keeps P (walk lin write user) :=
  .get fun _ _ => .bind readEntry_keeps fun _ => .bind (.check pageFault_keeps) fun _ => .bind readEntry_keeps fun _ =>
    .bind (.check pageFault_keeps) fun _ => .bind (.check pageFault_keeps) fun _ => .bind markEntry_keeps fun _ =>
    .bind markEntry_keeps fun _ => .get fun _ _ => .bind tlbInsert_keeps fun _ => .pure

theorem translatePage_keeps {lin : Nat} {write user : Bool} : Keeps P (translatePage lin write user) :=
  .get fun s _ => by
    dsimp only
    split
    · exact walk_keeps
    · refine .ite (fun _ => .bind .pure fun _ => ?_) fun _ => .bind freeBool_keeps fun _ => ?_
      all_goals exact .ite (fun _ => .bind setTlb_keeps fun _ => .pure) fun _ => walk_keeps

theorem translate_keeps {lin n : Nat} {write user : Bool} : Keeps P (translate lin n write user) :=
  .get fun _ _ => .ite (fun _ => .pure) fun _ => .bind translatePage_keeps fun _ =>
    .ite (fun _ => .pure) fun _ => .bind translatePage_keeps fun _ => .pure

theorem sysRead_keeps {lin n : Nat} : Keeps P (sysRead lin n) :=
  .get fun _ _ => .bind translate_keeps fun _ => readPlaces_keeps

theorem sysWrite_keeps {lin : Nat} {bs : List Byte} : Keeps P (sysWrite lin bs) :=
  .get fun _ _ => .bind translate_keeps fun _ => writePlaces_keeps

theorem sysRead16_keeps {lin : Nat} : Keeps P (sysRead16 lin) := .bind sysRead_keeps fun _ => .pure
theorem sysRead32_keeps {lin : Nat} : Keeps P (sysRead32 lin) := .bind sysRead_keeps fun _ => .pure

/-! ### Accesses -/

theorem segCheck_keeps {r : SReg} {k : AccessKind} {off n : Nat} : Keeps P (segCheck r k off n) :=
  .get fun _ _ => .ite (fun _ => .pure) fun _ =>
    .bind (.check gp0_keeps) fun _ => .bind (.check gp0_keeps) fun _ => .check limitFault_keeps

theorem alignCheck_keeps {lin boundary : Nat} : Keeps P (alignCheck lin boundary) :=
  .get fun _ _ => .check (.raise fault_fits)

theorem placesOf_keeps {r : SReg} {k : AccessKind} {off n : Nat} : Keeps P (placesOf r k off n) :=
  .get fun _ _ => .ite (fun _ => .pure) fun _ => translate_keeps

theorem disturbCacheTest_keeps : Keeps P disturbCacheTest :=
  .get fun _ _ => .ite (fun _ => .bind freeBits_keeps fun _ => .bind freeBits_keeps fun _ =>
    .modify fun _ hs => P.keep hs) fun _ => .pure

theorem recordMatches_singleStep (s : State) (lin n : Nat) (k : AccessKind) :
    (s.recordMatches lin n k).trap.singleStep = s.trap.singleStep := by
  unfold State.recordMatches
  split <;> rfl

theorem access_keeps {r : SReg} {k : AccessKind} {off : Dword} {n b : Nat} : Keeps P (access r k off n b) :=
  .bind segCheck_keeps fun _ => .get fun _ _ => .bind alignCheck_keeps fun _ =>
    .bind (.modify fun s hs => P.keep hs (by simp [State.watched, recordMatches_singleStep])) fun _ =>
    .bind disturbCacheTest_keeps fun _ => placesOf_keeps

theorem readBytes_keeps {r : SReg} {off : Dword} {n b : Nat} : Keeps P (readBytes r off n b) :=
  .bind access_keeps fun _ => readPlaces_keeps

theorem writeBytes_keeps {r : SReg} {off : Dword} {bs : List Byte} {b : Nat} : Keeps P (writeBytes r off bs b) :=
  .bind access_keeps fun _ => writePlaces_keeps

theorem readItem_keeps {w b : Nat} {r : SReg} {off : Dword} : Keeps P (readItem w b r off) :=
  .bind readBytes_keeps fun _ => .pure

theorem readMem_keeps {w : Nat} {r : SReg} {off : Dword} : Keeps P (readMem w r off) := readItem_keeps

theorem writeMem_keeps {w : Nat} {r : SReg} {off : Dword} {v : BitVec w} : Keeps P (writeMem r off v) :=
  writeBytes_keeps

/-! ### The stack -/

theorem setSp_keeps {f : State → Dword} : Keeps P (modify fun s => s.setSp (f s)) :=
  .modify fun _ hs => P.keep hs (by simp [State.watched])

theorem pushItem_keeps {w b : Nat} {v : BitVec w} : Keeps P (pushItem b v) :=
  .get fun _ _ => .bind writeBytes_keeps fun _ => setSp_keeps

theorem push_keeps {w : Nat} {v : BitVec w} : Keeps P (push v) := pushItem_keeps

theorem popItem_keeps {w b : Nat} : Keeps P (popItem w b) :=
  .get fun _ _ => .bind readItem_keeps fun _ => .bind setSp_keeps fun _ => .pure

theorem pop_keeps {w : Nat} : Keeps P (pop w) := popItem_keeps
theorem peekItem_keeps {w b dist : Nat} : Keeps P (peekItem w b dist) := .get fun _ _ => readItem_keeps
theorem peekStack_keeps {w dist : Nat} : Keeps P (peekStack w dist) := peekItem_keeps
theorem addSp_keeps {n : Dword} : Keeps P (addSp n) := setSp_keeps

theorem slotOf_keeps {w : Nat} {v : Word} : Keeps P (slotOf w v) :=
  .ite (fun _ => .bind freeBits_keeps fun _ => .pure) fun _ => .pure

theorem pushSelector_keeps {w : Nat} {v : Word} : Keeps P (pushSelector w v) :=
  .bind slotOf_keeps fun _ => pushItem_keeps

theorem popSelector_keeps {w : Nat} : Keeps P (popSelector w) := .bind popItem_keeps fun _ => .pure
theorem peekSelector_keeps {w dist : Nat} : Keeps P (peekSelector w dist) := .bind peekItem_keeps fun _ => .pure

/-! ### Descriptors and segment registers -/

theorem setSeg_keeps {r : SReg} {f : State → SegReg} : Keeps P (modify fun s => s.setSeg r (f s)) :=
  .modify fun _ hs => P.keep hs (by cases r <;> rfl)

theorem readDescriptor_keeps {sel : Word} {bad : M Unit} (hb : Keeps P bad) : Keeps P (readDescriptor sel bad) :=
  .get fun _ _ => by
    split
    · exact .bind sysRead_keeps fun _ => .pure
    · exact .bind hb fun _ => gpSel_keeps

theorem markAccessed_keeps {d : Descriptor} {a : Nat} : Keeps P (markAccessed d a) :=
  .ite (fun _ => .pure) fun _ => sysWrite_keeps

theorem loadDataSeg_keeps {vec : Byte} {r : SReg} {sel : Word} : Keeps P (loadDataSeg vec r sel) :=
  .ite (fun _ => setSeg_keeps) fun _ => .bind (readDescriptor_keeps faultSel_keeps) fun _ => .get fun _ _ =>
    .bind (.check faultSel_keeps) fun _ => .bind (.check faultSel_keeps) fun _ => .bind (.check faultSel_keeps) fun _ =>
    .bind markAccessed_keeps fun _ => setSeg_keeps

theorem loadStackSeg_keeps {vec : Byte} {cpl : Nat} {sel : Word} : Keeps P (loadStackSeg vec cpl sel) :=
  .bind (.check faultSel_keeps) fun _ => .bind (readDescriptor_keeps faultSel_keeps) fun _ =>
    .bind (.check faultSel_keeps) fun _ => .bind (.check faultSel_keeps) fun _ =>
    .bind markAccessed_keeps fun _ => .modify fun _ hs => P.keep hs

theorem loadSeg_keeps {r : SReg} {sel : Word} : Keeps P (loadSeg r sel) := .get fun _ hs =>
  .ite (fun _ => .set (P.keep hs (by cases r <;> rfl))) fun _ => .ite (fun _ => .set (P.keep hs (by cases r <;> rfl)))
    fun _ => .ite (fun _ => loadStackSeg_keeps) fun _ => loadDataSeg_keeps

theorem loadCs86_keeps {sel : Word} : Keeps P (modify fun s => s.loadCs86 sel) := .modify fun _ hs => P.keep hs

theorem loadCs_keeps {sel : Word} {cpl : Nat} {d : Descriptor} {a : Nat} : Keeps P (loadCs sel cpl d a) :=
  .bind markAccessed_keeps fun _ => .modify fun _ hs => P.keep hs

theorem jumpTo_keeps {wide : Bool} {v : Dword} : Keeps P (jumpTo wide v) :=
  .get fun _ hs => .bind (.check gp0_keeps) fun _ => .set (P.keep hs)

/-! ### Task switches -/

theorem saveTask_keeps : Keeps P saveTask := .get fun _ _ => sysWrite_keeps

theorem setBusy_keeps {sel : Word} {busy : Bool} : Keeps P (setBusy sel busy) :=
  .ite (fun _ => .pure) fun _ => .get fun _ _ => .bind sysRead_keeps fun _ => sysWrite_keeps

theorem inNewTask_keeps {m : M Unit} (hm : Keeps P m) : Keeps P (inNewTask m) := by
  intro s hs
  have h := hm s hs
  unfold inNewTask
  cases end_ : m s with
  | ok r => rw [end_] at h; exact h
  | error stop =>
    rw [end_] at h
    cases stop with
    | exn e => exact ⟨h.1, fun t ht => Option.some.inj ht ▸ hs⟩
    | shutdown => exact h
    | stop f => exact h

theorem loadTaskReg_keeps {is386 : Bool} {r : Reg} {v : Dword} : Keeps P (loadTaskReg is386 r v) :=
  .ite (fun _ => putReg_keeps) fun _ => .get fun _ _ =>
    .ite (fun _ => .bind freeBits_keeps fun _ => putReg_keeps) fun _ => putReg_keeps

theorem loadTaskLdt_keeps {sel : Word} : Keeps P (loadTaskLdt sel) :=
  .ite (fun _ => .modify fun _ hs => P.keep hs) fun _ => .bind (.check faultSel_keeps) fun _ =>
    .bind (readDescriptor_keeps faultSel_keeps) fun _ => .bind (.check faultSel_keeps) fun _ =>
    .modify fun _ hs => P.keep hs

theorem loadTaskCs_keeps {sel : Word} : Keeps P (loadTaskCs sel) :=
  .bind (.check faultSel_keeps) fun _ => .bind (readDescriptor_keeps faultSel_keeps) fun _ =>
    .bind (.check faultSel_keeps) fun _ => .bind (.check faultSel_keeps) fun _ =>
    .bind (.check faultSel_keeps) fun _ => loadCs_keeps

theorem loadTaskSegs_keeps {is386 : Bool} : Keeps P (loadTaskSegs is386) := .get fun _ hs =>
  .ite (fun _ => .set (P.keep hs)) fun _ => .bind (inNewTask_keeps loadTaskCs_keeps) fun _ =>
    .bind (inNewTask_keeps loadStackSeg_keeps) fun _ => .bind (inNewTask_keeps loadDataSeg_keeps) fun _ =>
    .bind (inNewTask_keeps loadDataSeg_keeps) fun _ => .ite (fun _ =>
      .bind (inNewTask_keeps loadDataSeg_keeps) fun _ => inNewTask_keeps loadDataSeg_keeps) fun _ => .pure

theorem loadCr3_keeps {f : State → Dword} : Keeps P (modify fun s => s.loadCr3 (f s)) := .modify fun _ hs => P.keep hs

theorem taskSwitch_keeps (hu : P.holds u) (hp : u.cr0.pe = true) {kind : SwitchKind} {sel : Word}
    {err : Option Word} : Keeps P (taskSwitch kind sel err) := by
  refine .bind (.check faultSel_keeps) fun _ => .bind (readDescriptor_keeps faultSel_keeps) fun _ => .get fun _ _ =>
    .bind (.check faultSel_keeps) fun _ => .bind (.check faultSel_keeps) fun _ => .bind (.check faultSel_keeps) fun _ =>
    .join (fun switch => .ite (fun _ => .bind setBusy_keeps fun _ => .bind (.modify fun _ hs => P.keep hs) switch)
      fun _ => switch ()) fun _ => ?_
  refine .bind saveTask_keeps fun _ => .optional (fun _ => setBusy_keeps) fun _ => ?_
  refine .bind (.modify fun _ hs => P.keep (P.ts true hs)) fun _ => .optional (fun _ => setBusy_keeps) fun _ =>
    .join (fun enter => .ite (fun _ => .bind sysRead32_keeps fun _ => .bind loadCr3_keeps enter)
      fun _ => enter ()) fun _ => ?_
  refine .bind sysRead_keeps fun _ => .bind (.modify fun _ hs => P.anyVm hu hp hs) fun _ => ?_
  refine .bind loadTaskReg_keeps fun _ => .bind loadTaskReg_keeps fun _ => .bind loadTaskReg_keeps fun _ =>
    .bind loadTaskReg_keeps fun _ => .bind loadTaskReg_keeps fun _ => .bind loadTaskReg_keeps fun _ =>
    .bind loadTaskReg_keeps fun _ => .bind loadTaskReg_keeps fun _ => .optional (fun _ => sysWrite_keeps) fun _ => ?_
  refine .bind (.modify fun _ hs => P.dr7 _ hs) fun _ => .bind (.modify fun _ hs => P.keep hs) fun _ =>
    .bind (inNewTask_keeps loadTaskLdt_keeps) fun _ => .bind loadTaskSegs_keeps fun _ => ?_
  cases err <;> [skip; refine .bind (inNewTask_keeps (.ite (fun _ => push_keeps) fun _ => push_keeps)) fun _ => ?_]
  all_goals
    exact .bind (inNewTask_keeps (.get fun _ _ => .check gp0_keeps)) fun _ =>
      .join (fun fresh => .ite (fun _ => .bind sysRead_keeps fun _ =>
        .ite (fun _ => .bind (.modify fun _ hs => P.keep hs) fresh) fun _ => fresh ()) fun _ => fresh ()) fun _ =>
      .modify fun _ hs => P.keep hs

theorem returnToTask_keeps (hu : P.holds u) (hp : u.cr0.pe = true) : Keeps P returnToTask :=
  .get fun _ _ => .bind sysRead16_keeps fun _ => taskSwitch_keeps hu hp

theorem innerStack_keeps {level : Nat} : Keeps P (innerStack level) := .get fun _ _ =>
  .ite (fun _ => .bind sysRead32_keeps fun _ => .bind sysRead16_keeps fun _ => .pure)
    fun _ => .bind sysRead16_keeps fun _ => .bind sysRead16_keeps fun _ => .pure

/-! ### Taking an interrupt -/

theorem untracked_keeps {m : M α} (hm : Keeps P m) : Keeps P (untracked m) :=
  .get fun _ hu => .bind hm fun _ => .bind (.modify fun _ hs => P.keep (P.stepOf hu hs)) fun _ => .pure

theorem withEx_keeps {src : IntSource} {m : M α} (hm : Keeps P m) : Keeps P (withEx src m) := by
  intro s hs
  have h := hm s hs
  unfold withEx
  cases end_ : m s with
  | ok r => rw [end_] at h; exact h
  | error stop =>
    rw [end_] at h
    cases stop with
    | exn e =>
      dsimp only
      split <;> exact h
    | shutdown => exact h
    | stop f => exact h

theorem deliverReal_keeps {n : Byte} {ret : Dword} : Keeps P (deliverReal n ret) :=
  .get fun _ _ => .bind push_keeps fun _ => .bind (.modify fun _ hs => P.sameVm hs hs rfl) fun _ =>
    .bind push_keeps fun _ => .bind sysRead16_keeps fun _ => .bind push_keeps fun _ => .bind sysRead16_keeps fun _ =>
    .modify fun _ hs => P.keep hs

theorem interruptReal_keeps {n : Byte} {ret start : Dword} : Keeps P (interruptReal n ret start) :=
  .get fun _ _ => .ite (fun _ => deliverReal_keeps) fun _ => .ite (fun _ => deliverReal_keeps) fun _ _ _ => trivial

theorem checkRoom_keeps {w k : Nat} {err : Word} : Keeps P (checkRoom w k err) :=
  .get fun _ _ => .check (.raise fault_fits)

theorem switchToInner_keeps {level : Nat} : Keeps P (switchToInner level) :=
  .bind innerStack_keeps fun _ => .get fun _ _ => .bind loadStackSeg_keeps fun _ =>
    .join (fun done => .ite (fun _ => .bind putReg_keeps done) fun _ => .bind putReg_keeps done) fun _ => .pure

theorem enterGate_keeps {n : Byte} {gate : Descriptor} {err : Option Word} {ret img : Dword} :
    Keeps P (enterGate n gate err ret img) := by
  refine .get fun _ _ => .bind (.check (.raise fault_fits)) fun _ => .bind (readDescriptor_keeps gpSel_keeps) fun _ =>
    .bind (.check gpSel_keeps) fun _ => .bind (.check gpSel_keeps) fun _ => .bind (.check (.raise fault_fits)) fun _ =>
    .bind (.check faultSel_keeps) fun _ => .bind (.check (.raise fault_fits)) fun _ =>
    .join (fun frame => .ite (fun _ => ?_) fun _ => .bind checkRoom_keeps frame) fun _ => .bind push_keeps fun _ =>
    .bind pushSelector_keeps fun _ => .bind push_keeps fun _ => ?_
  · refine .bind (.modify fun _ hs => P.noVm hs rfl) fun _ => .bind switchToInner_keeps fun _ =>
      .bind checkRoom_keeps fun _ => .join (fun stack => .ite (fun _ => .bind pushSelector_keeps fun _ =>
        .bind pushSelector_keeps fun _ => .bind pushSelector_keeps fun _ => .bind pushSelector_keeps fun _ =>
        .bind (.modify fun _ hs => P.keep hs) stack) fun _ => stack ()) fun _ =>
      .bind pushSelector_keeps fun _ => .bind push_keeps frame
  · cases err <;> [skip; refine .bind push_keeps fun _ => ?_]
    all_goals
      exact .bind loadCs_keeps fun _ => .bind (.modify fun _ hs => P.noVm hs rfl) fun _ => jumpTo_keeps

theorem interruptProt_keeps (hu : P.holds u) (hp : u.cr0.pe = true) {n : Byte} {err : Option Word} {src : IntSource}
    {ret img : Dword} : Keeps P (interruptProt n err src ret img) :=
  .get fun _ _ => .bind (.check (.raise fault_fits)) fun _ => .bind sysRead_keeps fun _ =>
    .bind (.check (.raise fault_fits)) fun _ => .bind (.check (.raise fault_fits)) fun _ =>
    .bind (.check (.raise fault_fits)) fun _ =>
    .ite (fun _ => .bind (.modify fun _ hs => P.keep hs) fun _ => taskSwitch_keeps hu hp) fun _ => enterGate_keeps

theorem pe_of_not_real (h : ¬s.real = true) : s.cr0.pe = true := by simpa [State.real] using h
theorem pe_of_prot (h : s.prot = true) : s.cr0.pe = true := by simp_all [State.prot]

/-- TAKING AN INTERRUPT keeps every lasting property. -/
theorem interrupt_keeps {n : Byte} {err : Option Word} {src : IntSource} {ret start : Dword} {rf : Bool} :
    Keeps P (interrupt n err src ret start rf) :=
  withEx_keeps <| untracked_keeps <| .get fun _ hu =>
    .join (fun settle => .ite (fun _ => .bind interruptReal_keeps settle)
      fun h => .bind (interruptProt_keeps hu (pe_of_not_real h)) settle) fun _ => .modify fun _ hs => P.keep hs

/-! ### Delivering what an instruction raised -/

/-- A next state, if the outcome is one, has the property. -/
def Lands (P : Lasting) (o : Host.Outcome State Fault Refusal) : Prop := ∀ t, o = .next t → P.holds t

theorem lands_next (hs : P.holds s) : Lands P (.next s) := fun _ h => by injection h with h; exact h ▸ hs
theorem lands_fault {f : Fault} : Lands P (.fault f) := fun _ h => nomatch h

theorem shutDown_holds (hs : P.holds s) : P.holds s.shutDown := P.keep hs

theorem noteExn_holds {e : Exn} (he : e.Fits P) (hs : P.holds s) : P.holds (s.noteExn e) := by
  have marked := P.dr6 e.dr6 he.1 hs
  by_cases guard : e.dr6.getLsbD 13 = true
  · exact P.keep (P.dr7 (~~~0x2000) marked) (by unfold State.noteExn; rw [if_pos guard]; rfl)
  · exact P.keep marked (by unfold State.noteExn; rw [if_neg guard]; rfl)

theorem exnContext_holds {e : Exn} (he : e.Fits P) (hs : P.holds s) : P.holds (s.exnContext e) := by
  refine noteExn_holds he ?_
  cases ht : e.newTask with
  | none => exact hs
  | some t => exact P.keep (P.stepOf hs (he.2 t ht))

theorem enterExn_lands {e : Exn} {ret start : Dword} {again : Exn → Host.Outcome State Fault Refusal}
    (hs : P.holds s) (ha : ∀ e, e.Fits P → Lands P (again e)) : Lands P (s.enterExn e ret start again) := by
  have h := interrupt_keeps (n := e.vec) (err := e.err) (src := .proc) (ret := ret) (start := start)
    (rf := decide (e.cls = .fault) || s.flags.rf) s hs
  unfold State.enterExn
  cases end_ : interrupt e.vec e.err .proc ret start (decide (e.cls = .fault) || s.flags.rf) s with
  | ok r => rw [end_] at h; exact lands_next h
  | error stop =>
    rw [end_] at h
    cases stop with
    | exn e => exact ha e h
    | shutdown => exact lands_next (shutDown_holds hs)
    | stop f => exact lands_fault

theorem doubleFault_lands {ret : Dword} (hs : P.holds s) : Lands P (s.doubleFault ret) :=
  enterExn_lands hs fun _ he => lands_next (shutDown_holds (exnContext_holds he hs))

/-- DELIVERING AN EXCEPTION that fits keeps every lasting property. -/
theorem deliverExn_lands {next : Dword} {e : Exn} (he : e.Fits P) (hs : P.holds s) : Lands P (s.deliverExn next e) := by
  have hc := exnContext_holds he hs
  refine enterExn_lands hc fun e2 he2 => ?_
  have hc2 := exnContext_holds he2 hc
  dsimp only
  split
  · exact doubleFault_lands hc2
  · refine enterExn_lands hc2 fun e3 he3 => ?_
    have hc3 := exnContext_holds he3 hc2
    split
    · exact doubleFault_lands hc3
    · exact lands_next (shutDown_holds hc3)

/-! ### Running one instruction -/

theorem lockCheck_keeps {l : Bool} : Keeps P (lockCheck l) := .get fun _ _ => .ite (fun _ => .pure) fun _ =>
  .ite (fun _ => .check gp0_keeps) fun _ => .bind (.check gp0_keeps) fun _ => .check undefinedOpcode_keeps

/-- The end of an instruction sets RF and the single step recorded. -/
theorem finish_holds {e : Ending} (hP : P.AnyStep) (hs : e = .waiting → P.holds s) (ht : P.holds t) :
    P.holds (finish s t e) := by
  have step := hP t (finish s t e).trap.singleStep ht
  cases e with
  | waiting => exact P.keep (hs rfl)
  | again => exact P.keep step
  | done | noStep | loadedRf | interrupted => exact P.sameVm ht step rfl

/-- RUNNING AN INSTRUCTION whose effect keeps a lasting property keeps it. -/
theorem runEnding_lands {l : Bool} {body : M Ending} (hP : P.AnyStep) (hb : Keeps P body) (hs : P.holds s) :
    Lands P (runEnding l body s) := by
  have hbegin : P.holds s.begin := P.keep hs
  have h := (Keeps.bind (lockCheck_keeps (l := l)) fun _ => hb) s.begin hbegin
  intro u hu
  rcases runEnding_next hu with ⟨e, t, ok, rfl⟩ | ⟨e, raised, delivered⟩ | ⟨-, rfl⟩
  · rw [ok] at h
    exact finish_holds hP (fun _ => hs) h
  · rw [raised] at h
    exact deliverExn_lands h hs u delivered
  · exact shutDown_holds hs

theorem run_lands {l : Bool} {body : M Unit} (hP : P.AnyStep) (hb : Keeps P body) (hs : P.holds s) :
    Lands P (run l body s) :=
  runEnding_lands hP (.bind hb fun _ => .pure) hs

/-! ### Permission checks -/

theorem privileged_keeps : Keeps P privileged := .get fun _ _ => .check gp0_keeps
theorem ioplSensitive_keeps : Keeps P ioplSensitive := .get fun _ _ => .check gp0_keeps
theorem v86Sensitive_keeps : Keeps P v86Sensitive := .get fun _ _ => .check gp0_keeps
theorem protectedOnly_keeps : Keeps P protectedOnly := .get fun _ _ => .check undefinedOpcode_keeps

theorem portForbidden_keeps {map p : Nat} : Keeps P (portForbidden map p) :=
  .get fun _ _ => .ite (fun _ => .pure) fun _ => .bind sysRead_keeps fun _ => .pure

theorem bitmapCheck_keeps {map n p : Nat} : Keeps P (bitmapCheck map n p) := by
  induction n generalizing p with
  | zero => exact .pure
  | succ n ih => exact .bind portForbidden_keeps fun _ => .bind (.check gp0_keeps) fun _ => ih

theorem ioCheck_keeps {p n : Nat} : Keeps P (ioCheck p n) :=
  .get fun _ _ => .ite (fun _ => .pure) fun _ => .ite (fun _ => .check gp0_keeps) fun _ => .ite (fun _ => .pure)
    fun _ => .bind (.check gp0_keeps) fun _ => .bind sysRead16_keeps fun _ => bitmapCheck_keeps

/-! ### Far transfers -/

theorem pushReturn_keeps {w : Nat} {cs : Word} {ret : Dword} : Keeps P (pushReturn w cs ret) :=
  .bind (.get fun _ _ => .ite (fun _ => checkRoom_keeps) fun _ => .pure) fun _ => .bind pushSelector_keeps fun _ =>
    push_keeps

theorem far86_keeps {kind : FarKind} {sel : Word} {off : Dword} : Keeps P (far86 kind sel off) :=
  .get fun _ _ => .bind (.check gp0_keeps) fun _ => .optional (fun _ => pushReturn_keeps) fun _ =>
    .bind loadCs86_keeps fun _ => .bind jumpTo_keeps fun _ => .pure

theorem onStackOf_keeps {m : M α} (hm : Keeps P m) : Keeps P (onStackOf u m) :=
  .get fun _ hs => .bind (.set (P.keep hs)) fun _ => .bind hm fun _ => .bind (.modify fun _ hs => P.keep hs) fun _ =>
    .pure

theorem readParams_keeps {w n i : Nat} : Keeps P (callInner.readParams w n i) := by
  induction n generalizing i with
  | zero => exact .pure
  | succ n ih => exact .bind peekStack_keeps fun _ => .bind ih fun _ => .pure

theorem pushAll_keeps {w : Nat} {vs : List Dword} : Keeps P (callInner.pushAll w vs) := by
  induction vs with
  | nil => exact .pure
  | cons v vs ih => exact .bind push_keeps fun _ => ih

theorem callInner_keeps {gate d : Descriptor} {sel : Word} {a : Nat} : Keeps P (callInner gate sel d a) :=
  .get fun _ _ => .bind (.modify fun _ hs => P.keep hs) fun _ => .bind switchToInner_keeps fun _ =>
    .bind checkRoom_keeps fun _ => .bind pushSelector_keeps fun _ => .bind push_keeps fun _ =>
    .bind (onStackOf_keeps readParams_keeps) fun _ => .bind pushAll_keeps fun _ => .bind pushSelector_keeps fun _ =>
    .bind push_keeps fun _ => .bind loadCs_keeps fun _ => jumpTo_keeps

theorem throughGate_keeps {kind : FarKind} {sel : Word} {gate : Descriptor} : Keeps P (throughGate kind sel gate) :=
  .get fun _ _ => .bind (.check gpSel_keeps) fun _ => .bind (.check faultSel_keeps) fun _ =>
    .bind (.check gp0_keeps) fun _ => .bind (readDescriptor_keeps gpSel_keeps) fun _ =>
    .bind (.check gpSel_keeps) fun _ => .bind (.check faultSel_keeps) fun _ =>
    .join (fun done => .ite (fun _ => .bind callInner_keeps done) fun _ => .bind (.check gpSel_keeps) fun _ =>
      .optional (fun _ => pushReturn_keeps) fun _ => .bind loadCs_keeps fun _ => .bind jumpTo_keeps done) fun _ => .pure

theorem farProt_keeps (hu : P.holds u) (hp : u.cr0.pe = true) {kind : FarKind} {sel : Word} {off : Dword} :
    Keeps P (farProt kind sel off) :=
  .get fun _ _ => .bind (.check gp0_keeps) fun _ => .bind (readDescriptor_keeps gpSel_keeps) fun _ =>
    .ite (fun _ => .bind (.check gpSel_keeps) fun _ => .bind (.check faultSel_keeps) fun _ =>
      .bind (.check gp0_keeps) fun _ => .optional (fun _ => pushReturn_keeps) fun _ => .bind loadCs_keeps fun _ =>
      .bind jumpTo_keeps fun _ => .pure) fun _ =>
    .ite (fun _ => throughGate_keeps) fun _ =>
    .ite (fun _ => .bind (.check gpSel_keeps) fun _ => .bind (taskSwitch_keeps hu hp) fun _ => .pure) fun _ =>
    .ite (fun _ => .bind (.check gpSel_keeps) fun _ => .bind (.check faultSel_keeps) fun _ =>
      .bind (taskSwitch_keeps hu hp) fun _ => .pure) fun _ => gpSel_keeps

theorem farTransfer_keeps {kind : FarKind} {sel : Word} {off : Dword} : Keeps P (farTransfer kind sel off) :=
  .get fun _ hs => .ite (fun h => farProt_keeps hs (pe_of_prot h)) fun _ => far86_keeps

theorem dropInner_keeps {r : SReg} : Keeps P (dropInner r) := .modify fun s hs => by
  dsimp only
  split
  · exact hs
  · exact P.keep hs (by cases r <;> rfl)

theorem dropInnerAll_keeps : Keeps P dropInnerAll :=
  .bind dropInner_keeps fun _ => .bind dropInner_keeps fun _ => .bind dropInner_keeps fun _ => dropInner_keeps

theorem returnTarget_keeps {sel : Word} {v : Dword} : Keeps P (returnTarget sel v) :=
  .get fun _ _ => .bind (.check gp0_keeps) fun _ => .bind (.check gpSel_keeps) fun _ =>
    .bind (readDescriptor_keeps gpSel_keeps) fun _ => .bind (.check gpSel_keeps) fun _ => .bind (.check gpSel_keeps)
    fun _ => .bind (.check faultSel_keeps) fun _ => .bind (.check gp0_keeps) fun _ => .pure

theorem returnOuter_keeps {w dist : Nat} {extra : Dword} {sel : Word} {d : Descriptor} {a : Nat} :
    Keeps P (returnOuter w dist extra sel d a) :=
  .bind peekStack_keeps fun _ => .bind peekSelector_keeps fun _ => .bind loadStackSeg_keeps fun _ =>
    .bind loadCs_keeps fun _ => .bind setSp_keeps fun _ => dropInnerAll_keeps

theorem retfProt_keeps {n : Word} : Keeps P (retfProt n) :=
  .get fun _ _ => .bind peekStack_keeps fun _ => .bind peekSelector_keeps fun _ => .bind returnTarget_keeps fun _ =>
    .join (fun jump => .ite (fun _ => .bind addSp_keeps fun _ => .bind loadCs_keeps jump) fun _ =>
      .bind returnOuter_keeps jump) fun _ => jumpTo_keeps

theorem retf86_keeps {n : Word} : Keeps P (retf86 n) :=
  .get fun _ _ => .bind pop_keeps fun _ => .bind popSelector_keeps fun _ => .bind loadCs86_keeps fun _ =>
    .bind jumpTo_keeps fun _ => addSp_keeps

/-! ### Returning from an interrupt -/

theorem unblockNmi_keeps : Keeps P unblockNmi := .modify fun _ hs => P.keep hs

theorem popFlags_vm (s : State) (v : Dword) (wide : Bool) : (s.popFlags v wide).vm = s.flags.vm := by
  unfold State.popFlags
  dsimp only
  split <;> rfl

theorem iretFlags_vm (s : State) (v : Dword) (wide : Bool) : (s.iretFlags v wide).vm = s.flags.vm := by
  unfold State.iretFlags
  dsimp only
  split <;> exact popFlags_vm s v wide

theorem iret86_keeps : Keeps P iret86 :=
  .bind v86Sensitive_keeps fun _ => .get fun s hu => .bind pop_keeps fun _ => .bind popSelector_keeps fun _ =>
    .bind pop_keeps fun _ => .bind loadCs86_keeps fun _ => .bind jumpTo_keeps fun _ =>
    .modify fun _ hs => P.sameVm hu hs (iretFlags_vm s _ _)

theorem iretToV86_keeps (hu : P.holds u) (hp : u.cr0.pe = true) : Keeps P iretToV86 :=
  .get fun _ _ => .bind (.check (.raise fault_fits)) fun _ => .bind pop_keeps fun _ => .bind popSelector_keeps fun _ =>
    .bind pop_keeps fun _ => .bind pop_keeps fun _ => .bind popSelector_keeps fun _ => .bind popSelector_keeps fun _ =>
    .bind popSelector_keeps fun _ => .bind popSelector_keeps fun _ => .bind popSelector_keeps fun _ =>
    .modify fun _ hs => P.anyVm hu hp hs

theorem iretProt_keeps (hu : P.holds u) (hp : u.cr0.pe = true) : Keeps P iretProt :=
  .get fun s hs => .ite (fun _ => returnToTask_keeps hu hp) fun _ => .bind peekStack_keeps fun _ =>
    .bind peekSelector_keeps fun _ => .bind peekStack_keeps fun _ => .ite (fun _ => iretToV86_keeps hu hp) fun _ =>
    .bind returnTarget_keeps fun _ => .join (fun jump =>
      .ite (fun _ => .bind addSp_keeps fun _ => .bind loadCs_keeps jump) fun _ => .bind returnOuter_keeps jump) fun _ =>
    .bind jumpTo_keeps fun _ => .modify fun _ ht => P.sameVm hs ht (iretFlags_vm s _ _)

theorem iretAny_keeps : Keeps P iretAny := .get fun _ hs =>
  .join (fun done => .ite (fun h => .bind (iretProt_keeps hs (pe_of_prot h)) done) fun _ => .bind iret86_keeps done)
    fun _ => .bind unblockNmi_keeps fun _ => .pure

end Sys2Proof.Machine
end

section
/-! PROOFS. The effects of the instructions keep every lasting property, but for those that load a system register. -/
-- One declaration after the other: many proofs at once take more thread stacks than the memory limit allows.
set_option Elab.async false
namespace Sys2Proof.Machine

variable {α β : Type} {P : Lasting} {s t u : State}

/-! ### Operands -/

theorem memGet_keeps {w : Nat} {m : Mem} : Keeps P (memGet w m) := .get fun _ _ => readMem_keeps

theorem memGetAt_keeps {w : Nat} {m : Mem} {dist : Nat} : Keeps P (memGetAt w m dist) :=
  .get fun _ _ => .bind (.check limitFault_keeps) fun _ => readMem_keeps

theorem memPut_keeps {w : Nat} {m : Mem} {v : BitVec w} : Keeps P (memPut m v) := .get fun _ _ => writeMem_keeps

theorem updateItem_keeps {w b : Nat} {r : SReg} {off : Dword} {f : BitVec w → M (BitVec w)} (hf : ∀ a, Keeps P (f a)) :
    Keeps P (updateItem w b r off f) :=
  .bind access_keeps fun _ => .bind readPlaces_keeps fun _ => .bind (hf _) fun _ => writePlaces_keeps

theorem memUpdate_keeps {w : Nat} {r : SReg} {off : Dword} {f : BitVec w → M (BitVec w)} (hf : ∀ a, Keeps P (f a)) :
    Keeps P (memUpdate w r off f) := updateItem_keeps hf

theorem get8_keeps {d : Rm8} : Keeps P (get8 d) := by
  cases d with
  | reg r => exact getReg8_keeps
  | mem m => exact memGet_keeps

theorem put8_keeps {d : Rm8} {v : Byte} : Keeps P (put8 d v) := by
  cases d with
  | reg r => exact putReg8_keeps
  | mem m => exact memPut_keeps

theorem update8_keeps {d : Rm8} {f : Byte → M Byte} (hf : ∀ a, Keeps P (f a)) : Keeps P (update8 d f) := by
  cases d with
  | reg r => exact .bind getReg8_keeps fun _ => .bind (hf _) fun _ => putReg8_keeps
  | mem m => exact .get fun _ _ => memUpdate_keeps hf

theorem getv_keeps {w : Nat} {d : Rmv} : Keeps P (getv w d) := by
  cases d with
  | reg r => exact getReg_keeps
  | mem m => exact memGet_keeps

theorem putv_keeps {w : Nat} {d : Rmv} {v : BitVec w} : Keeps P (putv d v) := by
  cases d with
  | reg r => exact putReg_keeps
  | mem m => exact memPut_keeps

theorem updatev_keeps {w : Nat} {d : Rmv} {f : BitVec w → M (BitVec w)} (hf : ∀ a, Keeps P (f a)) :
    Keeps P (updatev w d f) := by
  cases d with
  | reg r => exact .bind getReg_keeps fun _ => .bind (hf _) fun _ => putReg_keeps
  | mem m => exact .get fun _ _ => memUpdate_keeps hf

theorem put16_keeps {d : Rmv} {v : Word} : Keeps P (put16 d v) := putv_keeps

theorem setFlags_keeps {f : Flags → Flags} (hf : ∀ g, (f g).vm = g.vm := by exact fun _ => rfl) :
    Keeps P (setFlags f) := .modify fun _ hs => P.sameVm hs hs (hf _)

theorem withFlags_keeps {x : α × Flags} (hu : P.holds u) (hx : x.2.vm = u.flags.vm := by rfl) :
    Keeps P (withFlags x) := fun _ hs => P.sameVm hu hs hx

theorem countDown_keeps : Keeps P countDown := .modify fun _ hs => P.keep hs
theorem advance_keeps {r : Reg} {n : Nat} : Keeps P (advance r n) := .modify fun _ hs => P.keep hs

/-! ### Arithmetic and logic -/

theorem logicResult_keeps {w : Nat} {r : BitVec w} : Keeps P (logicResult r) :=
  .bind freeBool_keeps fun _ => .get fun _ hs => withFlags_keeps hs

theorem aluOp_keeps {w : Nat} {op : Alu} {a b : BitVec w} : Keeps P (aluOp op a b) := .get fun _ hs => by
  cases op with
  | add | adc | sub | sbb => exact withFlags_keeps hs
  | and | or | xor => exact logicResult_keeps

theorem alu8_keeps {op : Alu} {d : Rm8} {src : M Byte} (hsrc : Keeps P src) : Keeps P (alu8 op d src) :=
  .bind hsrc fun _ => update8_keeps fun _ => aluOp_keeps

theorem aluv_keeps {op : Alu} {d : Rmv} {src : (w : Nat) → M (BitVec w)} (hsrc : ∀ w, Keeps P (src w)) :
    Keeps P (aluv op d src) :=
  .sized fun w => .bind (hsrc w) fun _ => updatev_keeps fun _ => aluOp_keeps

theorem compareFlags_keeps {w : Nat} {a b : BitVec w} : Keeps P (compareFlags a b) := setFlags_keeps

theorem cmp8_keeps {d : Rm8} {src : M Byte} (hsrc : Keeps P src) : Keeps P (cmp8 d src) :=
  .bind hsrc fun _ => .bind get8_keeps fun _ => compareFlags_keeps

theorem cmpv_keeps {d : Rmv} {src : (w : Nat) → M (BitVec w)} (hsrc : ∀ w, Keeps P (src w)) : Keeps P (cmpv d src) :=
  .sized fun w => .bind (hsrc w) fun _ => .bind getv_keeps fun _ => compareFlags_keeps

theorem test8_keeps {d : Rm8} {src : M Byte} (hsrc : Keeps P src) : Keeps P (test8 d src) :=
  .bind hsrc fun _ => .bind get8_keeps fun _ => .bind logicResult_keeps fun _ => .pure

theorem testv_keeps {d : Rmv} {src : (w : Nat) → M (BitVec w)} (hsrc : ∀ w, Keeps P (src w)) : Keeps P (testv d src) :=
  .sized fun w => .bind (hsrc w) fun _ => .bind getv_keeps fun _ => .bind logicResult_keeps fun _ => .pure

theorem immSrc_keeps {imm : Dword} (w : Nat) : Keeps P (immSrc imm w) := .pure
theorem immSrc8_keeps {imm : Byte} (w : Nat) : Keeps P (immSrc8 imm w) := .pure
theorem regSrc_keeps {r : Reg} (w : Nat) : Keeps P (regSrc r w) := getReg_keeps
theorem rmSrc_keeps {m : Rmv} (w : Nat) : Keeps P (rmSrc m w) := getv_keeps

theorem unaryOp_keeps {w : Nat} {op : Unary} {a : BitVec w} : Keeps P (unaryOp op a) := .get fun _ hs => by
  cases op with
  | inc | dec | neg => exact withFlags_keeps hs
  | not => exact .pure

theorem unary8_keeps {op : Unary} {d : Rm8} : Keeps P (unary8 op d) := update8_keeps fun _ => unaryOp_keeps
theorem unaryv_keeps {op : Unary} {d : Rmv} : Keeps P (unaryv op d) :=
  .sized fun _ => updatev_keeps fun _ => unaryOp_keeps

theorem mulFlags_keeps {wide : Bool} : Keeps P (mulFlags wide) := .bind freeBits_keeps fun _ => setFlags_keeps

theorem mulAl_keeps {signed : Bool} {d : Rm8} : Keeps P (mulAl signed d) :=
  .bind get8_keeps fun _ => .bind getReg_keeps fun _ => .bind putReg_keeps fun _ => mulFlags_keeps

theorem mulEax_keeps {signed : Bool} {d : Rmv} : Keeps P (mulEax signed d) :=
  .sized fun _ => .bind getv_keeps fun _ => .bind getReg_keeps fun _ => .bind putReg_keeps fun _ =>
    .bind putReg_keeps fun _ => mulFlags_keeps

theorem imulTo_keeps {w : Nat} {r : Reg} {a b : BitVec w} : Keeps P (imulTo r a b) :=
  .bind putReg_keeps fun _ => mulFlags_keeps

theorem openFlags_keeps : Keeps P openFlags := .bind freeBits_keeps fun _ => setFlags_keeps

theorem divAx_keeps {signed : Bool} {d : Rm8} : Keeps P (divAx signed d) := .bind get8_keeps fun _ => .get fun _ _ => by
  split
  · exact .raise fault_fits
  · exact .bind putReg8_keeps fun _ => .bind putReg8_keeps fun _ => openFlags_keeps

theorem divEax_keeps {signed : Bool} {d : Rmv} : Keeps P (divEax signed d) :=
  .sized fun _ => .bind getv_keeps fun _ => .get fun _ _ => by
    split
    · exact .raise fault_fits
    · exact .bind putReg_keeps fun _ => .bind putReg_keeps fun _ => openFlags_keeps

theorem convertByte_keeps : Keeps P convertByte :=
  .get fun _ _ => .ite (fun _ => putReg_keeps) fun _ => putReg_keeps

theorem convertWord_keeps : Keeps P convertWord := .sized fun _ => .bind getReg_keeps fun _ => putReg_keeps

theorem imul3_keeps {r : Reg} {m : Rmv} {imm : (w : Nat) → BitVec w} : Keeps P (imul3 r m imm) :=
  .sized fun _ => .bind getv_keeps fun _ => imulTo_keeps

theorem imul2_keeps {r : Reg} {m : Rmv} : Keeps P (imul2 r m) :=
  .sized fun _ => .bind getv_keeps fun _ => .bind getReg_keeps fun _ => imulTo_keeps

/-! ### Data transfer -/

theorem mov8_keeps {d : Rm8} {src : M Byte} (hsrc : Keeps P src) : Keeps P (mov8 d src) :=
  .bind hsrc fun _ => put8_keeps

theorem movv_keeps {d : Rmv} {src : (w : Nat) → M (BitVec w)} (hsrc : ∀ w, Keeps P (src w)) : Keeps P (movv d src) :=
  .sized fun w => .bind (hsrc w) fun _ => putv_keeps

theorem moffsGet_keeps {w : Nat} {off : Dword} : Keeps P (moffsGet w off) := .get fun _ _ => readMem_keeps

theorem moffsPut_keeps {w : Nat} {off : Dword} {v : BitVec w} : Keeps P (moffsPut off v) :=
  .get fun _ _ => writeMem_keeps

theorem loadSegShadow_keeps {r : SReg} {sel : Word} : Keeps P (loadSegShadow r sel) :=
  .bind loadSeg_keeps fun _ => .optional (fun _ => .modify fun _ hs => P.keep hs) fun _ => .get fun _ _ => .pure

theorem movToSeg_keeps {r : SReg} {m : Rmv} : Keeps P (movToSeg r m) :=
  .bind (.check undefinedOpcode_keeps) fun _ => .bind getv_keeps fun _ => loadSegShadow_keeps

theorem movFromSeg_keeps {d : Rmv} {r : SReg} : Keeps P (movFromSeg d r) := .get fun _ _ => by
  cases d with
  | mem m => exact memPut_keeps
  | reg q => exact .sized fun _ => .bind slotOf_keeps fun _ => putReg_keeps

theorem loadPointer_keeps {g : SReg} {r : Reg} {m : Mem} : Keeps P (loadPointer g r m) :=
  .sized fun _ => .bind memGet_keeps fun _ => .bind memGetAt_keeps fun _ => .bind loadSeg_keeps fun _ => putReg_keeps

theorem exchange8_keeps {d : Rm8} {r : Reg8} : Keeps P (exchange8 d r) :=
  update8_keeps fun _ => .bind getReg8_keeps fun _ => .bind putReg8_keeps fun _ => .pure

theorem exchangev_keeps {d : Rmv} {r : Reg} : Keeps P (exchangev d r) :=
  .sized fun _ => updatev_keeps fun _ => .bind getReg_keeps fun _ => .bind putReg_keeps fun _ => .pure

theorem translateByte_keeps : Keeps P translateByte := .get fun _ _ => .bind readMem_keeps fun _ => putReg_keeps

theorem loadAddress_keeps {r : Reg} {m : Mem} : Keeps P (loadAddress r m) :=
  .sized fun _ => .get fun _ _ => putReg_keeps

theorem inPort_keeps {w port : Nat} : Keeps P (inPort w port) :=
  .bind ioCheck_keeps fun _ => .bind ioRead_keeps fun _ => putReg_keeps

theorem outPort_keeps {w port : Nat} : Keeps P (outPort w port) :=
  .bind ioCheck_keeps fun _ => .bind getReg_keeps fun _ => ioWrite_keeps

theorem extendTo_keeps {n : Nat} {signed : Bool} {r : Reg} {v : BitVec n} : Keeps P (extendTo signed r v) :=
  .sized fun _ => putReg_keeps

theorem exchangeAdd8_keeps {d : Rm8} {r : Reg8} : Keeps P (exchangeAdd8 d r) :=
  update8_keeps fun _ => .bind getReg8_keeps fun _ => .bind aluOp_keeps fun _ => .bind putReg8_keeps fun _ => .pure

theorem exchangeAddv_keeps {d : Rmv} {r : Reg} : Keeps P (exchangeAddv d r) :=
  .sized fun _ => updatev_keeps fun _ => .bind getReg_keeps fun _ => .bind aluOp_keeps fun _ =>
    .bind putReg_keeps fun _ => .pure

theorem compareExchange_keeps {w : Nat} {src : M (BitVec w)} (hsrc : Keeps P src) (a : BitVec w) :
    Keeps P (compareExchange src a) :=
  .bind getReg_keeps fun _ => .bind compareFlags_keeps fun _ => .ite (fun _ => hsrc) fun _ =>
    .bind putReg_keeps fun _ => .pure

theorem loadDirect8_keeps {off : Dword} : Keeps P (loadDirect8 off) := .bind moffsGet_keeps fun _ => putReg8_keeps
theorem loadDirectv_keeps {off : Dword} : Keeps P (loadDirectv off) :=
  .sized fun _ => .bind moffsGet_keeps fun _ => putReg_keeps
theorem storeDirect8_keeps {off : Dword} : Keeps P (storeDirect8 off) := .bind getReg8_keeps fun _ => moffsPut_keeps
theorem storeDirectv_keeps {off : Dword} : Keeps P (storeDirectv off) :=
  .sized fun _ => .bind getReg_keeps fun _ => moffsPut_keeps

theorem swapReg_keeps {r : Reg} : Keeps P (swapReg r) := .get fun _ _ => .ite (fun _ => putReg_keeps) fun _ => .pure

/-! ### The stack -/

theorem pushReg_keeps {r : Reg} : Keeps P (pushReg r) := .sized fun _ => .get fun _ _ => push_keeps

theorem pushRm_keeps {d : Rmv} : Keeps P (pushRm d) := by
  unfold pushRm
  cases d with
  | reg r => exact pushReg_keeps
  | mem m => exact .sized fun _ => .bind memGet_keeps fun _ => push_keeps

theorem pushSeg_keeps {r : SReg} : Keeps P (pushSeg r) := .sized fun _ => .get fun _ _ => pushSelector_keeps
theorem popReg_keeps {r : Reg} : Keeps P (popReg r) := .sized fun _ => .bind pop_keeps fun _ => putReg_keeps
theorem popRm_keeps {d : Rmv} : Keeps P (popRm d) := .sized fun _ => .bind pop_keeps fun _ => putv_keeps
theorem popSeg_keeps {r : SReg} : Keeps P (popSeg r) :=
  .sized fun _ => .bind popSelector_keeps fun _ => loadSegShadow_keeps

theorem pushList_keeps {w : Nat} {vs : List (BitVec w)} : Keeps P (pushList vs) := by
  induction vs with
  | nil => exact .pure
  | cons v vs ih => exact .bind push_keeps fun _ => ih

theorem pushAllRegs_keeps : Keeps P pushAllRegs := .sized fun _ => .get fun _ _ => pushList_keeps

theorem popList_keeps {w : Nat} {rs : List Reg} : Keeps P (popList w rs) := by
  induction rs with
  | nil => exact .pure
  | cons r rs ih => exact .bind pop_keeps fun _ => .bind putReg_keeps fun _ => ih

theorem popAllRegs_keeps : Keeps P popAllRegs :=
  .sized fun _ => .bind popList_keeps fun _ => .bind pop_keeps fun _ => popList_keeps

theorem copyFrame_keeps {w : Nat} {bp : Dword} {n i : Nat} : Keeps P (copyFrame w bp n i) := by
  induction n generalizing i with
  | zero => exact .pure
  | succ n ih => exact .get fun _ _ => .bind readMem_keeps fun _ => .bind push_keeps fun _ => ih

theorem enterFrame_keeps {size : Word} {level : Byte} : Keeps P (enterFrame size level) :=
  .sized fun _ => .get fun _ _ => .bind push_keeps fun _ => .get fun _ _ => .bind copyFrame_keeps fun _ =>
    .bind putReg_keeps fun _ => .get fun _ _ => .bind (.check limitFault_keeps) fun _ => setSp_keeps

theorem leaveFrame_keeps : Keeps P leaveFrame :=
  .sized fun _ => .bind setSp_keeps fun _ => .bind pop_keeps fun _ => putReg_keeps

theorem pushFlags_keeps : Keeps P pushFlags :=
  .bind v86Sensitive_keeps fun _ => .sized fun _ => .get fun _ _ => push_keeps

theorem popFlags_keeps : Keeps P popFlags :=
  .bind v86Sensitive_keeps fun _ => .sized fun _ => .bind pop_keeps fun _ =>
    .modify fun s hs => P.sameVm hs hs (popFlags_vm s _ _)

theorem storeAh_keeps : Keeps P storeAh := .bind getReg8_keeps fun _ => setFlags_keeps
theorem loadAh_keeps : Keeps P loadAh := .get fun _ _ => putReg8_keeps

/-! ### Control transfer -/

theorem jumpNear_keeps {v : Dword} : Keeps P (jumpNear v) := .get fun _ _ => jumpTo_keeps
theorem jumpRel_keeps {rel : Dword} : Keeps P (jumpRel rel) := .get fun _ _ => jumpNear_keeps
theorem jumpIf_keeps {c : Cond} {rel : Dword} : Keeps P (jumpIf c rel) :=
  .get fun _ _ => .ite (fun _ => jumpRel_keeps) fun _ => .pure
theorem setIf_keeps {c : Cond} {d : Rm8} : Keeps P (setIf c d) := .get fun _ _ => put8_keeps

theorem callNear_keeps {v : Dword} : Keeps P (callNear v) :=
  .sized fun _ => .get fun _ _ => .bind (.check gp0_keeps) fun _ => .bind push_keeps fun _ => jumpNear_keeps

theorem returnNear_keeps {n : Word} : Keeps P (returnNear n) :=
  .sized fun _ => .bind pop_keeps fun _ => .bind jumpNear_keeps fun _ => addSp_keeps

theorem returnFar_keeps {n : Word} : Keeps P (returnFar n) :=
  .get fun _ _ => .ite (fun _ => retfProt_keeps) fun _ => retf86_keeps

theorem targetOperand_keeps {d : Rmv} : Keeps P (targetOperand d) := .sized fun _ => .bind getv_keeps fun _ => .pure

theorem farIndirect_keeps {kind : FarKind} {m : Mem} : Keeps P (farIndirect kind m) :=
  .sized fun _ => .bind memGet_keeps fun _ => .bind memGetAt_keeps fun _ => farTransfer_keeps

theorem loopIf_keeps {more : Flags → Bool} {rel : Byte} : Keeps P (loopIf more rel) :=
  .bind countDown_keeps fun _ => .get fun _ _ => .ite (fun _ => jumpRel_keeps) fun _ => .pure

theorem softInterrupt_keeps {n : Byte} : Keeps P (softInterrupt n) :=
  .get fun _ _ => .bind interrupt_keeps fun _ => .pure

theorem boundCheck_keeps {r : Reg} {m : Mem} : Keeps P (boundCheck r m) :=
  .sized fun _ => .bind memGet_keeps fun _ => .bind memGetAt_keeps fun _ => .bind getReg_keeps fun _ =>
    .check (.raise fault_fits)

theorem overflowInterrupt_keeps : Keeps P overflowInterrupt :=
  .get fun _ _ => .ite (fun _ => softInterrupt_keeps) fun _ => .pure

/-! ### The numeric unit -/

theorem escapeGate_keeps {op : BitVec 11} : Keeps P (escapeGate op) :=
  .get fun _ _ => .ite (fun _ => .pure) fun _ => .bind (.check (.raise fault_fits)) fun _ =>
    .bind (.check (.raise fault_fits)) fun _ => .pure

theorem escape_keeps {op : BitVec 11} {work : M Unit} (hw : Keeps P work) : Keeps P (escape op work) :=
  .bind escapeGate_keeps fun _ => .ite (fun _ => .pure) fun _ => .bind hw fun _ => .pure

theorem dummyRead_keeps {m : Mem} : Keeps P (dummyRead m) :=
  .get fun _ _ => .ite (fun _ => .bind memGet_keeps fun _ => .pure) fun _ => .pure

theorem fpuRun_keeps {op : BitVec 11} {bs : List Byte} : Keeps P (fpuRun op bs) := fun _ hs => P.keep hs

theorem fpuOverrun_keeps {r : SReg} {k : AccessKind} {off : Dword} {n : Nat} : Keeps P (fpuOverrun r k off n) :=
  .get fun _ _ => .ite (fun _ => .bind segCheck_keeps fun _ => .pure) fun _ => .pure

theorem fpuMemory_keeps {op : BitVec 11} {m : Mem} {k : AccessKind} {n : Nat} : Keeps P (fpuMemory op m k n) :=
  .get fun _ _ => .bind fpuOverrun_keeps fun _ =>
    .ite (fun _ => .bind fpuRun_keeps fun _ => .modify fun _ hs => P.keep hs) fun _ =>
    .bind access_keeps fun _ => .join (fun compute =>
      .ite (fun _ => .bind readPlaces_keeps compute) fun _ => .bind .pure compute) fun _ =>
    .bind fpuRun_keeps fun _ => .ite (fun _ => writePlaces_keeps) fun _ => .pure

theorem fpuCheck_keeps {op : BitVec 11} {m : Mem} {n : Nat} : Keeps P (fpuCheck op m n) :=
  .get fun _ _ => .bind (untracked_keeps (.bind access_keeps fun _ => .pure)) fun _ => .bind fpuRun_keeps fun _ => .pure

theorem escapeMem_keeps {op reg : BitVec 3} {m : Mem} : Keeps P (escapeMem op reg m) :=
  .get fun _ _ => .ite (fun _ => dummyRead_keeps) fun _ => by
    dsimp only
    split
    · exact fpuCheck_keeps
    all_goals exact fpuMemory_keeps

theorem escapeReg_keeps {op reg n : BitVec 3} : Keeps P (escapeReg op reg n) :=
  .get fun _ _ => .ite (fun _ => .pure) fun _ => .bind fpuRun_keeps fun _ => .pure

theorem withFpuWord_keeps {m : Mem} {work : M Unit} (hw : Keeps P work) : Keeps P (withFpuWord m work) :=
  .get fun _ _ => .ite (fun _ => hw) fun _ => dummyRead_keeps

theorem waitForUnit_keeps : Keeps P waitForUnit :=
  .get fun _ _ => .ite (fun _ => .pure) fun _ => .bind (.check (.raise fault_fits)) fun _ =>
    .bind (.check (.raise fault_fits)) fun _ => .pure

theorem storeStatusAx_keeps : Keeps P storeStatusAx :=
  .get fun _ _ => .ite (fun _ => putReg_keeps) fun _ => .bind freeBits_keeps fun _ => putReg_keeps

theorem loadControl_keeps {m : Mem} : Keeps P (loadControl m) :=
  withFpuWord_keeps (.bind memGet_keeps fun _ => .modify fun _ hs => P.keep hs)

theorem initUnit_keeps : Keeps P initUnit := .modify fun _ hs => by
  split
  · exact P.keep hs
  · exact hs

theorem escapeAny_keeps {op reg : BitVec 3} {rm : EscRm} : Keeps P (escapeAny op reg rm) := by
  cases rm with
  | reg n => exact escape_keeps escapeReg_keeps
  | mem m => exact escape_keeps escapeMem_keeps

/-! ### Shifts, rotates and bits -/

theorem shiftOp_vm {w : Nat} (k : ShiftKind) (f : Flags) (d : BitVec w) (n : Nat) (ovf af : Bool) :
    (shiftOp k f d n ovf af).2.vm = f.vm := by
  unfold shiftOp
  split
  · rfl
  · dsimp only
    split <;> rfl

theorem shiftValue_keeps {w : Nat} {k : ShiftKind} {n : Nat} {a : BitVec w} : Keeps P (shiftValue k n a) :=
  .bind freeBits_keeps fun _ => .get fun _ hs => withFlags_keeps hs (shiftOp_vm ..)

theorem shift8_keeps {k : ShiftKind} {d : Rm8} {count : M Byte} (hc : Keeps P count) : Keeps P (shift8 k d count) :=
  .bind hc fun _ => .get fun _ _ => update8_keeps fun _ => shiftValue_keeps

theorem shiftv_keeps {k : ShiftKind} {d : Rmv} {count : M Byte} (hc : Keeps P count) : Keeps P (shiftv k d count) :=
  .sized fun _ => .bind hc fun _ => .get fun _ _ => updatev_keeps fun _ => shiftValue_keeps

theorem doubleShiftValue_keeps {w : Nat} {left : Bool} {b : BitVec w} {n : Nat} {a : BitVec w} :
    Keeps P (doubleShiftValue left b n a) :=
  .ite (fun _ => .pure) fun _ => .ite
    (fun _ => .bind freeBits_keeps fun _ => .bind setFlags_keeps fun _ => .pure)
    fun _ => .bind freeBits_keeps fun _ => .bind openFlags_keeps fun _ => .pure

theorem doubleShiftv_keeps {left : Bool} {d : Rmv} {r : Reg} {count : M Byte} (hc : Keeps P count) :
    Keeps P (doubleShiftv left d r count) :=
  .sized fun _ => .bind hc fun _ => .bind getReg_keeps fun _ => updatev_keeps fun _ => doubleShiftValue_keeps

theorem bitValue_keeps {w : Nat} {op : BitOp} {k : Nat} {a : BitVec w} : Keeps P (bitValue op k a) :=
  .bind setFlags_keeps fun _ => .pure

theorem bitAtMem_keeps {w : Nat} {op : BitOp} {r : SReg} {off : Dword} {k : Nat} : Keeps P (bitAtMem w op r off k) :=
  .ite (fun _ => .bind readItem_keeps fun _ => .bind bitValue_keeps fun _ => .pure)
    fun _ => updateItem_keeps fun _ => bitValue_keeps

theorem bitImm_keeps {op : BitOp} {d : Rmv} {n : Nat} : Keeps P (bitImm op d n) := .sized fun _ => by
  cases d with
  | reg r => exact updatev_keeps fun _ => bitValue_keeps
  | mem m => exact .get fun _ _ => bitAtMem_keeps

theorem bitReg_keeps {op : BitOp} {d : Rmv} {r : Reg} : Keeps P (bitReg op d r) :=
  .sized fun _ => .bind getReg_keeps fun _ => by
    cases d with
    | reg q => exact updatev_keeps fun _ => bitValue_keeps
    | mem m => exact .get fun _ _ => bitAtMem_keeps

theorem scan_keeps {forward : Bool} {r : Reg} {m : Rmv} : Keeps P (scan forward r m) :=
  .sized fun _ => .bind getv_keeps fun _ => .get fun _ _ => .bind setFlags_keeps fun _ => by
    split
    · exact putReg_keeps
    · exact .pure

/-! ### Strings and decimal arithmetic -/

theorem repeated_keeps {compare : Bool} {one : M Unit} (ho : Keeps P one) : Keeps P (repeated compare one) :=
  .get fun _ _ => by
    split
    · exact .bind ho fun _ => .pure
    · exact .ite (fun _ => .pure) fun _ => .bind ho fun _ => .bind countDown_keeps fun _ => .get fun _ _ => .pure

theorem movsOne_keeps {w : Nat} : Keeps P (movsOne w) :=
  .get fun _ _ => .bind readMem_keeps fun _ => .bind writeMem_keeps fun _ => .bind advance_keeps fun _ => advance_keeps

theorem cmpsOne_keeps {w : Nat} : Keeps P (cmpsOne w) :=
  .get fun _ _ => .bind readMem_keeps fun _ => .bind readMem_keeps fun _ => .bind compareFlags_keeps fun _ =>
    .bind advance_keeps fun _ => advance_keeps

theorem scasOne_keeps {w : Nat} : Keeps P (scasOne w) :=
  .get fun _ _ => .bind readMem_keeps fun _ => .bind compareFlags_keeps fun _ => advance_keeps

theorem lodsOne_keeps {w : Nat} : Keeps P (lodsOne w) :=
  .get fun _ _ => .bind readMem_keeps fun _ => .bind putReg_keeps fun _ => advance_keeps

theorem stosOne_keeps {w : Nat} : Keeps P (stosOne w) := .get fun _ _ => .bind writeMem_keeps fun _ => advance_keeps

theorem insOne_keeps {w : Nat} : Keeps P (insOne w) :=
  .get fun _ _ => .bind ioCheck_keeps fun _ => .bind access_keeps fun _ => .bind ioRead_keeps fun _ =>
    .bind writePlaces_keeps fun _ => advance_keeps

theorem outsOne_keeps {w : Nat} : Keeps P (outsOne w) :=
  .get fun _ _ => .bind ioCheck_keeps fun _ => .bind readMem_keeps fun _ => .bind ioWrite_keeps fun _ => advance_keeps

theorem unpackedAdjust_keeps {add : Bool} : Keeps P (unpackedAdjust add) :=
  .get fun _ _ => .bind freeBits_keeps fun _ => .join (fun set =>
    .ite (fun _ => .bind putReg8_keeps fun _ => .bind putReg8_keeps set) fun _ => set ()) fun _ => setFlags_keeps

theorem packedAdjust_keeps {f : Byte → Bool → Bool → Byte × Bool × Bool} : Keeps P (packedAdjust f) :=
  .get fun _ _ => .bind freeBool_keeps fun _ => .bind putReg8_keeps fun _ => setFlags_keeps

theorem bcdFlags_keeps {al : Byte} : Keeps P (bcdFlags al) := .bind freeBits_keeps fun _ => setFlags_keeps

theorem asciiSplit_keeps {base : Byte} : Keeps P (asciiSplit base) :=
  .bind getReg8_keeps fun _ => .bind (.check (.raise fault_fits)) fun _ => .bind putReg8_keeps fun _ =>
    .bind putReg8_keeps fun _ => bcdFlags_keeps

theorem asciiJoin_keeps {base : Byte} : Keeps P (asciiJoin base) :=
  .bind getReg8_keeps fun _ => .bind getReg8_keeps fun _ => .bind putReg8_keeps fun _ => .bind putReg8_keeps fun _ =>
    bcdFlags_keeps

/-! ### System instructions -/

theorem storeTable_keeps {r : TableReg} {m : Mem} : Keeps P (storeTable r m) :=
  .get fun _ _ => .join (fun store => .ite (fun _ => .bind freeBits_keeps store) fun _ => .bind .pure store) fun _ =>
    writeBytes_keeps

theorem fetchTable_keeps {m : Mem} : Keeps P (fetchTable m) := .get fun _ _ => .bind readBytes_keeps fun _ => .pure

theorem loadLdt_keeps {sel : Word} : Keeps P (loadLdt sel) :=
  .ite (fun _ => .modify fun _ hs => P.keep hs) fun _ => .bind (.check gpSel_keeps) fun _ =>
    .bind (readDescriptor_keeps gpSel_keeps) fun _ => .bind (.check gpSel_keeps) fun _ =>
    .bind (.check faultSel_keeps) fun _ => .modify fun _ hs => P.keep hs

theorem loadTask_keeps {sel : Word} : Keeps P (loadTask sel) :=
  .bind (.check gpSel_keeps) fun _ => .bind (readDescriptor_keeps gpSel_keeps) fun _ => .get fun _ _ =>
    .bind (.check gpSel_keeps) fun _ => .bind (.check faultSel_keeps) fun _ => .bind sysWrite_keeps fun _ =>
    .modify fun _ hs => P.keep hs

theorem peekDescriptor_keeps {sel : Word} : Keeps P (peekDescriptor sel) :=
  .ite (fun _ => .pure) fun _ => .get fun _ _ => by
    split
    · exact .pure
    · exact .bind sysRead_keeps fun _ => .optional (fun _ => markAccessed_keeps) fun _ => .pure

theorem accessRights_keeps {w : Nat} {d : Descriptor} : Keeps P (accessRights w d) :=
  .bind freeBits_keeps fun _ => .pure

theorem selectorOperand_keeps {m : Rmv} : Keeps P (selectorOperand m) := .sized fun _ => .bind getv_keeps fun _ => .pure

theorem inspect_keeps {r : Reg} {m : Rmv} {knows : Nat → Descriptor → Bool}
    {value : (w : Nat) → Descriptor → M (BitVec w)} (hv : ∀ w d, Keeps P (value w d)) :
    Keeps P (inspect r m knows value) :=
  .bind protectedOnly_keeps fun _ => .bind selectorOperand_keeps fun _ => .bind peekDescriptor_keeps fun _ =>
    .get fun _ _ => by
      split
      · exact .sized fun w => .bind (hv w _) fun _ => .bind putReg_keeps fun _ => setFlags_keeps
      · exact setFlags_keeps

theorem verify_keeps {m : Rmv} {allowed : Descriptor → Bool} : Keeps P (verify m allowed) :=
  .bind protectedOnly_keeps fun _ => .bind getv_keeps fun _ => .bind peekDescriptor_keeps fun _ => .get fun _ _ =>
    setFlags_keeps

theorem raiseRpl_keeps {b a : Word} : Keeps P (raiseRpl b a) := .bind setFlags_keeps fun _ => .pure

/-- Bits of DR6 that single step, task switch, general detect and the breakpoints set are state. -/
theorem debugBits_fit : ∀ (bs bt bd : Bool) (b : BitVec 4),
    (bitAt bs 14 ||| bitAt bt 15 ||| bitAt bd 13 ||| b.setWidth 32) &&& ~~~dr6Mask = 0 := by decide

theorem debugGuard_keeps : Keeps P debugGuard := .get fun s _ => .ite (fun _ => .bind freeBits_keeps fun _ =>
  .raise ⟨debugBits_fit false false true _, by simp [Exn.fault]⟩) fun _ => .pure

theorem withOpenBits_keeps {mask v : Dword} : Keeps P (withOpenBits mask v) := .bind freeBits_keeps fun _ => .pure

theorem specialAccess_keeps {known : Bool} : Keeps P (specialAccess known) :=
  .bind (.check undefinedOpcode_keeps) fun _ => privileged_keeps

theorem readDr_keeps {n : BitVec 3} : Keeps P (readDr n) := .get fun _ _ => by
  split
  case h_5 | h_6 => exact withOpenBits_keeps
  all_goals exact .pure

theorem enableInterrupts_keeps : Keeps P enableInterrupts :=
  .bind ioplSensitive_keeps fun _ => .modify fun _ hs => P.sameVm hs hs rfl

theorem invlpgAllowed_keeps : Keeps P invlpgAllowed :=
  .get fun _ _ => .bind (.check undefinedOpcode_keeps) fun _ => privileged_keeps

end Sys2Proof.Machine
end

section
/-! PROOFS. Every instruction but the loads of system registers keeps every lasting property. -/
-- One declaration after the other: many proofs at once take more thread stacks than the memory limit allows.
set_option Elab.async false
namespace Sys2Proof.Machine
variable {P : Lasting} {s t u : State}

/-- The instructions that load a system register the shared operations do not. -/
def loadsSystem : Instr → Bool
  | .lgdtM _ | .lidtM _ | .lmswRm16 _ | .movCRnR32 _ _ | .movDRnR32 _ _ | .movTRnR32 _ _ => true
  | _ => false

/-- EVERY INSTRUCTION but those keeps every lasting property: each runs an effect that keeps it. -/
theorem exec_lands {i : Instr} (hP : P.AnyStep) (hi : loadsSystem i = false) (hs : P.holds s) :
    Lands P (exec i s) := by
  cases i with
  | addRm8R8 | orRm8R8 | adcRm8R8 | sbbRm8R8 | andRm8R8 | subRm8R8 | xorRm8R8 =>
    exact run_lands hP (alu8_keeps getReg8_keeps) hs
  | addRmvRv | orRmvRv | adcRmvRv | sbbRmvRv | andRmvRv | subRmvRv | xorRmvRv =>
    exact run_lands hP (aluv_keeps regSrc_keeps) hs
  | addR8Rm8 | orR8Rm8 | adcR8Rm8 | sbbR8Rm8 | andR8Rm8 | subR8Rm8 | xorR8Rm8 =>
    exact run_lands hP (alu8_keeps get8_keeps) hs
  | addRvRmv | orRvRmv | adcRvRmv | sbbRvRmv | andRvRmv | subRvRmv | xorRvRmv =>
    exact run_lands hP (aluv_keeps rmSrc_keeps) hs
  | addAlImm8 | orAlImm8 | adcAlImm8 | sbbAlImm8 | andAlImm8 | subAlImm8 | xorAlImm8 | addRm8Imm8
    | addRm8Imm8Alias82 | orRm8Imm8 | orRm8Imm8Alias82 | adcRm8Imm8 | adcRm8Imm8Alias82 | sbbRm8Imm8
    | sbbRm8Imm8Alias82 | andRm8Imm8 | andRm8Imm8Alias82 | subRm8Imm8 | subRm8Imm8Alias82 | xorRm8Imm8
    | xorRm8Imm8Alias82 => exact run_lands hP (alu8_keeps .pure) hs
  | addEaxImmv | orEaxImmv | adcEaxImmv | sbbEaxImmv | andEaxImmv | subEaxImmv | xorEaxImmv | addRmvImmv | orRmvImmv
    | adcRmvImmv | sbbRmvImmv | andRmvImmv | subRmvImmv | xorRmvImmv =>
    exact run_lands hP (aluv_keeps immSrc_keeps) hs
  | addRmvImm8s | orRmvImm8s | adcRmvImm8s | sbbRmvImm8s | andRmvImm8s | subRmvImm8s | xorRmvImm8s =>
    exact run_lands hP (aluv_keeps immSrc8_keeps) hs
  | cmpRm8R8 => exact run_lands hP (cmp8_keeps getReg8_keeps) hs
  | cmpRmvRv => exact run_lands hP (cmpv_keeps regSrc_keeps) hs
  | cmpR8Rm8 => exact run_lands hP (cmp8_keeps get8_keeps) hs
  | cmpRvRmv => exact run_lands hP (cmpv_keeps rmSrc_keeps) hs
  | cmpAlImm8 | cmpRm8Imm8 | cmpRm8Imm8Alias82 => exact run_lands hP (cmp8_keeps .pure) hs
  | cmpEaxImmv | cmpRmvImmv => exact run_lands hP (cmpv_keeps immSrc_keeps) hs
  | cmpRmvImm8s => exact run_lands hP (cmpv_keeps immSrc8_keeps) hs
  | pushEs | pushCs | pushSs | pushDs | pushFs | pushGs => exact run_lands hP pushSeg_keeps hs
  | popEs | popSs | popDs | popFs | popGs => exact runEnding_lands hP popSeg_keeps hs
  | prefixEs | prefixCs | prefixSs | prefixDs | prefixFs | prefixGs | prefixOperandSize | prefixAddressSize
    | prefixLock | prefixRepne | prefixRep => exact lands_next (P.keep hs)
  | daa | das => exact run_lands hP packedAdjust_keeps hs
  | aaa | aas => exact run_lands hP unpackedAdjust_keeps hs
  | incRv | decRv | notRmv | negRmv | incRmv | decRmv => exact run_lands hP unaryv_keeps hs
  | pushRv => exact run_lands hP pushReg_keeps hs
  | popRv => exact run_lands hP popReg_keeps hs
  | pusha => exact run_lands hP pushAllRegs_keeps hs
  | popa => exact run_lands hP popAllRegs_keeps hs
  | boundRvM => exact run_lands hP boundCheck_keeps hs
  | arplRm16R16 =>
    exact run_lands hP (.bind protectedOnly_keeps fun _ => .bind getReg_keeps fun _ => updatev_keeps fun _ =>
      raiseRpl_keeps) hs
  | pushImmv | pushImm8s => exact run_lands hP (.sized fun _ => push_keeps) hs
  | imulRvRmvImmv | imulRvRmvImm8s => exact run_lands hP imul3_keeps hs
  | insb => exact runEnding_lands hP (repeated_keeps insOne_keeps) hs
  | insv => exact runEnding_lands hP (repeated_keeps (.sized fun _ => insOne_keeps)) hs
  | outsb => exact runEnding_lands hP (repeated_keeps outsOne_keeps) hs
  | outsv => exact runEnding_lands hP (repeated_keeps (.sized fun _ => outsOne_keeps)) hs
  | joRel8 | jnoRel8 | jbRel8 | jaeRel8 | jeRel8 | jneRel8 | jbeRel8 | jaRel8 | jsRel8 | jnsRel8 | jpRel8 | jnpRel8
    | jlRel8 | jgeRel8 | jleRel8 | jgRel8 | joRelv | jnoRelv | jbRelv | jaeRelv | jeRelv | jneRelv | jbeRelv
    | jaRelv | jsRelv | jnsRelv | jpRelv | jnpRelv | jlRelv | jgeRelv | jleRelv | jgRelv =>
    exact run_lands hP jumpIf_keeps hs
  | testRm8R8 => exact run_lands hP (test8_keeps getReg8_keeps) hs
  | testRmvRv => exact run_lands hP (testv_keeps regSrc_keeps) hs
  | xchgRm8R8 => exact run_lands hP exchange8_keeps hs
  | xchgRmvRv | xchgEaxRv => exact run_lands hP exchangev_keeps hs
  | movRm8R8 => exact run_lands hP (mov8_keeps getReg8_keeps) hs
  | movRmvRv => exact run_lands hP (movv_keeps regSrc_keeps) hs
  | movR8Rm8 => exact run_lands hP (mov8_keeps get8_keeps) hs
  | movRvRmv => exact run_lands hP (movv_keeps rmSrc_keeps) hs
  | movRm16Sreg => exact run_lands hP movFromSeg_keeps hs
  | leaRvM => exact run_lands hP loadAddress_keeps hs
  | movSregRm16 => exact runEnding_lands hP movToSeg_keeps hs
  | popMv => exact run_lands hP popRm_keeps hs
  | nop => exact run_lands hP .pure hs
  | cbw => exact run_lands hP convertByte_keeps hs
  | cwd => exact run_lands hP convertWord_keeps hs
  | callPtr16v | jmpPtr16v => exact runEnding_lands hP farTransfer_keeps hs
  | wait => exact runEnding_lands hP waitForUnit_keeps hs
  | pushf => exact run_lands hP pushFlags_keeps hs
  | popf => exact run_lands hP popFlags_keeps hs
  | sahf => exact run_lands hP storeAh_keeps hs
  | lahf => exact run_lands hP loadAh_keeps hs
  | movAlMoffs8 => exact run_lands hP loadDirect8_keeps hs
  | movEaxMoffsv => exact run_lands hP loadDirectv_keeps hs
  | movMoffs8Al => exact run_lands hP storeDirect8_keeps hs
  | movMoffsvEax => exact run_lands hP storeDirectv_keeps hs
  | movsb => exact runEnding_lands hP (repeated_keeps movsOne_keeps) hs
  | movsv => exact runEnding_lands hP (repeated_keeps (.sized fun _ => movsOne_keeps)) hs
  | cmpsb => exact runEnding_lands hP (repeated_keeps cmpsOne_keeps) hs
  | cmpsv => exact runEnding_lands hP (repeated_keeps (.sized fun _ => cmpsOne_keeps)) hs
  | testAlImm8 | testRm8Imm8 => exact run_lands hP (test8_keeps .pure) hs
  | testEaxImmv | testRmvImmv => exact run_lands hP (testv_keeps immSrc_keeps) hs
  | stosb => exact runEnding_lands hP (repeated_keeps stosOne_keeps) hs
  | stosv => exact runEnding_lands hP (repeated_keeps (.sized fun _ => stosOne_keeps)) hs
  | lodsb => exact runEnding_lands hP (repeated_keeps lodsOne_keeps) hs
  | lodsv => exact runEnding_lands hP (repeated_keeps (.sized fun _ => lodsOne_keeps)) hs
  | scasb => exact runEnding_lands hP (repeated_keeps scasOne_keeps) hs
  | scasv => exact runEnding_lands hP (repeated_keeps (.sized fun _ => scasOne_keeps)) hs
  | movR8Imm8 | movRm8Imm8 => exact run_lands hP (mov8_keeps .pure) hs
  | movRvImmv | movRmvImmv => exact run_lands hP (movv_keeps immSrc_keeps) hs
  | rolRm8Imm8 | rorRm8Imm8 | rclRm8Imm8 | rcrRm8Imm8 | shlRm8Imm8 | shrRm8Imm8 | sarRm8Imm8 | rolRm8One | rorRm8One
    | rclRm8One | rcrRm8One | shlRm8One | shrRm8One | sarRm8One => exact run_lands hP (shift8_keeps .pure) hs
  | rolRmvImm8 | rorRmvImm8 | rclRmvImm8 | rcrRmvImm8 | shlRmvImm8 | shrRmvImm8 | sarRmvImm8 | rolRmvOne | rorRmvOne
    | rclRmvOne | rcrRmvOne | shlRmvOne | shrRmvOne | sarRmvOne => exact run_lands hP (shiftv_keeps .pure) hs
  | rolRm8Cl | rorRm8Cl | rclRm8Cl | rcrRm8Cl | shlRm8Cl | shrRm8Cl | sarRm8Cl =>
    exact run_lands hP (shift8_keeps getReg8_keeps) hs
  | rolRmvCl | rorRmvCl | rclRmvCl | rcrRmvCl | shlRmvCl | shrRmvCl | sarRmvCl =>
    exact run_lands hP (shiftv_keeps getReg8_keeps) hs
  | retImm16 | ret => exact run_lands hP returnNear_keeps hs
  | lesRvM16v | ldsRvM16v | lssRvM16v | lfsRvM16v | lgsRvM16v => exact run_lands hP loadPointer_keeps hs
  | enterImm16Imm8 => exact run_lands hP enterFrame_keeps hs
  | leave => exact run_lands hP leaveFrame_keeps hs
  | retfImm16 | retf => exact run_lands hP returnFar_keeps hs
  | int3 => exact runEnding_lands hP softInterrupt_keeps hs
  | intImm8 => exact runEnding_lands hP (.bind v86Sensitive_keeps fun _ => softInterrupt_keeps) hs
  | into => exact runEnding_lands hP overflowInterrupt_keeps hs
  | iret => exact runEnding_lands hP iretAny_keeps hs
  | aam => exact run_lands hP asciiSplit_keeps hs
  | aad => exact run_lands hP asciiJoin_keeps hs
  | xlat => exact run_lands hP translateByte_keeps hs
  | esc => exact runEnding_lands hP escapeAny_keeps hs
  | fninit => exact runEnding_lands hP (escape_keeps initUnit_keeps) hs
  | fnstswAx => exact runEnding_lands hP (escape_keeps storeStatusAx_keeps) hs
  | fnstswM16 | fnstcwM16 =>
    exact runEnding_lands hP (escape_keeps (withFpuWord_keeps (.get fun _ _ => memPut_keeps))) hs
  | fldcwM16 => exact runEnding_lands hP (escape_keeps loadControl_keeps) hs
  | loopneRel8 | loopeRel8 | loopRel8 => exact run_lands hP loopIf_keeps hs
  | jcxzRel8 => exact run_lands hP (.get fun _ _ => .ite (fun _ => jumpRel_keeps) fun _ => .pure) hs
  | inAlImm8 => exact run_lands hP inPort_keeps hs
  | inEaxImm8 => exact run_lands hP (.sized fun _ => inPort_keeps) hs
  | outImm8Al => exact run_lands hP outPort_keeps hs
  | outImm8Eax => exact run_lands hP (.sized fun _ => outPort_keeps) hs
  | callRelv => exact run_lands hP (.get fun _ _ => callNear_keeps) hs
  | jmpRelv | jmpRel8 => exact run_lands hP jumpRel_keeps hs
  | inAlDx => exact run_lands hP (.get fun _ _ => inPort_keeps) hs
  | inEaxDx => exact run_lands hP (.sized fun _ => .get fun _ _ => inPort_keeps) hs
  | outDxAl => exact run_lands hP (.get fun _ _ => outPort_keeps) hs
  | outDxEax => exact run_lands hP (.sized fun _ => .get fun _ _ => outPort_keeps) hs
  | hlt | invd | wbinvd => exact run_lands hP (.bind privileged_keeps fun _ => .modify fun _ h => P.keep h) hs
  | cmc | clc | stc | cld | std => exact run_lands hP setFlags_keeps hs
  | notRm8 | negRm8 | incRm8 | decRm8 => exact run_lands hP unary8_keeps hs
  | mulRm8 | imulRm8 => exact run_lands hP mulAl_keeps hs
  | mulRmv | imulRmv => exact run_lands hP mulEax_keeps hs
  | divRm8 | idivRm8 => exact run_lands hP divAx_keeps hs
  | divRmv | idivRmv => exact run_lands hP divEax_keeps hs
  | cli => exact run_lands hP (.bind ioplSensitive_keeps fun _ => setFlags_keeps) hs
  | sti => exact run_lands hP enableInterrupts_keeps hs
  | callRmv => exact run_lands hP (.bind targetOperand_keeps fun _ => callNear_keeps) hs
  | callM16v | jmpM16v => exact runEnding_lands hP farIndirect_keeps hs
  | jmpRmv => exact run_lands hP (.bind targetOperand_keeps fun _ => jumpNear_keeps) hs
  | pushMv => exact run_lands hP pushRm_keeps hs
  | sldtRm16 | strRm16 => exact run_lands hP (.bind protectedOnly_keeps fun _ => .get fun _ _ => put16_keeps) hs
  | lldtRm16 =>
    exact run_lands hP (.bind protectedOnly_keeps fun _ => .bind privileged_keeps fun _ => .bind getv_keeps fun _ =>
      loadLdt_keeps) hs
  | ltrRm16 =>
    exact run_lands hP (.bind protectedOnly_keeps fun _ => .bind privileged_keeps fun _ => .bind getv_keeps fun _ =>
      loadTask_keeps) hs
  | verrRm16 | verwRm16 => exact run_lands hP verify_keeps hs
  | sgdtM | sidtM => exact run_lands hP (.get fun _ _ => storeTable_keeps) hs
  | smswRm16 => exact run_lands hP (.get fun _ _ => put16_keeps) hs
  | invlpgM => exact run_lands hP (.bind invlpgAllowed_keeps fun _ => .modify fun _ h => P.keep h) hs
  | larRvRmv => exact run_lands hP (inspect_keeps fun _ _ => accessRights_keeps) hs
  | lslRvRmv => exact run_lands hP (inspect_keeps fun _ _ => .get fun _ _ => .pure) hs
  | clts => exact run_lands hP (.bind privileged_keeps fun _ => .modify fun _ h => P.ts false h) hs
  | movR32CRn => exact run_lands hP (.bind specialAccess_keeps fun _ => .get fun _ _ => putReg_keeps) hs
  | movR32DRn =>
    exact run_lands hP (.bind specialAccess_keeps fun _ => .bind debugGuard_keeps fun _ => .bind readDr_keeps fun _
      => putReg_keeps) hs
  | movR32TRn =>
    exact run_lands hP (.get fun _ _ => .bind specialAccess_keeps fun _ => .get fun _ _ => putReg_keeps) hs
  | setoRm8 | setnoRm8 | setbRm8 | setaeRm8 | seteRm8 | setneRm8 | setbeRm8 | setaRm8 | setsRm8 | setnsRm8 | setpRm8
    | setnpRm8 | setlRm8 | setgeRm8 | setleRm8 | setgRm8 => exact run_lands hP setIf_keeps hs
  | btRmvRv | btsRmvRv | btrRmvRv | btcRmvRv => exact run_lands hP bitReg_keeps hs
  | btRmvImm8 | btsRmvImm8 | btrRmvImm8 | btcRmvImm8 => exact run_lands hP bitImm_keeps hs
  | shldRmvRvImm8 | shrdRmvRvImm8 => exact run_lands hP (doubleShiftv_keeps .pure) hs
  | shldRmvRvCl | shrdRmvRvCl => exact run_lands hP (doubleShiftv_keeps getReg8_keeps) hs
  | imulRvRmv => exact run_lands hP imul2_keeps hs
  | movzxRvRm8 | movsxRvRm8 => exact run_lands hP (.bind get8_keeps fun _ => extendTo_keeps) hs
  | movzxR32Rm16 | movsxR32Rm16 => exact run_lands hP (.bind getv_keeps fun _ => extendTo_keeps) hs
  | bsfRvRmv | bsrRvRmv => exact run_lands hP scan_keeps hs
  | cmpxchgRm8R8 => exact run_lands hP (update8_keeps (compareExchange_keeps getReg8_keeps)) hs
  | cmpxchgRmvRv => exact run_lands hP (.sized fun _ => updatev_keeps (compareExchange_keeps getReg_keeps)) hs
  | xaddRm8R8 => exact run_lands hP exchangeAdd8_keeps hs
  | xaddRmvRv => exact run_lands hP exchangeAddv_keeps hs
  | bswapR32 => exact run_lands hP swapReg_keeps hs
  | lgdtM | lidtM | lmswRm16 | movCRnR32 | movDRnR32 | movTRnR32 => exact absurd hi (by simp [loadsSystem])

end Sys2Proof.Machine
end

section
/-! PROOFS. What every step keeps: the invariant as a lasting property, and the instructions that load a system
register. -/
-- One declaration after the other: many proofs at once take more thread stacks than the memory limit allows.
set_option Elab.async false
namespace Sys2Proof.Machine

variable {s t u : State} {c : Config} {pe : Bool}

/-! ### The invariant is a lasting property -/

theorem inv_iff (s : State) :
    s.inv = true ↔ s.memoryOk = true ∧ s.cr0Ok = true ∧ s.vmOk = true ∧ s.debugOk = true := by
  simp only [State.inv, Bool.and_eq_true, and_assoc]

theorem vmOk_iff (s : State) : s.vmOk = true ↔ (s.flags.vm = true → s.cr0.pe = true) := by
  cases h : s.flags.vm <;> simp [State.vmOk, h]

theorem debugOk_iff (s : State) : s.debugOk = true ↔ s.dr6 &&& ~~~dr6Mask = 0 ∧ s.dr7 &&& ~~~dr7Mask = 0 := by
  simp [State.debugOk]

/-- The invariant speaks of watched parts. -/
theorem inv_congr (h : t.watched = s.watched) : t.inv = s.inv := by
  simp only [State.watched, Prod.mk.injEq] at h
  obtain ⟨hcfg, hmem, hvm, hcr0, -, -, ⟨hdr6, hdr7⟩, -⟩ := h
  unfold State.inv State.memoryOk State.cr0Ok State.vmOk State.debugOk State.level
  rw [hcfg, hmem, hvm, hcr0, hdr6, hdr7]

/-- The invariant with the flag VM set anew. -/
theorem inv_withVm (vm : Bool) (hs : s.inv = true) (hv : vm = true → s.cr0.pe = true) :
    ({ s with flags := { s.flags with vm := vm } } : State).inv = true := by
  obtain ⟨mem, cr0, -, debug⟩ := (inv_iff s).1 hs
  exact (inv_iff _).2 ⟨mem, cr0, (vmOk_iff _).2 hv, debug⟩

theorem inv_vm (hs : s.inv = true) : s.flags.vm = true → s.cr0.pe = true :=
  (vmOk_iff s).1 ((inv_iff s).1 hs).2.2.1

/-- The invariant with DR6 and DR7 set anew. -/
theorem inv_withDebug {d6 d7 : Dword} (hs : s.inv = true) (h6 : d6 &&& ~~~dr6Mask = 0) (h7 : d7 &&& ~~~dr7Mask = 0) :
    ({ s with dr6 := d6, dr7 := d7 } : State).inv = true := by
  obtain ⟨mem, cr0, vm, -⟩ := (inv_iff s).1 hs
  exact (inv_iff _).2 ⟨mem, cr0, vm, (debugOk_iff _).2 ⟨h6, h7⟩⟩

theorem inv_debug (hs : s.inv = true) : s.dr6 &&& ~~~dr6Mask = 0 ∧ s.dr7 &&& ~~~dr7Mask = 0 :=
  (debugOk_iff s).1 ((inv_iff s).1 hs).2.2.2

theorem or_masked {a b m : Dword} (ha : a &&& m = 0) (hb : b &&& m = 0) : (a ||| b) &&& m = 0 := by
  have split : (a ||| b) &&& m = (a &&& m) ||| (b &&& m) := by
    ext i
    simp [Bool.and_or_distrib_right]
  simp [split, ha, hb]

theorem and_masked {a m : Dword} (b : Dword) (ha : a &&& m = 0) : (a &&& b) &&& m = 0 := by
  rw [BitVec.and_assoc, BitVec.and_comm b m, ← BitVec.and_assoc, ha]
  exact BitVec.zero_and

theorem and_mask_masked (a m : Dword) : (a &&& m) &&& ~~~m = 0 := by
  rw [BitVec.and_assoc, BitVec.and_not_self]
  exact BitVec.and_zero

/-- The invariant, for a machine with the parameters `c`, as long as PE is `pe`. -/
def legal (c : Config) (pe : Bool) : Lasting where
  holds s := s.inv = true ∧ s.cfg = c ∧ s.cr0.pe = pe
  same h := by
    rintro ⟨hi, hc, hp⟩
    refine ⟨(inv_congr h).trans hi, ?_, ?_⟩
    · rw [← hc]; exact congrArg (·.1) h
    · rw [← hp]; exact congrArg (·.2.2.2.1.pe) h
  store a v := by
    rintro ⟨hi, hc, hp⟩
    obtain ⟨mem, cr0, vm, debug⟩ := (inv_iff _).1 hi
    exact ⟨(inv_iff _).2 ⟨Memory.wf_write mem a v, cr0, vm, debug⟩, hc, hp⟩
  vmOff := by
    rintro s ⟨hi, hc, hp⟩
    exact ⟨inv_withVm false hi (by simp), hc, hp⟩
  vmOf := by
    rintro s t ⟨si, -, sp⟩ ⟨ti, tc, tp⟩
    exact ⟨inv_withVm _ ti fun h => by rw [tp, ← sp]; exact inv_vm si h, tc, tp⟩
  vmAny vm := by
    rintro ⟨-, -, sp⟩ on ⟨ti, tc, tp⟩
    exact ⟨inv_withVm vm ti fun _ => by rw [tp, ← sp, on], tc, tp⟩
  ts _ h := h
  dr6 := by
    rintro s d hd ⟨hi, hc, hp⟩
    exact ⟨inv_withDebug hi (or_masked (inv_debug hi).1 hd) (inv_debug hi).2, hc, hp⟩
  dr7 := by
    rintro s d ⟨hi, hc, hp⟩
    exact ⟨inv_withDebug hi (inv_debug hi).1 (and_masked d (inv_debug hi).2), hc, hp⟩
  stepOf _ ht := ht

theorem legal_anyStep : (legal c pe).AnyStep := fun _ _ hs => hs

/-! ### The instructions that load a system register -/

/-- After a privilege check VM is clear. -/
theorem specialAccess_ends {known : Bool} (hs : (legal c pe).holds s) :
    Ends (legal c pe) (fun t => (legal c pe).holds t ∧ t.flags.vm = false) (specialAccess known s) := by
  refine Ends.bind (Keeps.check undefinedOpcode_keeps s hs) fun _ t ht => ?_
  unfold privileged
  rw [get_bind_apply]
  unfold check
  split
  · next level =>
    refine ⟨ht, Bool.eq_false_iff.2 fun vm => ?_⟩
    simp [State.cpl, vm, inv_vm ht.1 vm] at level
  · exact fault_fits (vec := 13) (err := some 0)

/-- A state with the invariant, whatever PE is. -/
def LegalFor (c : Config) (s : State) : Prop := s.inv = true ∧ s.cfg = c

theorem LegalFor.of_legal (hs : (legal c pe).holds s) : LegalFor c s := ⟨hs.1, hs.2.1⟩

theorem LegalFor.legal (hs : LegalFor c s) : (legal c s.cr0.pe).holds s := ⟨hs.1, hs.2, rfl⟩

/-- The invariant with CR0 set anew. -/
theorem inv_withCr0 {c0 : Cr0} (hs : s.inv = true) (hc : ({ s with cr0 := c0 } : State).cr0Ok = true)
    (hv : s.flags.vm = true → c0.pe = true) : ({ s with cr0 := c0 } : State).inv = true := by
  obtain ⟨mem, -, -, debug⟩ := (inv_iff s).1 hs
  exact (inv_iff _).2 ⟨mem, hc, (vmOk_iff _).2 hv, debug⟩

theorem cr0Ok_load {v : Dword} (hs : s.cr0Ok = true)
    (hg : (!(s.cr0.load s.level v).pg || (s.cr0.load s.level v).pe) = true)
    (hw : (!(s.cr0.load s.level v).nw || (s.cr0.load s.level v).cd) = true) :
    ({ s with cr0 := s.cr0.load s.level v } : State).cr0Ok = true := by
  unfold State.cr0Ok at hs ⊢
  simp only [State.level] at hs ⊢ hg hw
  rw [hg, hw]
  by_cases h4 : s.cfg.cpu.level = 4
  · simp_all [Cr0.load]
  · simp_all [Cr0.load]
    grind

theorem cr0Ok_loadMsw {v : Word} (hs : s.cr0Ok = true) : ({ s with cr0 := s.cr0.loadMsw v } : State).cr0Ok = true := by
  unfold State.cr0Ok at hs ⊢
  simp_all [Cr0.loadMsw, State.level]
  grind

theorem finish_legalFor {e : Ending} (hs : LegalFor c s) (ht : LegalFor c t) : LegalFor c (finish s t e) := by
  cases e with
  | waiting => exact .of_legal ((legal c s.cr0.pe).keep hs.legal)
  | done | again | noStep | loadedRf | interrupted => exact .of_legal (finish_holds legal_anyStep nofun ht.legal)

/-- An instruction that may change PE keeps the invariant, when its effect does. -/
theorem run_legalFor {body : M Unit} (hs : (legal c pe).holds s)
    (hb : ∀ t, (legal c pe).holds t → Ends (legal c pe) (LegalFor c) (body t)) (h : run false body s = .next u) :
    LegalFor c u := by
  have hbegin : (legal c pe).holds s.begin := (legal c pe).keep hs
  have ends := Ends.bind (lockCheck_keeps (l := false) s.begin hbegin) fun _ t ht =>
    Ends.bind (hb t ht) fun _ w hw => (show Ends (legal c pe) (LegalFor c) ((pure .done : M Ending) w) from hw)
  rcases runEnding_next h with ⟨e, t, ok, rfl⟩ | ⟨e, raised, delivered⟩ | ⟨-, rfl⟩
  · rw [ok] at ends
    exact finish_legalFor (.of_legal hs) ends
  · rw [raised] at ends
    exact .of_legal (deliverExn_lands ends hs u delivered)
  · exact .of_legal (shutDown_holds hs)

theorem execLmsw_legalFor {d : Rmv} (hs : (legal c pe).holds s) (h : exec (.lmswRm16 d) s = .next u) :
    LegalFor c u := by
  refine run_legalFor hs (fun t ht => ?_) h
  refine Ends.bind (privileged_keeps t ht) fun _ t ht => Ends.bind (getv_keeps t ht) fun v t ht => ?_
  exact ⟨inv_withCr0 ht.1 (cr0Ok_loadMsw ((inv_iff t).1 ht.1).2.1) fun vm => by
    simp [Cr0.loadMsw, inv_vm ht.1 vm], ht.2.1⟩

theorem writeCr0_ends {v : Dword} (hs : (legal c pe).holds s) (hv : s.flags.vm = false) :
    Ends (legal c pe) (LegalFor c) (writeCr0 v s) := by
  unfold writeCr0
  rw [get_bind_apply]
  unfold check
  split
  · next paging =>
    rw [bind_ok (pure_apply () s)]
    split
    · next write =>
      exact ⟨inv_withCr0 hs.1 (cr0Ok_load ((inv_iff s).1 hs.1).2.1 paging write) (by simp [hv]), hs.2.1⟩
    · exact fault_fits (vec := 13) (err := some 0)
  · exact fault_fits (vec := 13) (err := some 0)

theorem execMovCr_legalFor {n : BitVec 3} {r : Reg} (hs : (legal c pe).holds s)
    (h : exec (.movCRnR32 n r) s = .next u) : LegalFor c u := by
  refine run_legalFor hs (fun t ht => ?_) h
  refine Ends.bind (specialAccess_ends ht) fun _ t ⟨ht, hv⟩ => ?_
  rw [bind_ok (getReg_apply 32 r t)]
  unfold writeCr
  split
  · exact writeCr0_ends ht hv
  · split
    · exact .of_legal ((legal c pe).keep ht)
    · exact .of_legal ((legal c pe).keep ht)

theorem writeDr_holds {n : BitVec 3} {v : Dword} (hs : (legal c pe).holds s) :
    (legal c pe).holds (s.writeDr n v) := by
  obtain ⟨hi, hc, hp⟩ := hs
  obtain ⟨h6, h7⟩ := inv_debug hi
  unfold State.writeDr
  split
  case h_5 => exact ⟨inv_withDebug hi (and_mask_masked v dr6Mask) h7, hc, hp⟩
  case h_6 => exact ⟨inv_withDebug hi h6 (and_mask_masked v dr7Mask), hc, hp⟩
  all_goals exact ⟨hi, hc, hp⟩

theorem testAttr_keeps {P : Lasting} {x x' : Bool} : Keeps P (testAttr x x') :=
  .ite (fun _ => .pure) fun _ => freeBool_keeps

theorem tlbTestWrite_keeps {P : Lasting} {k d : Dword} : Keeps P (tlbTestWrite k d) :=
  .get fun _ hs => .bind testAttr_keeps fun _ => .bind testAttr_keeps fun _ => .bind testAttr_keeps fun _ =>
    .ite (fun _ => .set (P.keep hs)) fun _ => .ite (fun _ => .set (P.keep hs)) fun _ => .bind freeBool_keeps fun some =>
      .bind freeBelow_keeps fun _ => .modify fun _ ht => by
        cases some with
        | false => exact ht
        | true => exact P.keep ht

theorem cacheCommand_keeps {P : Lasting} {v : Dword} : Keeps P (cacheCommand v) := .get fun _ hs => by
  dsimp only
  split
  · exact .pure
  · exact .set (P.keep hs)
  · exact .bind freeBool_keeps fun _ => .bind freeBool_keeps fun _ => .modify fun _ ht => P.keep ht
  · exact .modify fun _ ht => P.keep ht

/-- The test registers TR6 and TR7 are watched, but the invariant does not speak of them. -/
theorem legal_withTr (hs : (legal c pe).holds s) (x6 x7 : Dword) :
    (legal c pe).holds { s with tr6 := x6, tr7 := x7 } := hs

theorem tlbTestLookup_keeps {k : Dword} : Keeps (legal c pe) (tlbTestLookup k) := .get fun _ _ =>
  .bind freeBool_keeps fun _ => by
    split
    · exact .modify fun _ ht => legal_withTr ((legal c pe).keep ht) _ _
    · exact .bind freeBits_keeps fun _ => .modify fun _ ht => legal_withTr ht _ _

theorem writeTr_keeps {n : BitVec 3} {v : Dword} : Keeps (legal c pe) (writeTr n v) := by
  unfold writeTr
  split
  · exact .modify fun s hs => (legal c pe).keep hs (by unfold State.writeTr3; split <;> rfl)
  · exact .modify fun s hs => (legal c pe).keep hs
  · exact .get fun s hs => .ite (fun _ => .bind (.set ((legal c pe).keep hs)) fun _ => cacheCommand_keeps)
      fun _ => .set ((legal c pe).keep hs)
  · exact .bind (.modify fun s hs => legal_withTr hs _ _) fun _ => .get fun _ _ =>
      .ite (fun _ => tlbTestLookup_keeps) fun _ => tlbTestWrite_keeps
  · exact .modify fun s hs => legal_withTr hs _ _

theorem execLgdt_lands {m : Mem} (hs : (legal c pe).holds s) : Lands (legal c pe) (exec (.lgdtM m) s) :=
  run_lands legal_anyStep (.bind privileged_keeps fun _ => .bind fetchTable_keeps fun _ => .modify fun _ ht => ht) hs

theorem execLidt_lands {m : Mem} (hs : (legal c pe).holds s) : Lands (legal c pe) (exec (.lidtM m) s) :=
  run_lands legal_anyStep (.bind privileged_keeps fun _ => .bind fetchTable_keeps fun _ => .modify fun _ ht => ht) hs

theorem execMovDr_lands {n : BitVec 3} {r : Reg} (hs : (legal c pe).holds s) :
    Lands (legal c pe) (exec (.movDRnR32 n r) s) :=
  run_lands legal_anyStep (.bind specialAccess_keeps fun _ => .bind debugGuard_keeps fun _ =>
    .bind getReg_keeps fun _ => .modify fun _ ht => writeDr_holds ht) hs

theorem execMovTr_lands {n : BitVec 3} {r : Reg} (hs : (legal c pe).holds s) :
    Lands (legal c pe) (exec (.movTRnR32 n r) s) :=
  run_lands legal_anyStep (.get fun _ _ => .bind specialAccess_keeps fun _ => .bind getReg_keeps fun _ =>
    writeTr_keeps) hs

/-- EVERY INSTRUCTION keeps the invariant and the parameters. -/
theorem exec_legalFor {i : Instr} (hs : (legal c pe).holds s) (h : exec i s = .next u) : LegalFor c u := by
  cases hi : loadsSystem i with
  | false => exact .of_legal (exec_lands legal_anyStep hi hs u h)
  | true =>
    cases i with
    | lmswRm16 => exact execLmsw_legalFor hs h
    | movCRnR32 => exact execMovCr_legalFor hs h
    | lgdtM => exact .of_legal (execLgdt_lands hs u h)
    | lidtM => exact .of_legal (execLidt_lands hs u h)
    | movDRnR32 => exact .of_legal (execMovDr_lands hs u h)
    | movTRnR32 => exact .of_legal (execMovTr_lands hs u h)
    | _ => cases hi

end Sys2Proof.Machine
end

section
/-! PROOFS. Fetching and the events between instructions keep every lasting property; a step keeps the invariant. -/
-- One declaration after the other: many proofs at once take more thread stacks than the memory limit allows.
set_option Elab.async false
namespace Sys2Proof.Machine

variable {P : Lasting} {s t u : State}

/-! ### Fetching -/

theorem breakBits_fit (b : BitVec 4) : b.setWidth 32 &&& ~~~dr6Mask = 0 := by
  simpa [bitAt] using debugBits_fit false false false b

theorem instrBreak_keeps : Keeps P instrBreak :=
  .get fun s _ => .ite (fun _ => .bind freeBits_keeps fun _ => .raise
    ⟨breakBits_fit _, by simp [Exn.fault]⟩) fun _ => .pure

theorem fetchCheck_keeps : Keeps P fetchCheck :=
  .get fun _ _ => .ite (fun _ => .pure) fun _ => .bind (.check gp0_keeps) fun _ => .ite (fun _ => .pure) fun _ =>
    .ite (fun _ _ _ => trivial) fun _ => gp0_keeps

theorem queuedByte_keeps {a : Nat} {b : Byte} : Keeps P (queuedByte a b) := .get fun _ _ => by
  split
  · exact .pure
  · exact .bind freeBelow_keeps fun _ => .pure

theorem fetchMemory_keeps : Keeps P fetchMemory :=
  .get fun _ _ => .bind (.check gp0_keeps) fun _ => .bind fetchCheck_keeps fun _ => .bind placesOf_keeps fun _ =>
    .bind readPlaces_keeps fun _ => queuedByte_keeps

theorem fetchByte_keeps : Keeps P fetchByte := .get fun s _ => by
  cases s.repeatedByte with
  | some b => exact .bind .pure fun _ => .bind (.modify fun _ ht => P.keep ht) fun _ => .pure
  | none => exact .bind fetchMemory_keeps fun _ => .bind (.modify fun _ ht => P.keep ht) fun _ => .pure

theorem fetchInstr_keeps {c : DecodeCtx} {n : Nat} {bs : List Byte} : Keeps P (fetchInstr c n bs) := by
  induction n generalizing bs with
  | zero => exact undefinedOpcode_keeps
  | succ n ih =>
    refine .bind fetchByte_keeps fun b => ?_
    cases decode c (bs ++ [b]) with
    | ok i rest => exact .pure
    | more => exact ih
    | undef => exact undefinedOpcode_keeps

theorem fetch_keeps : Keeps P fetch := .bind instrBreak_keeps fun _ => .get fun _ _ => fetchInstr_keeps

/-! ### Events between instructions -/

theorem takeExternal_lands {n : Byte} (hs : P.holds s) : Lands P (s.takeExternal n) := by
  have ends := interrupt_keeps (n := n) (err := none) (src := .ext) (ret := s.resumeIp) (start := s.eip)
    (rf := s.flags.rf) s hs
  unfold State.takeExternal
  cases end_ : interrupt n none .ext s.resumeIp s.eip s.flags.rf s with
  | ok r => rw [end_] at ends; exact lands_next ends
  | error stop =>
    rw [end_] at ends
    cases stop with
    | exn e => exact deliverExn_lands ends hs
    | shutdown => exact lands_next (shutDown_holds hs)
    | stop f => exact lands_fault

theorem trapBits_fit (r : TrapRecord) (b : BitVec 4) : r.dr6 b &&& ~~~dr6Mask = 0 := by
  simpa [TrapRecord.dr6, bitAt] using debugBits_fit r.singleStep r.taskSwitch false (r.enabled ||| (r.disabled &&& b))

theorem takeTrap_lands (hP : P.AnyStep) (hs : P.holds s) : Lands P s.takeTrap := by
  refine deliverExn_lands ⟨?_, by simp [Exn.fault]⟩ (P.keep (hP s false hs))
  dsimp only
  split
  · exact trapBits_fit _ _
  · decide

theorem take_lands {e : Event} (hP : P.AnyStep) (hs : P.holds s) : Lands P (s.take e) := by
  cases e with
  | debugTrap => exact takeTrap_lands hP hs
  | nmi => exact takeExternal_lands (P.keep hs)
  | overrun => exact deliverExn_lands (plain_fits rfl rfl) (P.keep hs)
  | intr n => exact takeExternal_lands (P.keep hs)

/-! ### The step -/

theorem applyReset_legalFor (hs : s.inv = true) : LegalFor s.cfg s.applyReset := by
  refine ⟨(inv_iff _).2 ⟨((inv_iff s).1 hs).1, ?_, rfl, (debugOk_iff _).2 ⟨BitVec.zero_and, BitVec.zero_and⟩⟩, rfl⟩
  unfold State.cr0Ok State.level State.applyReset State.powerOn Cr0.afterReset
  cases s.cfg.cpu <;> rfl

theorem insteadOfInstr_legalFor {o : Host.Outcome State Fault Refusal} (hs : s.inv = true)
    (h : s.insteadOfInstr = some o) (ho : o = .next u) : LegalFor s.cfg u := by
  have legal_s : (legal s.cfg s.cr0.pe).holds s := ⟨hs, rfl, rfl⟩
  subst ho
  unfold State.insteadOfInstr at h
  split at h
  · injection h with h
    injection h with h
    exact h ▸ applyReset_legalFor hs
  · split at h
    · injection h with h
      injection h with h
      exact h ▸ .of_legal ((legal s.cfg s.cr0.pe).keep legal_s)
    · split at h
      · next e _ =>
        injection h with h
        exact .of_legal (take_lands (e := e) legal_anyStep legal_s u h)
      · split at h
        · cases h
        · injection h with h
          injection h with h
          exact h ▸ .of_legal legal_s

theorem runInstr_legalFor (hs : s.inv = true) (h : s.runInstr = .next u) : LegalFor s.cfg u := by
  have legal_s : (legal s.cfg s.cr0.pe).holds s := ⟨hs, rfl, rfl⟩
  have ends := fetch_keeps s legal_s
  unfold State.runInstr at h
  cases end_ : fetch s with
  | ok r =>
    rw [end_] at ends h
    exact exec_legalFor ends h
  | error stop =>
    rw [end_] at ends h
    cases stop with
    | exn e => exact .of_legal (deliverExn_lands ends legal_s u h)
    | shutdown => exact .of_legal (lands_next (shutDown_holds legal_s) u h)
    | stop f => cases h

/-- Settles O55: the invariant is a lasting property, each part of a step keeps those, and the instructions that load a
system register keep the invariant by what they check. -/
theorem stepKeepsInvariant : Obligations.StepKeepsInvariant := by
  intro s t hs h
  unfold step at h
  cases hi : s.insteadOfInstr with
  | some o =>
    rw [hi] at h
    exact insteadOfInstr_legalFor hs hi h
  | none =>
    rw [hi] at h
    exact runInstr_legalFor hs h

end Sys2Proof.Machine
end

section
/-! PROOFS. The machine after reset. -/
-- One declaration after the other: many proofs at once take more thread stacks than the memory limit allows.
set_option Elab.async false
namespace Sys2Proof.Machine

/-- Settles O54: evaluation of the one state after reset. -/
theorem resetHasInvariant : Obligations.ResetHasInvariant := by
  refine ⟨(inv_iff _).2 ⟨?memory, ?cr0, ?vm, ?debug⟩, ?alive⟩
  case memory | cr0 | vm | alive => rfl
  case debug => exact (debugOk_iff _).2 ⟨BitVec.zero_and, BitVec.zero_and⟩

theorem step_of_instead {s : State} {o : Host.Outcome State Fault Refusal} (h : s.insteadOfInstr = some o) :
    step s = o := by
  unfold step
  rw [h]

theorem step_of_reset {s : State} (h : s.pins.reset = true) : step s = .next s.applyReset :=
  step_of_instead (by unfold State.insteadOfInstr; rw [if_pos h])

theorem step_of_fetch {s : State} (h : s.insteadOfInstr = none) : step s = s.runInstr := by
  unfold step
  rw [h]

/-! ### Registers after reset -/

variable (c : Config)

theorem flagsAfterReset_bit (cpu : Cpu) : ∀ k, k < 32 → Flags.afterReset.bit cpu.level k = decide (k = 1) := by
  cases cpu <;> decide

theorem cr0AfterReset_bit_286 (h : c.cpu = .i80286) :
    ∀ k, k < 16 → (Cr0.afterReset c).bit 2 k = decide (4 ≤ k) := by
  simp only [Cr0.afterReset, h]
  cases c.coprocessor <;> decide

theorem cr0AfterReset_bit_386 (h : c.cpu.level = 3) :
    ∀ k, k < 32 → k ≠ 4 → (Cr0.afterReset c).bit 3 k = false := by
  simp only [Cr0.afterReset, h]
  cases c.coprocessor <;> decide

theorem cr0AfterReset_bit_486 (h : c.cpu = .i80486) :
    ∀ k, k < 32 → (Cr0.afterReset c).bit 4 k = decide (k = 4 ∨ k = 29 ∨ k = 30) := by
  simp only [Cr0.afterReset, h]
  cases c.coprocessor <;> decide

/-- RESET as a step, whatever the machine does. -/
theorem step_reset_eq (u : State) (h : u.pins.reset = true) (hc : u.cfg = c) :
    let s := State.powerOn c
    ∃ t, step u = .next t ∧ t.mem = u.mem ∧ t.portIn = u.portIn ∧ t.portOut = u.portOut ∧
      t.pins = { u.pins with reset := false } ∧
      { t with mem := s.mem, portIn := s.portIn, portOut := s.portOut, pins := s.pins, oracle := s.oracle } = s := by
  subst hc
  exact ⟨u.applyReset, step_of_reset h, rfl, rfl, rfl, rfl, rfl⟩

theorem tlb_after_reset (j : Fin 8) (k : Fin 4) : (State.powerOn c).tlb[j].ways[k].valid = false := by
  simp [State.powerOn, TlbSet.empty]

theorem fetch_address_8086 (h : c.cpu.level = 0) :
    (State.powerOn c).physical ((State.powerOn c).linear .cs (State.powerOn c).eip.toNat) = 0xFFFF0 := by
  have bits : c.cpu.addressBits = 20 := by cases hc : c.cpu <;> simp_all [Cpu.level, Cpu.addressBits]
  simp [State.physical, State.linear, State.addressLines, State.level, State.powerOn, State.seg, SegReg.real,
    resetCsBase, h, bits]

theorem fetch_address_286 (h : c.cpu = .i80286) :
    (State.powerOn c).physical ((State.powerOn c).linear .cs (State.powerOn c).eip.toNat) = 0xFFFFF0 := by
  simp [State.physical, State.linear, State.addressLines, State.level, State.powerOn, State.seg, SegReg.real,
    resetCsBase, h, Cpu.level, Cpu.addressBits]

/-- Component and stepping in EDX. -/
theorem edx_low (h l : Byte) : (h.setWidth 32 <<< 8 ||| l.setWidth 32 : Dword).extractLsb' 0 8 = l := by
  ext i hi
  have small : i < 32 := by omega
  simp [hi, small]

theorem edx_high (h l : Byte) : (h.setWidth 32 <<< 8 ||| l.setWidth 32 : Dword).extractLsb' 8 8 = h := by
  ext i hi
  have shifted : 8 + i < 32 := by omega
  simp [hi, shifted]

/-- DL and DH, where EDX holds the component and the stepping. -/
theorem reg8_of_edx {s : State} {h l : Byte} (he : s.regs.edx = h.setWidth 32 <<< 8 ||| l.setWidth 32) :
    s.reg8 .dl = l ∧ s.reg8 .dh = h := by
  unfold State.reg8 reg8Home Gpr.get
  rw [he]
  exact ⟨edx_low h l, edx_high h l⟩

/-- Settles O53: the fields of the state after power-on, member by member where they differ. -/
theorem resetValues : Obligations.ResetValues := by
  intro c
  refine ⟨flagsAfterReset_bit c.cpu, rfl, rfl, rfl, rfl, rfl, rfl, rfl, rfl, rfl, rfl, rfl, rfl, rfl, rfl, rfl,
    ?i8086, ?i80286, ?wide, ?i80386, ?i80486, tlb_after_reset c, rfl, rfl, rfl, rfl, rfl, rfl, rfl, rfl,
    step_reset_eq c⟩
  case i8086 =>
    intro h
    have level : c.cpu.level = 0 := by obtain h | h := h <;> rw [h] <;> rfl
    exact ⟨by simp [State.powerOn, level], by simp [State.powerOn, SegReg.real, level], fetch_address_8086 c level⟩
  case i80286 =>
    intro h
    refine ⟨?_, ?_, ?_, ?_, rfl, ?_, cr0AfterReset_bit_286 c h, fetch_address_286 c h⟩ <;>
      simp [State.powerOn, SegReg.real, resetCsBase, h, Cpu.level]
  case wide =>
    intro h
    have level : c.cpu.level = 3 ∨ c.cpu.level = 4 := by obtain h | h | h | h := h <;> rw [h] <;> decide
    have eip : (State.powerOn c).eip = 0xFFF0 := by obtain level | level := level <;> simp [State.powerOn, level]
    refine ⟨eip, ?sel, rfl, ?limit, rfl, ?linear, fun passed => ?_, fun failed => ?_⟩
    case linear =>
      rw [eip]
      obtain level | level := level <;>
        simp [State.linear, State.level, State.powerOn, State.seg, SegReg.real, resetCsBase, level]
    all_goals obtain level | level := level <;> simp [State.powerOn, SegReg.real, Gpr.afterReset, *]
  case i80386 =>
    intro h
    have level : c.cpu.level = 3 := by obtain h | h := h <;> rw [h] <;> rfl
    refine ⟨cr0AfterReset_bit_386 c level, reg8_of_edx ?_⟩
    obtain h | h := h <;> simp [State.powerOn, Gpr.afterReset, h]
  case i80486 =>
    intro h
    obtain ⟨dl, dh⟩ := reg8_of_edx (s := State.powerOn c) (h := 4) (l := c.stepping)
      (by simp [State.powerOn, Gpr.afterReset, h])
    exact ⟨cr0AfterReset_bit_486 c h, dh, dl, rfl⟩

end Sys2Proof.Machine
end

section
/-! PROOFS. The decoder asks for more bytes exactly until the instruction is whole, and a step runs what it decodes. -/
-- One declaration after the other: many proofs at once take more thread stacks than the memory limit allows.
set_option Elab.async false
namespace Sys2Proof

/-! ### Readers ask for more until they have all -/

/-- A reader that succeeds on some bytes asks for more on what of them is too short, and else reads the same. -/
def Prompt {α : Type} (p : List Byte → Parsed α) : Prop :=
  ∀ pre suf a rest, p (pre ++ suf) = .ok a rest → p pre = .more ∨ ∃ left, p pre = .ok a left ∧ rest = left ++ suf

variable {α β : Type} {c : DecodeCtx}

theorem Prompt.ok (a : α) : Prompt (Parsed.ok a) := by
  rintro pre suf - - ⟨⟩
  exact .inr ⟨pre, rfl, rfl⟩

theorem Prompt.undef : Prompt (fun _ => (.undef : Parsed α)) := nofun

theorem Prompt.andThen {p : List Byte → Parsed α} {f : α → List Byte → Parsed β} (hp : Prompt p)
    (hf : ∀ a, Prompt (f a)) : Prompt fun bs => (p bs).andThen f := by
  intro pre suf b rest h
  cases hw : p (pre ++ suf) with
  | more => simp [hw, Parsed.andThen] at h
  | undef => simp [hw, Parsed.andThen] at h
  | ok a mid =>
    obtain short | ⟨left, done, rfl⟩ := hp pre suf a mid hw
    · exact .inl (by simp only [short, Parsed.andThen])
    · simp only [done, Parsed.andThen]
      simp only [hw, Parsed.andThen] at h
      exact hf a left suf b rest h

/-- A reader followed by a function of its value. -/
theorem Prompt.map {p : List Byte → Parsed α} {g : α → β} (hp : Prompt p) :
    Prompt fun bs => (p bs).andThen fun a rest => .ok (g a) rest := hp.andThen fun a => .ok (g a)

theorem Prompt.ite {q : Prop} [Decidable q] {p p' : List Byte → Parsed α} (hp : Prompt p) (hp' : Prompt p') :
    Prompt fun bs => if q then p bs else p' bs := by
  split
  · exact hp
  · exact hp'

theorem readByte_prompt : Prompt readByte
  | [], _, _, _, _ => .inl rfl
  | _ :: pre, _, _, _, h => by cases h; exact .inr ⟨pre, rfl, rfl⟩

theorem readWord_prompt : Prompt readWord
  | [], _, _, _, _ | [_], _, _, _, _ => .inl rfl
  | _ :: _ :: pre, _, _, _, h => by cases h; exact .inr ⟨pre, rfl, rfl⟩

theorem readDword_prompt : Prompt readDword
  | [], _, _, _, _ | [_], _, _, _, _ | [_, _], _, _, _, _ | [_, _, _], _, _, _, _ => .inl rfl
  | _ :: _ :: _ :: _ :: pre, _, _, _, h => by cases h; exact .inr ⟨pre, rfl, rfl⟩

theorem readSized_prompt (wide : Bool) : Prompt (readSized wide) := .ite readDword_prompt readWord_prompt.map

theorem readMem16_prompt (mod : BitVec 2) (rm : BitVec 3) : Prompt (readMem16 mod rm) := by
  unfold readMem16
  split
  · exact .ite readWord_prompt.map (.ok _)
  · exact readByte_prompt.map
  · exact readWord_prompt.map

theorem readDisp32_prompt (mod : BitVec 2) : Prompt (readDisp32 mod) := by
  unfold readDisp32
  split
  · exact .ok _
  · exact readByte_prompt.map
  · exact readDword_prompt.map

theorem readMem32_prompt (mod : BitVec 2) (rm : BitVec 3) : Prompt (readMem32 mod rm) :=
  .ite (readByte_prompt.andThen fun _ => .ite readDword_prompt.map (readDisp32_prompt mod).map)
    (.ite readDword_prompt.map (readDisp32_prompt mod).map)

theorem readMem_prompt (mod : BitVec 2) (rm : BitVec 3) : Prompt (readMem c mod rm) :=
  .ite (readMem32_prompt mod rm) (readMem16_prompt mod rm)

theorem readRm8_prompt (mod : BitVec 2) (rm : BitVec 3) : Prompt (readRm8 c mod rm) :=
  .ite (.ok _) (readMem_prompt mod rm).map

theorem readRmv_prompt (mod : BitVec 2) (rm : BitVec 3) : Prompt (readRmv c mod rm) :=
  .ite (.ok _) (readMem_prompt mod rm).map

theorem tailRead_prompt (t : Tail) (mod : BitVec 2) (rm : BitVec 3) : Prompt fun bs => t.read c mod rm bs := by
  cases t with
  | undef => exact .undef
  | rm8 f => exact (readRm8_prompt mod rm).map
  | rm8Imm8 f => exact (readRm8_prompt mod rm).andThen fun _ => readByte_prompt.map
  | rmv f => exact (readRmv_prompt mod rm).map
  | rmvImmv f => exact (readRmv_prompt mod rm).andThen fun _ => (readSized_prompt _).map
  | rmvImm8 f => exact (readRmv_prompt mod rm).andThen fun _ => readByte_prompt.map
  | mem f => exact .ite .undef (readMem_prompt mod rm).map
  | reg f => exact .ok _
  | esc fm fr => exact .ite (.ok _) (readMem_prompt mod rm).map

theorem entryRead_prompt (e : Entry) : Prompt fun bs => e.read c bs := by
  cases e with
  | undef | escape => exact .undef
  | done i => exact .ok i
  | imm8 f => exact readByte_prompt.map
  | immv f => exact (readSized_prompt _).map
  | imm16 f => exact readWord_prompt.map
  | imm16Imm8 f => exact readWord_prompt.andThen fun _ => readByte_prompt.map
  | ptr f => exact (readSized_prompt _).andThen fun _ => readWord_prompt.map
  | moffs f => exact (readSized_prompt _).map
  | modrm f => exact readByte_prompt.andThen fun b => tailRead_prompt (f (regOf b)) (modOf b) (rmOf b)

theorem decode_prompt : Prompt (decode c) := readByte_prompt.andThen fun b => by
  cases opcode c b with
  | escape => exact readByte_prompt.andThen fun b2 => entryRead_prompt (opcode0F c b2)
  | undef | done | imm8 | immv | imm16 | imm16Imm8 | ptr | moffs | modrm => exact entryRead_prompt _

/-- What is cut from an instruction is missed. -/
theorem decode_more_of_append {pre suf : List Byte} {i : Instr} (h : decode c (pre ++ suf) = .ok i []) (hs : suf ≠ []) :
    decode c pre = .more := by
  obtain short | ⟨left, -, whole⟩ := decode_prompt pre suf i [] h
  · exact short
  · exact absurd (List.append_eq_nil_iff.1 whole.symm).2 hs

end Sys2Proof

namespace Sys2Proof.Machine

variable {s : State}

/-! ### Fetching from flat memory -/

/-- The state in which these bytes have been fetched of the instruction. -/
def State.fetched (s : State) (bs : List Byte) : State :=
  { s with cur := { s.cur with len := s.cur.len + bs.length, code := s.cur.code ++ bs } }

theorem fetched_nil (s : State) : s.fetched [] = s := by
  unfold State.fetched
  rw [List.append_nil]
  rfl

theorem noteByte_fetched (s : State) (bs : List Byte) (b : Byte) :
    (s.fetched bs).noteByte b = s.fetched (bs ++ [b]) := by
  simp [State.noteByte, State.fetched, Nat.add_assoc]

/-- What must hold for the byte after those fetched to be read from memory. -/
structure State.NextByte (s : State) (b : Byte) : Prop where
  short : ∀ n, s.cfg.maxLength = some n → s.cur.len < n
  allowed : s.level = 0 ∨ (s.cs.valid = true ∧ s.cs.executable = true ∧ s.cs.inLimit s.nextIp.toNat 1 = true)
  mapped : s.mapped .read (s.placeAt .cs s.nextIp 0) = true
  byte : b = Memory.read s.mem (s.placeAt .cs s.nextIp 0)

theorem fetchCheck_ok {b : Byte} (h : s.NextByte b) : fetchCheck s = .ok ((), s) := by
  unfold fetchCheck
  rw [get_bind_apply]
  obtain level | ⟨valid, executable, limit⟩ := h.allowed
  · simp [level]
  · simp [valid, executable, limit]

theorem queuedByte_fresh (hq : s.stale = []) (a : Nat) (b : Byte) : queuedByte a b s = .ok (b, s) := by
  unfold queuedByte
  rw [get_bind_apply]
  simp [hq]

theorem check_pass {ok : Bool} {e : M Unit} (h : ok = true) : check ok e s = .ok ((), s) := by
  rw [h, check_true, pure_apply]

theorem fetchMemory_flat {b : Byte} (hf : s.flat = true) (hq : s.stale = []) (h : s.NextByte b) :
    fetchMemory s = .ok (b, s) := by
  have cache : s.cacheOn = false := by simp_all [State.flat]
  unfold fetchMemory
  rw [get_bind_apply, bind_ok (show check _ gp0 s = .ok ((), s) from ?length), bind_ok (fetchCheck_ok h),
    bind_ok (placesOf_flat hf ..), bind_ok (readPlaces_flat cache _ _ (by simpa using h.mapped)), h.byte]
  · exact queuedByte_fresh hq ..
  case length =>
    cases hm : s.cfg.maxLength with
    | none => rfl
    | some n => exact check_pass (decide_eq_true (h.short n hm))

theorem fetchByte_flat {b : Byte} (hr : s.repeating = none) (hf : s.flat = true) (hq : s.stale = [])
    (h : s.NextByte b) : fetchByte s = .ok (b, s.noteByte b) := by
  have fresh : s.repeatedByte = none := by simp [State.repeatedByte, hr]
  unfold fetchByte
  rw [get_bind_apply, fresh]
  exact bind_ok (fetchMemory_flat hf hq h) _

/-- FETCHING reads bytes until they decode: `pre` are those read before. -/
theorem fetchInstr_flat {c : DecodeCtx} {i : Instr} (hr : s.repeating = none) (hf : s.flat = true) (hq : s.stale = []) :
    ∀ (suf pre : List Byte) (n : Nat), suf ≠ [] → suf.length ≤ n → decode c (pre ++ suf) = .ok i [] →
      (∀ k b, suf[k]? = some b → (s.fetched (pre ++ suf.take k)).NextByte b) →
      fetchInstr c n pre (s.fetched pre) = .ok (i, s.fetched (pre ++ suf))
  | [], _, _, hne, _, _, _ => absurd rfl hne
  | _ :: _, _, 0, _, hn, _, _ => absurd hn (by simp)
  | b :: suf, pre, n + 1, _, hn, hd, hb => by
    have first : (s.fetched pre).NextByte b := by simpa using hb 0 b rfl
    unfold fetchInstr
    rw [bind_ok (fetchByte_flat (s := s.fetched pre) hr hf hq first), noteByte_fetched]
    cases suf with
    | nil => rw [hd]; rfl
    | cons b2 suf =>
      have whole : pre ++ b :: b2 :: suf = (pre ++ [b]) ++ b2 :: suf := by simp
      rw [whole] at hd ⊢
      rw [decode_more_of_append hd (by simp)]
      refine fetchInstr_flat hr hf hq (b2 :: suf) (pre ++ [b]) n (by simp) (by simpa using hn) hd fun k b3 h => ?_
      simpa using hb (k + 1) b3 h

/-! ### The instruction breakpoint -/

theorem breakEnabled_false (h : s.dr7 &&& 0xFF = 0) {j : Nat} (hj : j < 4) : s.breakEnabled j = false := by
  have clear (k : Nat) (hk : k < 8) : s.dr7.getLsbD k = false := by
    have bit := congrArg (BitVec.getLsbD · k) h
    have one : ∀ k, k < 8 → (0xFF : Dword).getLsbD k = true := by decide
    rw [BitVec.getLsbD_and, one k hk, Bool.and_true] at bit
    exact bit.trans (by simp)
  simp [State.breakEnabled, clear (2 * j) (by omega), clear (2 * j + 1) (by omega)]

theorem instrHits_none (h : s.level < 3 ∨ s.dr7 &&& 0xFF = 0) (ip : Dword) : s.instrHits ip true = 0 := by
  unfold State.instrHits
  obtain level | none := h
  · rw [if_pos level]
  · split
    · rfl
    · simp [pickBreaks, breakEnabled_false none]

theorem instrBreak_ok (h : s.cur.len ≠ 0 ∨ s.flags.rf = true ∨ s.instrHits s.eip true = 0) :
    instrBreak s = .ok ((), s) := by
  unfold instrBreak
  rw [get_bind_apply, if_neg]
  · rfl
  · obtain h | h | h := h <;> simp [h]

theorem fetch_flat {bs : List Byte} {i : Instr} (hr : s.repeating = none) (hf : s.flat = true) (hq : s.stale = [])
    (hb : instrBreak s = .ok ((), s)) (hd : decode s.decodeCtx bs = .ok i []) (hl : bs.length ≤ 15)
    (hn : ∀ k b, bs[k]? = some b → (s.fetched (bs.take k)).NextByte b) : fetch s = .ok (i, s.fetched bs) := by
  have some_ : bs ≠ [] := by rintro rfl; cases hd
  unfold fetch
  rw [bind_ok hb, get_bind_apply]
  have run := fetchInstr_flat hr hf hq bs [] 15 some_ hl hd (by simpa using hn)
  rwa [fetched_nil] at run

/-- Settles O58: the bytes fetched one by one decode at the last of them and not before. -/
theorem stepRunsDecoded : Obligations.StepRunsDecoded := by
  intro s bs i instead repeating flat _ stale break_ decoded length limit bytes
  have noBreak : instrBreak s = .ok ((), s) := instrBreak_ok <| by
    obtain h | h | h | h := break_
    · exact .inr (.inr (instrHits_none (.inl h) _))
    · exact .inl h
    · exact .inr (.inl h)
    · exact .inr (.inr (instrHits_none (.inr h) _))
  rw [step_of_fetch instead]
  unfold State.runInstr
  rw [fetch_flat repeating flat stale noBreak decoded length fun k b at_ => ?_]
  · rfl
  · have inside : k < bs.length := (List.getElem?_eq_some_iff.1 at_).1
    obtain ⟨⟨allowed, mapped⟩, byte⟩ := bytes k inside
    have taken : s.fetched (bs.take k) =
        { s with cur := { s.cur with len := s.cur.len + k, code := s.cur.code ++ bs.take k } } := by
      unfold State.fetched
      rw [List.length_take_of_le inside.le]
    rw [taken]
    refine ⟨fun n hn => ?_, allowed, mapped, Option.some.inj (at_.symm.trans byte)⟩
    have fits := limit n hn
    show s.cur.len + k < n
    omega

end Sys2Proof.Machine
end

section
/-! PROOFS. What is taken at an instruction boundary. -/
-- One declaration after the other: many proofs at once take more thread stacks than the memory limit allows.
set_option Elab.async false
namespace Sys2Proof.Machine

variable {s : State}

/-! ### Steps without an instruction -/

theorem insteadOfInstr_of_event {e : Event} (hr : s.pins.reset = false) (hf : s.pins.flush = false)
    (he : s.event = some e) : s.insteadOfInstr = some (s.take e) := by
  simp [State.insteadOfInstr, hr, hf, he]

theorem insteadOfInstr_of_rest (hr : s.pins.reset = false) (hf : s.pins.flush = false) (he : s.event = none)
    (hx : s.run ≠ .running) : s.insteadOfInstr = some (.next s) := by
  simp [State.insteadOfInstr, hr, hf, he, hx]

theorem step_of_event {e : Event} (hr : s.pins.reset = false) (hf : s.pins.flush = false) (he : s.event = some e) :
    step s = s.take e := step_of_instead (insteadOfInstr_of_event hr hf he)

theorem step_of_rest (hr : s.pins.reset = false) (hf : s.pins.flush = false) (he : s.event = none)
    (hx : s.run ≠ .running) : step s = .next s := step_of_instead (insteadOfInstr_of_rest hr hf he hx)

/-! ### What is accepted -/

/-- A debug cause is recorded. -/
def State.TrapWaits (s : State) : Prop := s.trap.singleStep = true ∨ s.trap.taskSwitch = true ∨ s.trap.enabled ≠ 0

/-- NMI can be taken. -/
def State.NmiWaits (s : State) : Prop := s.nmiPending = true ∧ s.nmiBlocked = false

/-- INTR can be taken. -/
def State.IntrWaits (s : State) : Prop := s.shadow ≠ .sti ∧ s.flags.intf = true ∧ s.pins.intr ≠ none

theorem trapPending_iff : s.trapPending = true ↔ s.TrapWaits := by
  simp [State.trapPending, State.TrapWaits, or_assoc]

theorem acceptedTrap_some (h : s.TrapWaits) : s.acceptedTrap = some .debugTrap := if_pos (trapPending_iff.2 h)
theorem acceptedTrap_none (h : ¬s.TrapWaits) : s.acceptedTrap = none := if_neg (mt trapPending_iff.1 h)

theorem acceptedNmi_some (h : s.NmiWaits) : s.acceptedNmi = some .nmi := if_pos (by simp [h.1, h.2])
theorem acceptedNmi_none (h : ¬s.NmiWaits) : s.acceptedNmi = none := if_neg (by simpa [State.NmiWaits] using h)

theorem acceptedOverrun_some (h : s.int9Pending = true) : s.acceptedOverrun = some .overrun := if_pos h
theorem acceptedOverrun_none (h : s.int9Pending = false) : s.acceptedOverrun = none := if_neg (by simp [h])

theorem acceptedIntr_some {n : Byte} (h : s.IntrWaits) (hn : s.pins.intr = some n) :
    s.acceptedIntr = some (.intr n) := by
  obtain ⟨shadow, on, -⟩ := h
  simp [State.acceptedIntr, shadow, on, hn]

theorem acceptedIntr_none (h : ¬s.IntrWaits) : s.acceptedIntr = none := by
  unfold State.acceptedIntr
  split
  · next open_ =>
    cases hn : s.pins.intr with
    | none => rfl
    | some n => exact absurd ⟨open_.2, open_.1, by simp [hn]⟩ h
  · rfl

theorem event_of_shutdown (hc : s.cur.len = 0) (hx : s.run = .shutdown) :
    s.event = if s.nmiPending then some .nmi else none := by
  simp [State.event, hc, hx]

theorem event_of_shadow (hx : s.run ≠ .shutdown) (hs : s.shadow = .ss) : s.event = none := by
  unfold State.event
  split
  · rfl
  · cases hr : s.run with
    | shutdown => exact absurd hr hx
    | running | halted => rfl

/-- The order of priority, where the processor goes on. -/
theorem event_of_goesOn (hc : s.cur.len = 0) (hx : s.run ≠ .shutdown) (hs : s.shadow ≠ .ss) :
    s.event = if s.level = 0 then s.acceptedNmi.or (s.acceptedIntr.or s.acceptedTrap)
      else s.acceptedTrap.or (s.acceptedNmi.or (s.acceptedOverrun.or s.acceptedIntr)) := by
  unfold State.event
  rw [if_neg (by simp [hc])]
  cases hr : s.run with
  | shutdown => exact absurd hr hx
  | running | halted => simp [hs]

/-! ### Which event is taken -/

section
variable (hc : s.cur.len = 0) (hx : s.run ≠ .shutdown) (hs : s.shadow ≠ .ss)
include hc hx hs

theorem event_trap (ht : s.TrapWaits) (hfirst : s.level ≠ 0 ∨ (¬s.NmiWaits ∧ ¬s.IntrWaits)) :
    s.event = some .debugTrap := by
  rw [event_of_goesOn hc hx hs, acceptedTrap_some ht]
  split
  · next first =>
    obtain ⟨nmi, intr⟩ := hfirst.resolve_left (not_not_intro first)
    rw [acceptedNmi_none nmi, acceptedIntr_none intr]
    rfl
  · rfl

theorem event_nmi (hn : s.NmiWaits) (ht : ¬(s.level ≠ 0 ∧ s.TrapWaits)) : s.event = some .nmi := by
  rw [event_of_goesOn hc hx hs, acceptedNmi_some hn]
  split
  · rfl
  · next later =>
    rw [acceptedTrap_none fun trap => ht ⟨later, trap⟩]
    rfl

theorem event_overrun (hl : s.level ≠ 0) (ht : ¬s.TrapWaits) (hn : ¬s.NmiWaits) (h9 : s.int9Pending = true) :
    s.event = some .overrun := by
  rw [event_of_goesOn hc hx hs, if_neg hl, acceptedTrap_none ht, acceptedNmi_none hn, acceptedOverrun_some h9]
  rfl

theorem event_intr {n : Byte} (ht : ¬(s.level ≠ 0 ∧ s.TrapWaits)) (hn : ¬s.NmiWaits)
    (h9 : s.int9Pending = false ∨ s.level = 0) (hi : s.IntrWaits) (hv : s.pins.intr = some n) :
    s.event = some (.intr n) := by
  rw [event_of_goesOn hc hx hs, acceptedNmi_none hn, acceptedIntr_some hi hv]
  split
  · rfl
  · next later =>
    rw [acceptedTrap_none fun trap => ht ⟨later, trap⟩, acceptedOverrun_none (h9.resolve_right later)]
    rfl
end

theorem event_none (hc : s.cur.len = 0) (hx : s.run ≠ .shutdown) (ht : ¬s.TrapWaits) (hn : ¬s.NmiWaits)
    (h9 : s.int9Pending = false ∨ s.level = 0) (hi : ¬s.IntrWaits) : s.event = none := by
  by_cases hs : s.shadow = .ss
  · exact event_of_shadow hx hs
  · rw [event_of_goesOn hc hx hs, acceptedNmi_none hn, acceptedTrap_none ht, acceptedIntr_none hi]
    split
    · rfl
    · next later =>
      rw [acceptedOverrun_none (h9.resolve_right later)]
      rfl

/-! ### What a trap and an instruction breakpoint raise -/

/-- INT 1 for the trap recorded, with its causes in DR6. -/
theorem takeTrap_eq (s : State) : ∃ o, ∃ u : BitVec 4,
    s.takeTrap = ({ s with trap := .clear, oracle := o } : State).deliverExn s.resumeIp
      { Exn.fault 1 none with
        cls := .trap
        dr6 := if s.level < 3 then 0 else
          (if s.trap.singleStep then 0x4000 else 0) ||| (if s.trap.taskSwitch then 0x8000 else 0) |||
            (s.trap.enabled ||| (s.trap.disabled &&& u)).setWidth 32 } := by
  refine ⟨s.oracle + 1, (Config.free s.oracle).setWidth 4, ?_⟩
  unfold State.takeTrap
  have causes : (if 3 ≤ s.level then s.trap.dr6 ((Config.free s.oracle).setWidth 4) else 0) = if s.level < 3 then 0 else
      (if s.trap.singleStep then 0x4000 else 0) ||| (if s.trap.taskSwitch then 0x8000 else 0) |||
        (s.trap.enabled ||| (s.trap.disabled &&& (Config.free s.oracle).setWidth 4)).setWidth 32 := by
    by_cases old : s.level < 3
    · rw [if_pos old, if_neg (by omega)]
    · rw [if_neg old, if_pos (by omega)]
      unfold TrapRecord.dr6 bitAt
      rfl
  rw [causes]

/-- The instruction breakpoint as a step. -/
theorem step_of_instrHits (hi : s.insteadOfInstr = none) (hc : s.cur.len = 0) (hr : s.repeating = none)
    (hf : s.flags.rf = false) (hb : s.instrHits s.eip true ≠ 0) :
    ∃ u : BitVec 4, step s = s.deliverExn s.nextIp { Exn.fault 1 none with
      dr6 := (s.instrHits s.eip true ||| (s.instrHits s.eip false &&& u)).setWidth 32, oracle := s.oracle + 1 } := by
  refine ⟨(Config.free s.oracle).setWidth 4, ?_⟩
  have raised : fetch s = .error (.exn { Exn.fault 1 none with
      dr6 := (s.instrHits s.eip true ||| (s.instrHits s.eip false &&& (Config.free s.oracle).setWidth 4)).setWidth 32
      oracle := s.oracle + 1 }) := by
    unfold fetch
    refine bind_error ?_ _
    unfold instrBreak
    rw [get_bind_apply, if_pos ⟨hc, hr, hf, hb⟩]
    rfl
  rw [step_of_fetch hi]
  unfold State.runInstr
  rw [raised]

/-! ### What is recorded at the end of an instruction -/

theorem settleTrap_singleStep (before after : TrapRecord) (rf step : Bool) :
    (settleTrap before after rf step).singleStep = if rf then before.singleStep else after.singleStep || step := by
  unfold settleTrap
  cases rf <;> simp only [Bool.false_eq_true, if_false, if_true] <;> split <;> simp_all [TrapRecord.clear]

theorem settleTrap_enabled (before after : TrapRecord) (rf step : Bool) :
    (settleTrap before after rf step).enabled = if rf then before.enabled else after.enabled := by
  unfold settleTrap
  cases rf <;> simp only [Bool.false_eq_true, if_false, if_true] <;> split <;> simp_all [TrapRecord.clear]

/-- Nothing that traps: nothing is recorded. -/
theorem settleTrap_clear {before after : TrapRecord} {rf step : Bool}
    (h : if rf then before = .clear ∧ after.taskSwitch = false
      else after.singleStep = false ∧ after.taskSwitch = false ∧ after.enabled = 0 ∧ step = false) :
    settleTrap before after rf step = .clear := by
  unfold settleTrap
  cases rf with
  | true =>
    obtain ⟨rfl, noSwitch⟩ := h
    simp [noSwitch, TrapRecord.clear]
  | false =>
    obtain ⟨noStep, noSwitch, noBreak, rfl⟩ := h
    simp [noStep, noSwitch, noBreak]

/-! ### Software interrupts -/

/-- No single step is recorded: no operation records one. -/
def noSingleStep : Lasting where
  holds s := s.trap.singleStep = false
  same h hs := by
    simp only [State.watched, Prod.mk.injEq] at h
    obtain ⟨-, -, -, -, -, -, -, -, kept⟩ := h
    exact kept.trans hs
  store _ _ hs := hs
  vmOff hs := hs
  vmOf _ ht := ht
  vmAny _ _ _ ht := ht
  ts _ hs := hs
  dr6 _ _ hs := hs
  dr7 _ hs := hs
  stepOf hs _ := hs

theorem softInterrupt_ending {n : Byte} {e : Ending} {t : State} (h : softInterrupt n s = .ok (e, t)) :
    e = .interrupted := by
  unfold softInterrupt at h
  rw [get_bind_apply] at h
  rcases bind_cases (interrupt n none .soft s.eip s.startIp s.flags.rf) (fun _ => (pure .interrupted : M Ending)) s with
    ⟨stop, -, early⟩ | ⟨done, -, whole⟩
  · rw [early] at h; cases h
  · rw [whole] at h; cases h; rfl

/-- After a software interrupt, whatever it comes to, no single step is recorded. -/
theorem runEnding_interrupted {body : M Ending} {t : State} (hl : s.lockOk false = true)
    (hs : s.trap.singleStep = false) (hb : Keeps noSingleStep body)
    (he : ∀ e u, body s.begin = .ok (e, u) → e = .interrupted) (h : runEnding false body s = .next t) :
    t.trap.singleStep = false := by
  have ends : Ends noSingleStep _ (body s.begin) := hb s.begin hs
  rw [← bind_ok (lockCheck_eq (s := s.begin) false (by simpa using hl)) fun _ => body] at ends he
  rcases runEnding_next h with ⟨e, u, ok, rfl⟩ | ⟨e, raised, delivered⟩ | ⟨-, rfl⟩
  · obtain rfl := he e u ok
    rw [ok] at ends
    show (settleTrap _ _ _ _).singleStep = false
    have before : u.trap.singleStep = false := ends
    rw [settleTrap_singleStep]
    cases s.flags.rf <;> simp [State.withOwnMatch, hs, before]
  · rw [raised] at ends
    exact deliverExn_lands ends hs t delivered
  · exact hs

theorem exec_intImm8_singleStep {n : Byte} {t : State} (hl : s.lockOk false = true) (hs : s.trap.singleStep = false)
    (h : exec (.intImm8 n) s = .next t) : t.trap.singleStep = false := by
  refine runEnding_interrupted hl hs (.bind v86Sensitive_keeps fun _ => softInterrupt_keeps) (fun e u ok => ?_) h
  rcases bind_cases v86Sensitive (fun _ => softInterrupt n) s.begin with ⟨stop, -, early⟩ | ⟨done, -, whole⟩
  · rw [early] at ok; cases ok
  · exact softInterrupt_ending (whole ▸ ok)

theorem exec_int3_singleStep {t : State} (hl : s.lockOk false = true) (hs : s.trap.singleStep = false)
    (h : exec .int3 s = .next t) : t.trap.singleStep = false :=
  runEnding_interrupted hl hs softInterrupt_keeps (fun _ _ => softInterrupt_ending) h

theorem exec_into_singleStep {t : State} (hl : s.lockOk false = true) (hs : s.trap.singleStep = false)
    (ho : s.flags.ovf = true) (h : exec .into s = .next t) : t.trap.singleStep = false := by
  refine runEnding_interrupted hl hs overflowInterrupt_keeps (fun e u ok => ?_) h
  unfold overflowInterrupt at ok
  rw [get_bind_apply, begin_flags, if_pos ho] at ok
  exact softInterrupt_ending ok

/-! ### Data breakpoints -/

theorem ofBools_getLsbD : ∀ (a b c d : Bool) (j : Nat), j < 4 →
    (BitVec.ofBool d ++ BitVec.ofBool c ++ BitVec.ofBool b ++ BitVec.ofBool a).getLsbD j =
      [a, b, c, d].getD j false := by
  decide

theorem pickBreaks_getLsbD (p : Nat → Bool) {j : Nat} (hj : j < 4) : (pickBreaks p).getLsbD j = p j := by
  unfold pickBreaks
  rw [ofBools_getLsbD _ _ _ _ j hj]
  match j, hj with
  | 0, _ | 1, _ | 2, _ | 3, _ => rfl

theorem recordMatches_taskSwitch (s : State) (lin n : Nat) (k : AccessKind) :
    (s.recordMatches lin n k).trap.taskSwitch = s.trap.taskSwitch := by
  unfold State.recordMatches
  split <;> rfl

theorem recordMatches_enabled (h : s.trap.enabled = 0) (lin n : Nat) (k : AccessKind) {j : Nat} (hj : j < 4) :
    (s.recordMatches lin n k).trap.enabled.getLsbD j =
      (decide (3 ≤ s.level) && (s.dataMatch j lin n k && s.breakEnabled j)) := by
  unfold State.recordMatches
  split
  · next old => simp [h, Nat.not_le.2 old]
  · next new => simp [h, pickBreaks_getLsbD _ hj, Nat.not_lt.1 new]

theorem breakAddr_eq (s : State) : ∀ j, j < 4 → s.breakAddr j = ([s.dr0, s.dr1, s.dr2, s.dr3].getD j 0).toNat
  | 0, _ | 1, _ | 2, _ | 3, _ => rfl
  | n + 4, h => absurd h (by omega)

/-- Whether breakpoint `j` is enabled and watches an access of `n` bytes at `lin`, written out. -/
def State.meets (s : State) (k : AccessKind) (lin n j : Nat) : Bool :=
  let rw := s.dr7.toNat / 2 ^ (16 + 4 * j) % 4
  let len := s.dr7.toNat / 2 ^ (18 + 4 * j) % 4 + 1
  let base := ([s.dr0, s.dr1, s.dr2, s.dr3].getD j 0).toNat / len * len
  decide (3 ≤ s.level) && (s.dr7.getLsbD (2 * j) || s.dr7.getLsbD (2 * j + 1)) && decide (len ≠ 3) &&
    (decide (rw = 3) || decide (rw = 1 ∧ k = .write)) && decide (lin < base + len) && decide (base < lin + n)

theorem dataMatch_eq_meets {k : AccessKind} (hk : k = .read ∨ k = .write) (lin n : Nat) {j : Nat} (hj : j < 4) :
    (decide (3 ≤ s.level) && (s.dataMatch j lin n k && s.breakEnabled j)) = s.meets k lin n j := by
  have length : decide (s.breakLn j ≠ 2) = decide (s.breakLn j + 1 ≠ 3) := by simp
  have fold : s.meets k lin n j = (decide (3 ≤ s.level) && s.breakEnabled j && decide (s.breakLn j + 1 ≠ 3) &&
      (decide (s.breakRw j = 3) || decide (s.breakRw j = 1 ∧ k = .write)) &&
      decide (lin < s.breakAddr j / (s.breakLn j + 1) * (s.breakLn j + 1) + (s.breakLn j + 1)) &&
      decide (s.breakAddr j / (s.breakLn j + 1) * (s.breakLn j + 1) < lin + n)) := by
    rw [breakAddr_eq s j hj]
    rfl
  rw [fold, ← length]
  unfold State.dataMatch
  generalize s.breakRw j = kind
  dsimp only
  split
  case h_1 => obtain rfl | rfl := hk <;> simp [AccessKind.writes, Bool.and_assoc, Bool.and_comm, Bool.and_left_comm]
  case h_2 => simp [Bool.and_assoc, Bool.and_comm, Bool.and_left_comm]
  case h_3 no1 no3 =>
    have not1 : ¬kind = 1 := no1
    have not3 : ¬kind = 3 := no3
    simp [not1, not3]

/-! ### Runs without an event of their own -/

theorem begin_recordMatches_trap (s : State) (lin n : Nat) (k : AccessKind) :
    (s.begin.recordMatches lin n k).trap = (s.recordMatches lin n k).trap := by
  unfold State.recordMatches
  rw [begin_level]
  split <;> rfl

theorem begin_touch_trap (s : State) (m : Mem) (k : AccessKind) (n : Nat) :
    (s.begin.touch (s.memSeg m) k (s.memOff m) n).trap =
      (s.recordMatches (s.linear (s.memSeg m) (s.memOff m).toNat) n k).trap := by
  unfold State.touch
  rw [(begin_way s).linear, begin_recordMatches_trap]

theorem finish_done_trap (s t : State) :
    (finish s t .done).trap = settleTrap s.trap (s.withOwnMatch t.trap) s.flags.rf s.flags.tf := by
  simp [finish]

theorem exec_nop (hl : s.lockOk false = true) : exec .nop s = .next (finish s s.begin .done) := run_ok hl rfl

/-- A MOV between a register and memory that can be reached, and the access it makes. -/
def accessForm (m : Mem) (r : Reg) (i : Instr) (k : AccessKind) : Prop :=
  (i = .movRvRmv r (.mem m) ∧ k = .read) ∨ (i = .movRmvRv (.mem m) r ∧ k = .write)

theorem accessForm_kind {m : Mem} {r : Reg} {i : Instr} {k : AccessKind} (h : accessForm m r i k) :
    k = .read ∨ k = .write := h.imp And.right And.right

/-- Of the debug causes such a MOV leaves those its access meets. -/
theorem exec_accessForm {m : Mem} {r : Reg} {i : Instr} {k : AccessKind} (hl : s.lockOk false = true)
    (hi : accessForm m r i k) (hr : s.readyv k s.opWidth (.mem m) = true) :
    ∃ u, exec i s = .next (finish s u .done) ∧
      u.trap = (s.recordMatches (s.linear (s.memSeg m) (s.memOff m).toNat) (s.opWidth / 8) k).trap := by
  have ready : s.begin.readyv k s.begin.opWidth (.mem m) = true := by simpa using hr
  obtain ⟨rfl, rfl⟩ | ⟨rfl, rfl⟩ := hi
  · exact ⟨_, run_ok hl (bind_ok (getv_ready ready) _), begin_touch_trap s m .read _⟩
  · exact ⟨_, run_ok hl (putv_ready _ ready), (storeBytes_trap ..).trans (begin_touch_trap s m .write _)⟩

/-- Outside protected mode a segment register is loaded without a check. -/
theorem loadSeg_unprotected (hp : s.prot = false) (g : SReg) (sel : Word) :
    ∃ seg, loadSeg g sel s = .ok ((), s.setSeg g seg) := by
  unfold loadSeg
  rw [get_bind_apply]
  by_cases real : s.real = true
  · exact ⟨_, by rw [if_pos real]; rfl⟩
  · have v86 : s.v86 = true := by simp_all [State.prot, State.real, State.v86]
    exact ⟨_, by rw [if_neg real, if_pos v86]; rfl⟩

theorem loadSegShadow_ss {sel : Word} {t : State} (h : loadSeg .ss sel s = .ok ((), t)) :
    loadSegShadow .ss sel s = .ok (.noStep, { t with shadow := .ss }) := by
  unfold loadSegShadow
  rw [bind_ok h]
  simp

theorem exec_movSs (hl : s.lockOk false = true) (hp : s.prot = false) (r : Reg) :
    ∃ u, exec (.movSregRm16 .ss (.reg r)) s = .next (finish s u .noStep) ∧ u.trap = s.trap ∧ u.shadow = .ss := by
  obtain ⟨seg, loaded⟩ := loadSeg_unprotected (s := s.begin) hp .ss (s.begin.reg 16 r)
  exact ⟨_, runEnding_ok hl (loadSegShadow_ss loaded), rfl, rfl⟩

/-! ### What is recorded -/

/-- With RF set an instruction that switches no task leaves no debug cause. -/
theorem finish_trap_of_rf {u : State} (ht : s.trap = .clear) (hf : s.flags.rf = true) (hu : u.trap.taskSwitch = false) :
    (finish s u .done).trap = .clear := by
  rw [finish_done_trap]
  exact settleTrap_clear (by rw [if_pos hf]; exact ⟨ht, hu⟩)

theorem finish_singleStep {u : State} (hf : s.flags.rf = false) (hu : u.trap.singleStep = false) :
    (finish s u .done).trap.singleStep = s.flags.tf := by
  rw [finish_done_trap, settleTrap_singleStep, if_neg (by simp [hf])]
  simp [State.withOwnMatch, hu]

theorem finish_enabled {u : State} (hf : s.flags.rf = false) : (finish s u .done).trap.enabled = u.trap.enabled := by
  rw [finish_done_trap, settleTrap_enabled, if_neg (by simp [hf])]
  rfl

theorem finish_noStep_trap {u : State} (ht : s.trap = .clear) (hf : s.flags.rf = false) (hu : u.trap = s.trap) :
    (finish s u .noStep).trap = .clear := by
  have settled : (finish s u .noStep).trap = settleTrap s.trap (s.withOwnMatch u.trap) s.flags.rf false := by
    simp [finish]
  rw [settled]
  exact settleTrap_clear (by rw [if_neg (by simp [hf])]; simp [State.withOwnMatch, hu, ht, TrapRecord.clear])

/-- What a software interrupt leaves of the single step. -/
theorem software_interrupt_singleStep {i : Instr} {t : State} {n : Byte} (hl : s.lockOk false = true)
    (ht : s.trap = .clear) (hi : i = .intImm8 n ∨ i = .int3 ∨ i = .into ∧ s.flags.ovf = true)
    (h : exec i s = .next t) : t.trap.singleStep = false := by
  have none : s.trap.singleStep = false := by rw [ht]; rfl
  obtain rfl | rfl | ⟨rfl, overflow⟩ := hi
  · exact exec_intImm8_singleStep hl none h
  · exact exec_int3_singleStep hl none h
  · exact exec_into_singleStep hl none overflow h

theorem rf_suppresses {m : Mem} {r : Reg} {i : Instr} (hl : s.lockOk false = true) (ht : s.trap = .clear)
    (hf : s.flags.rf = true) :
    instrBreak s = .ok ((), s) ∧ (∃ t, exec .nop s = .next t ∧ t.trap = .clear) ∧
      ∀ k, accessForm m r i k → s.readyv k s.opWidth (.mem m) = true → ∃ t, exec i s = .next t ∧ t.trap = .clear := by
  have noSwitch : s.trap.taskSwitch = false := by rw [ht]; rfl
  refine ⟨instrBreak_ok (.inr (.inl hf)), ⟨_, exec_nop hl, finish_trap_of_rf ht hf noSwitch⟩, fun k form ready => ?_⟩
  obtain ⟨u, run, trap⟩ := exec_accessForm hl form ready
  exact ⟨_, run, finish_trap_of_rf ht hf (by rw [trap, recordMatches_taskSwitch, noSwitch])⟩

theorem traps_recorded {m : Mem} {r : Reg} {i : Instr} (hl : s.lockOk false = true) (ht : s.trap = .clear)
    (hf : s.flags.rf = false) :
    (∃ t, exec .nop s = .next t ∧ t.trap.singleStep = s.flags.tf ∧ t.trap.enabled = 0) ∧
      (s.prot = false → ∃ t, exec (.movSregRm16 .ss (.reg r)) s = .next t ∧ t.trap = .clear ∧ t.shadow = .ss) ∧
      ∀ k, accessForm m r i k → s.readyv k s.opWidth (.mem m) = true →
        ∃ t, exec i s = .next t ∧ t.trap.singleStep = s.flags.tf ∧ ∀ j, j < 4 →
          t.trap.enabled.getLsbD j =
            s.meets k (s.linear (s.memSeg m) (s.memOff m).toNat) (s.opWidth / 8) j := by
  have noStep : s.trap.singleStep = false := by rw [ht]; rfl
  have noBreak : s.trap.enabled = 0 := by rw [ht]; rfl
  refine ⟨⟨_, exec_nop hl, finish_singleStep hf noStep, (finish_enabled hf).trans noBreak⟩, fun real => ?_,
    fun k form ready => ?_⟩
  · obtain ⟨u, run, trap, shadow⟩ := exec_movSs hl real r
    exact ⟨_, run, finish_noStep_trap ht hf trap, shadow⟩
  · obtain ⟨u, run, trap⟩ := exec_accessForm hl form ready
    refine ⟨_, run, finish_singleStep hf (by rw [trap, recordMatches_singleStep, noStep]), fun j hj => ?_⟩
    rw [finish_enabled hf, trap, recordMatches_enabled noBreak _ _ _ hj,
      dataMatch_eq_meets (accessForm_kind form) _ _ hj]

/-- Settles O57: which event is taken, then what the instructions leave to be taken. -/
theorem boundaryEvents : Obligations.BoundaryEvents := by
  refine ⟨fun s hr hf hc => ⟨?shut, ?wakes, ?halted, ?trap, ?nmi, ?overrun, ?intr, ?breakpoint⟩,
    fun s m r i hl ht => ⟨fun t n hi h => software_interrupt_singleStep hl ht hi h, rf_suppresses hl ht,
      traps_recorded hl ht⟩⟩
  case shut =>
    intro shutdown quiet
    exact step_of_rest hr hf (by rw [event_of_shutdown hc shutdown, quiet]; rfl) (by simp [shutdown])
  case wakes =>
    intro shutdown pending
    exact step_of_event hr hf (by rw [event_of_shutdown hc shutdown, if_pos pending])
  case halted =>
    intro halted noTrap noNmi noOverrun noIntr
    exact step_of_rest hr hf (event_none hc (by simp [halted]) noTrap noNmi noOverrun noIntr) (by simp [halted])
  case trap =>
    rintro ⟨on, shadow⟩ trap first
    obtain ⟨o, u, taken⟩ := takeTrap_eq s
    exact ⟨o, u, (step_of_event hr hf (event_trap hc on shadow trap first)).trans taken⟩
  case nmi =>
    rintro ⟨on, shadow⟩ nmi noTrap
    exact step_of_event hr hf (event_nmi hc on shadow nmi noTrap)
  case overrun =>
    rintro ⟨on, shadow⟩ later noTrap noNmi pending
    exact step_of_event hr hf (event_overrun hc on shadow later noTrap noNmi pending)
  case intr =>
    rintro n ⟨on, shadow⟩ noTrap noNmi noOverrun intr vector
    exact step_of_event hr hf (event_intr hc on shadow noTrap noNmi noOverrun intr vector)
  case breakpoint =>
    intro _ instead repeating rf hits
    exact step_of_instrHits instead hc repeating rf hits

end Sys2Proof.Machine
end

section
/-! PROOFS. What a computation leaves alone, paging and the cache included: a part of the state that no access to memory
changes is as it was when the computation completes. -/
-- One declaration after the other: many proofs at once take more thread stacks than the memory limit allows.
set_option Elab.async false
namespace Sys2Proof.Machine

variable {α β γ : Type} {π : State → γ} {s t u : State}

/-! ### Parts of the state -/

/-- A part of the state that accesses to memory do not change: they change memory, the TLB, the cache with its test
registers, the debug causes, the prefetch queue's old bytes and the count of free values. -/
def Apart (π : State → γ) : Prop := ∀ (s : State) m tlb cache buf tr4 trap stale oracle,
  π { s with mem := m, tlb := tlb, cache := cache, cacheBuf := buf, tr4 := tr4, trap := trap, stale := stale,
             oracle := oracle } = π s

theorem Apart.same (hπ : Apart π) (h : t = { s with
    mem := t.mem, tlb := t.tlb, cache := t.cache, cacheBuf := t.cacheBuf, tr4 := t.tr4, trap := t.trap
    stale := t.stale, oracle := t.oracle } := by rfl) : π t = π s := by
  rw [h]; exact hπ s ..

/-- A computation that completes leaves a part of the state as it was. -/
def Leaves (π : State → γ) (m : M α) : Prop := ∀ s a t, m s = .ok (a, t) → π t = π s

protected theorem Leaves.pure {a : α} : Leaves π (pure a : M α) := fun _ _ _ h => by cases h; rfl

protected theorem Leaves.bind {m : M α} {f : α → M β} (hm : Leaves π m) (hf : ∀ a, Leaves π (f a)) :
    Leaves π (m >>= f) := fun s b t h => by
  rcases bind_cases m f s with ⟨stop, -, early⟩ | ⟨⟨a, u⟩, ok, whole⟩
  · rw [early] at h; cases h
  · rw [whole] at h
    exact (hf a u b t h).trans (hm s a u ok)

protected theorem Leaves.get {f : State → M β} (hf : ∀ s, Leaves π (f s)) : Leaves π (get >>= f) :=
  fun s => hf s s

protected theorem Leaves.modify {f : State → State} (hf : ∀ s, π (f s) = π s) : Leaves π (modify f : M PUnit) :=
  fun s _ _ h => by cases h; exact hf s

protected theorem Leaves.ite {c : Prop} [Decidable c] {m n : M α} (hm : c → Leaves π m) (hn : ¬c → Leaves π n) :
    Leaves π (if c then m else n) := by
  split
  · exact hm ‹c›
  · exact hn ‹¬c›

protected theorem Leaves.raise {e : Exn} : Leaves π (raise e : M α) := fun _ _ _ h => by cases h

protected theorem Leaves.check {ok : Bool} {e : M Unit} (he : Leaves π e) : Leaves π (check ok e) :=
  .ite (fun _ => .pure) fun _ => he

theorem undefinedOpcode_leaves : Leaves π (undefinedOpcode : M α) := fun s a t h => by
  unfold undefinedOpcode at h
  split at h <;> cases h

theorem limitFault_leaves {r : SReg} : Leaves π (limitFault r : M α) := fun s a t h => by
  unfold limitFault at h
  split at h <;> cases h

theorem inNewTask_leaves {m : M Unit} (hm : Leaves π m) : Leaves π (inNewTask m) := fun s a t h => by
  unfold inNewTask at h
  cases end_ : m s with
  | ok r => rw [end_] at h; cases h; exact hm s _ _ end_
  | error stop => rw [end_] at h; cases stop <;> cases h

theorem segCheck_leaves {r : SReg} {k : AccessKind} {off n : Nat} : Leaves π (segCheck r k off n) :=
  .get fun _ => .ite (fun _ => .pure) fun _ =>
    .bind (.check .raise) fun _ => .bind (.check .raise) fun _ => .check limitFault_leaves

/-! ### Memory -/

section
variable (hπ : Apart π)
include hπ

theorem freeBits_leaves {w : Nat} : Leaves π (freeBits w) := fun s _ _ h => by cases h; exact hπ.same

theorem freeBool_leaves : Leaves π freeBool := .bind (freeBits_leaves hπ) fun _ => .pure
theorem freeBelow_leaves {n : Nat} : Leaves π (freeBelow n) := .bind (freeBits_leaves hπ) fun _ => .pure

theorem readMemory_leaves {a : Nat} : Leaves π (readMemory a) := .get fun s => by
  cases s.cfg.regionKind a with
  | absent => exact freeBits_leaves hπ
  | ram => exact .pure
  | rom => exact .pure

theorem noteStore_apart (s : State) (a : Nat) (v : Byte) (m : Memory) : π { s.noteStore a v with mem := m } = π s := by
  unfold State.noteStore
  dsimp only
  split <;> exact hπ.same

theorem writeMemory_leaves {a : Nat} {v : Byte} : Leaves π (writeMemory a v) := .modify fun s => by
  cases s.cfg.regionKind a with
  | absent => rfl
  | ram => exact noteStore_apart hπ s a v _
  | rom => rfl

theorem readBlock_leaves {n a : Nat} : Leaves π (readBlock n a) := by
  induction n generalizing a with
  | zero => exact .pure
  | succ n ih => exact (readMemory_leaves hπ).bind fun _ => ih.bind fun _ => .pure

theorem readPhys_leaves {pcd : Bool} {a : Nat} : Leaves π (readPhys pcd a) := by
  intro s b t h
  unfold readPhys at h
  rw [get_bind_apply] at h
  split at h
  · exact readMemory_leaves hπ s b t h
  · cases found : (cacheGet s.cache (cacheSetOf a)).find a with
    | some way =>
      simp only [found, set_bind_apply, pure_apply] at h
      cases h
      exact hπ.same
    | none =>
      simp only [found] at h
      refine Leaves.ite (fun _ => ?_) (fun _ => readMemory_leaves hπ) s b t h
      exact (readBlock_leaves hπ).bind fun _ => .bind (.modify fun _ => hπ.same) fun _ => .pure

theorem writePhys_leaves {a : Nat} {v : Byte} : Leaves π (writePhys a v) := .bind (writeMemory_leaves hπ) fun _ =>
  .modify fun s => by
    split
    · dsimp only
      split
      · exact hπ.same
      · rfl
    · rfl

theorem readPlaces_leaves {ps : List Place} : Leaves π (readPlaces ps) := by
  induction ps with
  | nil => exact .pure
  | cons p ps ih => exact .bind (readPhys_leaves hπ) fun _ => .bind ih fun _ => .pure

theorem writePlaces_leaves {ps : List Place} {bs : List Byte} : Leaves π (writePlaces ps bs) := by
  induction ps generalizing bs with
  | nil => exact .pure
  | cons p ps ih =>
    cases bs with
    | nil => exact .pure
    | cons b bs => exact .bind (writePhys_leaves hπ) fun _ => ih

/-! ### Paging -/

theorem readEntry_leaves {pcd : Bool} {a : Nat} : Leaves π (readEntry pcd a) :=
  .get fun _ => .bind (readPlaces_leaves hπ) fun _ => .pure

theorem markEntry_leaves {a : Nat} {e : PageEntry} {dirty : Bool} : Leaves π (markEntry a e dirty) :=
  .ite (fun _ => .get fun _ => writePhys_leaves hπ) fun _ => .pure

theorem setTlb_leaves {f : State → Fin 8} {g : State → TlbSet} : Leaves π (modify fun s => s.setTlb (f s) (g s)) :=
  .modify fun _ => hπ.same

theorem chooseWay_leaves {t : TlbSet} : Leaves π (chooseWay t) := by
  unfold chooseWay
  split
  · exact .pure
  · exact .get fun _ => .ite (fun _ => .pure) fun _ => .bind (freeBelow_leaves hπ) fun _ => .pure

theorem tlbInsert_leaves {lin : Nat} {e : TlbEntry} : Leaves π (tlbInsert lin e) :=
  .get fun _ => .bind (chooseWay_leaves hπ) fun _ => setTlb_leaves hπ

theorem walk_leaves {lin : Nat} {write user : Bool} : Leaves π (walk lin write user) :=
  .get fun _ => .bind (readEntry_leaves hπ) fun _ => .bind (.check .raise) fun _ => .bind (readEntry_leaves hπ) fun _ =>
    .bind (.check .raise) fun _ => .bind (.check .raise) fun _ => .bind (markEntry_leaves hπ) fun _ =>
    .bind (markEntry_leaves hπ) fun _ => .get fun _ => .bind (tlbInsert_leaves hπ) fun _ => .pure

theorem translatePage_leaves {lin : Nat} {write user : Bool} : Leaves π (translatePage lin write user) :=
  .get fun s => by
    dsimp only
    split
    · exact walk_leaves hπ
    · refine .ite (fun _ => .bind .pure fun _ => ?_) fun _ => .bind (freeBool_leaves hπ) fun _ => ?_
      all_goals exact .ite (fun _ => .bind (setTlb_leaves hπ) fun _ => .pure) fun _ => walk_leaves hπ

theorem translate_leaves {lin n : Nat} {write user : Bool} : Leaves π (translate lin n write user) :=
  .get fun _ => .ite (fun _ => .pure) fun _ => .bind (translatePage_leaves hπ) fun _ =>
    .ite (fun _ => .pure) fun _ => .bind (translatePage_leaves hπ) fun _ => .pure

theorem sysRead_leaves {lin n : Nat} : Leaves π (sysRead lin n) :=
  .get fun _ => .bind (translate_leaves hπ) fun _ => readPlaces_leaves hπ

theorem sysWrite_leaves {lin : Nat} {bs : List Byte} : Leaves π (sysWrite lin bs) :=
  .get fun _ => .bind (translate_leaves hπ) fun _ => writePlaces_leaves hπ


/-! ### Accesses through a segment register -/

theorem placesOf_leaves {r : SReg} {k : AccessKind} {off n : Nat} : Leaves π (placesOf r k off n) :=
  .get fun _ => .ite (fun _ => .pure) fun _ => translate_leaves hπ

theorem disturbCacheTest_leaves : Leaves π disturbCacheTest :=
  .get fun _ => .ite (fun _ => .bind (freeBits_leaves hπ) fun _ => .bind (freeBits_leaves hπ) fun _ =>
    .modify fun _ => hπ.same) fun _ => .pure

theorem recordMatches_apart (s : State) (lin n : Nat) (k : AccessKind) : π (s.recordMatches lin n k) = π s := by
  unfold State.recordMatches
  split
  · rfl
  · exact hπ.same

theorem access_leaves {r : SReg} {k : AccessKind} {off : Dword} {n b : Nat} : Leaves π (access r k off n b) :=
  .bind segCheck_leaves fun _ => .get fun _ => .bind (.get fun _ => .check .raise) fun _ =>
    .bind (.modify fun s => recordMatches_apart hπ s _ _ _) fun _ => .bind (disturbCacheTest_leaves hπ) fun _ =>
    placesOf_leaves hπ

theorem writeBytes_leaves {r : SReg} {off : Dword} {bs : List Byte} {b : Nat} : Leaves π (writeBytes r off bs b) :=
  .bind (access_leaves hπ) fun _ => writePlaces_leaves hπ

/-- A push changes the stack pointer too. -/
theorem push_leaves (hs : ∀ (s : State) v, π (s.setSp v) = π s) {w : Nat} {v : BitVec w} : Leaves π (push v) :=
  .get fun _ => .bind (writeBytes_leaves hπ) fun _ => .modify fun s => hs s _

/-! ### Descriptors -/

theorem readDescriptor_leaves {sel : Word} {bad : M Unit} (hb : Leaves π bad) : Leaves π (readDescriptor sel bad) :=
  .get fun _ => by
    split
    · exact .bind (sysRead_leaves hπ) fun _ => .pure
    · exact .bind hb fun _ => .raise

theorem markAccessed_leaves {d : Descriptor} {a : Nat} : Leaves π (markAccessed d a) :=
  .ite (fun _ => .pure) fun _ => sysWrite_leaves hπ

/-! ### Fetching -/

/-- Fetching changes the record of the bytes fetched too. -/
theorem fetch_leaves (hc : ∀ (s : State) c, π { s with cur := c } = π s) : Leaves π fetch := by
  have check_ : Leaves π fetchCheck := .get fun _ => .ite (fun _ => .pure) fun _ => .bind (.check .raise) fun _ =>
    .ite (fun _ => .pure) fun _ => .ite (fun _ s a t h => by cases h) fun _ => .raise
  have queued (a : Nat) (b : Byte) : Leaves π (queuedByte a b) := .get fun _ => by
    split
    · exact .pure
    · exact .bind (freeBelow_leaves hπ) fun _ => .pure
  have memory : Leaves π fetchMemory := .get fun _ => .bind (.check .raise) fun _ => .bind check_ fun _ =>
    .bind (placesOf_leaves hπ) fun _ => .bind (readPlaces_leaves hπ) fun _ => queued _ _
  have byte : Leaves π fetchByte := .get fun s => by
    cases s.repeatedByte with
    | some b => exact .bind .pure fun _ => .bind (.modify fun _ => hc _ _) fun _ => .pure
    | none => exact .bind memory fun _ => .bind (.modify fun _ => hc _ _) fun _ => .pure
  have instr (c : DecodeCtx) (n : Nat) (bs : List Byte) : Leaves π (fetchInstr c n bs) := by
    induction n generalizing bs with
    | zero => exact undefinedOpcode_leaves
    | succ n ih =>
      refine .bind byte fun b => ?_
      cases decode c (bs ++ [b]) with
      | ok i rest => exact .pure
      | more => exact ih _
      | undef => exact undefinedOpcode_leaves
  exact .bind (.get fun _ => .ite (fun _ => .bind (freeBits_leaves hπ) fun _ => .raise) fun _ => .pure) fun _ =>
    .get fun _ => instr _ _ _

end

end Sys2Proof.Machine
end

section
/-! PROOFS. What no step at a level above 0 changes: the shared operations load none of these registers, and each
instruction that loads one is refused there. -/
-- One declaration after the other: many proofs at once take more thread stacks than the memory limit allows.
set_option Elab.async false
namespace Sys2Proof.Machine

variable {P : Lasting} {s t u : State}

/-! ### Registers that are loaded at level 0 only -/

/-- The registers a step at a level above 0 leaves alone; CR0 without TS. -/
def State.guarded (s : State) :=
  ((s.gdtr, s.idtr), (s.dr0, s.dr1, s.dr2, s.dr3), (s.tr6, s.tr7), { s.cr0 with ts := false })

theorem guarded_congr (h : t.watched = s.watched) : t.guarded = s.guarded := by
  simp only [State.watched, Prod.mk.injEq] at h
  obtain ⟨-, -, -, cr0, ⟨gdtr, idtr⟩, ⟨dr0, dr1, dr2, dr3⟩, -, ⟨tr6, tr7⟩, -⟩ := h
  simp only [State.guarded, cr0, gdtr, idtr, dr0, dr1, dr2, dr3, tr6, tr7]

/-- These registers are as in a state. -/
def guardedAs (u : State) : Lasting where
  holds s := s.guarded = u.guarded
  same h hs := (guarded_congr h).trans hs
  store _ _ hs := hs
  vmOff hs := hs
  vmOf _ ht := ht
  vmAny _ _ _ ht := ht
  ts _ hs := hs
  dr6 _ _ hs := hs
  dr7 _ hs := hs
  stepOf _ ht := ht

theorem guardedAs_anyStep : (guardedAs u).AnyStep := fun _ _ hs => hs

/-! ### Privileged instructions above level 0 -/

theorem lockCheck_leaves {l : Bool} : Leaves id (lockCheck l) := .get fun _ => .ite (fun _ => .pure) fun _ =>
  .ite (fun _ => .check .raise) fun _ => .bind (.check .raise) fun _ => .check undefinedOpcode_leaves

/-- Running an instruction, by what its effect does from the state it starts in. -/
theorem runEnding_lands_at {l : Bool} {body : M Ending} (hP : P.AnyStep) (hs : P.holds s)
    (hb : Ends P P.holds (body s.begin)) : Lands P (runEnding l body s) := by
  have started : P.holds s.begin := P.keep hs
  have whole : Ends P P.holds ((lockCheck l >>= fun _ => body) s.begin) := by
    rcases bind_cases (lockCheck l) (fun _ => body) s.begin with ⟨stop, early, h⟩ | ⟨⟨a, t⟩, ok, h⟩
    · have locked := lockCheck_keeps (l := l) s.begin started
      rw [early] at locked
      rw [h]
      exact locked.error
    · obtain rfl : t = s.begin := lockCheck_leaves _ _ _ ok
      rw [h]
      exact hb
  intro u hu
  rcases runEnding_next hu with ⟨e, t, ok, rfl⟩ | ⟨e, raised, delivered⟩ | ⟨-, rfl⟩
  · rw [ok] at whole
    exact finish_holds hP (fun _ => hs) whole
  · rw [raised] at whole
    exact deliverExn_lands whole hs u delivered
  · exact shutDown_holds hs

theorem run_lands_at {l : Bool} {body : M Unit} (hP : P.AnyStep) (hs : P.holds s)
    (hb : Ends P (fun _ => False) (body s.begin)) : Lands P (run l body s) :=
  runEnding_lands_at hP hs (Ends.bind hb fun _ _ never => never.elim)

/-- The check for CPL 0 does not pass at another level. -/
theorem privileged_denied (h : s.cpl ≠ 0) :
    privileged s = .error (.exn { Exn.fault 13 (some 0) with oracle := s.oracle }) := by
  unfold privileged
  rw [get_bind_apply, decide_eq_false h]
  rfl

theorem privileged_ends {α : Type} {f : Unit → M α} (h : s.cpl ≠ 0) :
    Ends P (fun _ => False) ((privileged >>= f) s) := by
  rw [bind_error (privileged_denied h)]
  exact fault_fits (vec := 13) (err := some 0)

theorem specialAccess_denied {α : Type} {known : Bool} {f : Unit → M α} (h : s.cpl ≠ 0) :
    Ends P (fun _ => False) ((specialAccess known >>= f) s) := by
  unfold specialAccess
  cases known with
  | true => exact privileged_ends h
  | false =>
    rw [check_false, bind_assoc_apply]
    unfold undefinedOpcode
    rw [bind_apply]
    split
    · trivial
    · exact fault_fits (vec := 6) (err := none)

/-- AT A LEVEL ABOVE 0 every instruction keeps every lasting property. -/
theorem exec_lands_user {i : Instr} (hP : P.AnyStep) (hu : s.cpl ≠ 0) (hs : P.holds s) : Lands P (exec i s) := by
  cases hi : loadsSystem i with
  | false => exact exec_lands hP hi hs
  | true =>
    have started : s.begin.cpl ≠ 0 := hu
    cases i with
    | lmswRm16 | lgdtM | lidtM => exact run_lands_at hP hs (privileged_ends started)
    | movCRnR32 | movDRnR32 => exact run_lands_at hP hs (specialAccess_denied started)
    | movTRnR32 =>
      refine run_lands_at hP hs ?_
      rw [get_bind_apply]
      exact specialAccess_denied started
    | _ => cases hi

/-! ### The step -/

theorem insteadOfInstr_lands {o : Host.Outcome State Fault Refusal} (hP : P.AnyStep) (hs : P.holds s)
    (hr : s.pins.reset = false) (h : s.insteadOfInstr = some o) : Lands P o := by
  unfold State.insteadOfInstr at h
  rw [if_neg (by simp [hr])] at h
  split at h
  · injection h with h
    exact h ▸ lands_next (P.keep hs)
  · split at h
    · next e _ =>
      injection h with h
      exact h ▸ take_lands hP hs
    · split at h
      · cases h
      · injection h with h
        exact h ▸ lands_next hs

theorem runInstr_lands_user (hP : P.AnyStep) (hu : s.cpl ≠ 0) (hs : P.holds s) : Lands P s.runInstr := by
  have ends := fetch_keeps s hs
  unfold State.runInstr
  cases end_ : fetch s with
  | ok r =>
    obtain ⟨i, t⟩ := r
    rw [end_] at ends
    have level : t.cpl = s.cpl := fetch_leaves (π := State.cpl) (fun _ _ _ _ _ _ _ _ _ => rfl) (fun _ _ => rfl) s i t end_
    exact exec_lands_user hP (by rw [level]; exact hu) ends
  | error stop =>
    rw [end_] at ends
    cases stop with
    | exn e => exact deliverExn_lands ends hs
    | shutdown => exact lands_next (shutDown_holds hs)
    | stop f => exact lands_fault

/-- A STEP at a level above 0, RESET apart, keeps every lasting property. -/
theorem step_lands_user (hP : P.AnyStep) (hu : s.cpl ≠ 0) (hr : s.pins.reset = false) (hs : P.holds s) :
    Lands P (step s) := by
  unfold step
  cases hi : s.insteadOfInstr with
  | some o => exact insteadOfInstr_lands hP hs hr hi
  | none => exact runInstr_lands_user hP hu hs

/-- Settles O56: that these registers are as they were is a lasting property. -/
theorem userModeLimits : Obligations.UserModeLimits := by
  intro s t hu hr h
  have kept : t.guarded = s.guarded := step_lands_user (P := guardedAs s) guardedAs_anyStep hu hr rfl t h
  simp only [State.guarded, Prod.mk.injEq] at kept
  obtain ⟨⟨gdtr, idtr⟩, ⟨dr0, dr1, dr2, dr3⟩, ⟨tr6, tr7⟩, cr0⟩ := kept
  exact ⟨gdtr, idtr, dr0, dr1, dr2, dr3, tr6, tr7, congrArg (fun c : Cr0 => { c with ts := t.cr0.ts }) cr0⟩

end Sys2Proof.Machine
end

section
/-! PROOFS. What refuses an instruction before its effect: LOCK, the privilege level, IOPL, and the mode. -/
-- One declaration after the other: many proofs at once take more thread stacks than the memory limit allows.
set_option Elab.async false
namespace Sys2Proof.Machine

variable {α : Type} {s : State}

/-! ### Instructions that raise a fault and do nothing else -/

/-- Every instruction, LOCK itself and its like apart, is run after the check for LOCK, and allows it as `mayLock` says. -/
theorem exec_eq_runEnding {i : Instr} (hi : isPrefix i = false) (s : State) :
    ∃ body, exec i s = runEnding (mayLock i) body s := by
  cases i with
  | prefixEs | prefixCs | prefixSs | prefixDs | prefixFs | prefixGs | prefixOperandSize | prefixAddressSize
    | prefixLock | prefixRepne | prefixRep => cases hi
  | _ => exact ⟨_, rfl⟩

/-- What a computation ends in when it raises a fault of the instruction that is running. -/
def State.fault (s : State) (vec : Byte) (err : Option Word) : Abort :=
  .exn { Exn.fault vec err with oracle := s.oracle }

theorem gp0_fault : (gp0 : M α) s = .error (s.fault 13 (some 0)) := rfl

theorem undefinedOpcode_fault (h : s.level ≠ 0) : (undefinedOpcode : M α) s = .error (s.fault 6 none) := by
  unfold undefinedOpcode
  rw [if_neg (show ¬s.cfg.cpu.level = 0 from h)]
  rfl

theorem undefinedOpcode_stop (h : s.level = 0) : (undefinedOpcode : M α) s = .error (.stop .undefinedOpcode) := by
  unfold undefinedOpcode
  rw [if_pos (show s.cfg.cpu.level = 0 from h)]

/-- A check that fails and what follows it. -/
theorem check_denied {β : Type} {ok : Bool} {e : M Unit} {stop : Abort} (h : ok = false) (he : e s = .error stop)
    (f : Unit → M β) : (check ok e >>= f) s = .error stop := check_bind_bad h f he

theorem runEnding_faults {l : Bool} {body : M Ending} {vec : Byte} {err : Option Word} (hl : s.lockOk l = true)
    (h : body s.begin = .error (s.fault vec err)) : runEnding l body s = s.faults vec err := runEnding_exn hl h

theorem run_faults {l : Bool} {body : M Unit} {vec : Byte} {err : Option Word} (hl : s.lockOk l = true)
    (h : body s.begin = .error (s.fault vec err)) : run l body s = s.faults vec err := run_exn hl h

/-! ### LOCK -/

theorem runEnding_lock_faults {l : Bool} {body : M Ending} {vec : Byte} {err : Option Word}
    (h : lockCheck l s.begin = .error (s.fault vec err)) : runEnding l body s = s.faults vec err := by
  unfold runEnding
  rw [bind_error h]
  rfl

/-- LOCK in V86 mode below IOPL 3. -/
theorem lockCheck_v86 {l : Bool} (hl : s.cur.lock = true) (hp : 3 ≤ s.level) (hv : s.v86 = true)
    (hi : s.flags.iopl ≠ 3) : lockCheck l s.begin = .error (s.fault 13 (some 0)) := by
  unfold lockCheck
  rw [get_bind_apply, if_neg (by simp [hl, show s.level ≠ 0 by omega]), if_neg (show s.begin.level ≠ 2 by rw [begin_level]; omega)]
  exact check_denied (show (!s.v86 || decide (s.flags.iopl = 3)) = false by rw [hv, decide_eq_false hi]; rfl)
    gp0_fault _

/-- LOCK before an instruction it may not precede. -/
theorem lockCheck_forbidden (hl : s.cur.lock = true) (hp : 3 ≤ s.level) (hv : s.v86 = true → s.flags.iopl = 3) :
    lockCheck false s.begin = .error (s.fault 6 none) := by
  unfold lockCheck
  rw [get_bind_apply, if_neg (by simp [hl, show s.level ≠ 0 by omega]), if_neg (show s.begin.level ≠ 2 by rw [begin_level]; omega),
    check_bind_ok (by cases h : s.v86 <;> simp [h, hv])]
  exact undefinedOpcode_fault (show s.level ≠ 0 by omega)

/-- LOCK above IOPL on the 80286. -/
theorem lockCheck_286 {l : Bool} (hl : s.cur.lock = true) (hp : s.level = 2) (hr : s.real = false)
    (hi : s.flags.iopl.toNat < s.cpl) : lockCheck l s.begin = .error (s.fault 13 (some 0)) := by
  unfold lockCheck
  rw [get_bind_apply, if_neg (by simp [hl, hp]), if_pos (by simp [hp])]
  have above : (s.real || decide (s.cpl ≤ s.flags.iopl.toNat)) = false := by simpa [hr] using hi
  show check (s.real || decide (s.cpl ≤ s.flags.iopl.toNat)) gp0 s.begin = _
  rw [above]
  rfl

theorem lock_refusals (s : State) (i : Instr) (hl : s.cur.lock = true) :
    (3 ≤ s.level → (s.v86 = true → s.flags.iopl = 3) → mayLock i = false → exec i s = s.faults 6 none) ∧
    (3 ≤ s.level → s.v86 = true → s.flags.iopl ≠ 3 → isPrefix i = false → exec i s = s.faults 13 (some 0)) ∧
    (s.level = 2 → s.real = false → s.flags.iopl.toNat < s.cpl → isPrefix i = false →
      exec i s = s.faults 13 (some 0)) := by
  refine ⟨fun hp hv may => ?_, fun hp hv iopl pre => ?_, fun hp hr iopl pre => ?_⟩
  · have pre : isPrefix i = false := by
      cases h : isPrefix i with
      | false => rfl
      | true => cases i with
        | prefixEs | prefixCs | prefixSs | prefixDs | prefixFs | prefixGs | prefixOperandSize | prefixAddressSize
          | prefixLock | prefixRepne | prefixRep => cases may
        | _ => cases h
    obtain ⟨body, runs⟩ := exec_eq_runEnding pre s
    rw [runs, may]
    exact runEnding_lock_faults (lockCheck_forbidden hl hp hv)
  · obtain ⟨body, runs⟩ := exec_eq_runEnding pre s
    rw [runs]
    exact runEnding_lock_faults (lockCheck_v86 hl hp hv iopl)
  · obtain ⟨body, runs⟩ := exec_eq_runEnding pre s
    rw [runs]
    exact runEnding_lock_faults (lockCheck_286 hl hp hr iopl)

/-! ### Levels and modes -/

theorem privileged_fault (h : s.cpl ≠ 0) (f : Unit → M α) : (privileged >>= f) s = .error (s.fault 13 (some 0)) :=
  bind_error (privileged_denied h) f

theorem specialAccess_fault (h : s.cpl ≠ 0) (f : Unit → M α) :
    (specialAccess true >>= f) s = .error (s.fault 13 (some 0)) := privileged_fault h f

theorem ioplSensitive_fault (hr : s.real = false) (h : s.flags.iopl.toNat < s.cpl) (f : Unit → M α) :
    (ioplSensitive >>= f) s = .error (s.fault 13 (some 0)) := by
  refine bind_error ?_ f
  unfold ioplSensitive
  rw [get_bind_apply, hr, decide_eq_false (Nat.not_le.2 h)]
  rfl

theorem v86Sensitive_fault (hv : s.v86 = true) (h : s.flags.iopl ≠ 3) (f : Unit → M α) :
    (v86Sensitive >>= f) s = .error (s.fault 13 (some 0)) := by
  refine bind_error ?_ f
  unfold v86Sensitive
  rw [get_bind_apply, hv, decide_eq_false h]
  rfl

theorem protectedOnly_fault (hp : s.prot = false) (hl : s.level ≠ 0) (f : Unit → M α) :
    (protectedOnly >>= f) s = .error (s.fault 6 none) := by
  refine bind_error ?_ f
  unfold protectedOnly
  rw [get_bind_apply, hp]
  exact undefinedOpcode_fault hl

theorem protectedOnly_pass (hp : s.prot = true) (f : Unit → M α) : (protectedOnly >>= f) s = f () s :=
  bind_ok (by unfold protectedOnly; rw [get_bind_apply, hp]; rfl) f

theorem not_prot_of_v86 (h : s.v86 = true) : s.prot = false := by simp_all [State.v86, State.prot]
theorem not_v86_of_prot (h : s.prot = true) : s.v86 = false := by simp_all [State.v86, State.prot]

theorem knownCr_of_mem : ∀ n : BitVec 3, n ∈ [0, 2, 3] → knownCr n = true := by decide
theorem knownDr_of_mem : ∀ n : BitVec 3, n ∈ [0, 1, 2, 3, 6, 7] → knownDr n = true := by decide
theorem knownTr_of_mem (level : Nat) (n : BitVec 3) (h : n ∈ [6, 7]) : knownTr level n = true := by
  simp only [List.mem_cons, List.not_mem_nil, or_false] at h
  obtain rfl | rfl := h <;> rfl

section
variable (hl : s.lockOk false = true)
include hl

/-- MOV to CS. -/
theorem movToCs_refused (d : Rmv) :
    (s.level ≠ 0 → exec (.movSregRm16 .cs d) s = s.faults 6 none) ∧
    (s.level = 0 → exec (.movSregRm16 .cs d) s = .fault .undefinedOpcode) := by
  refine ⟨fun new => runEnding_faults (body := movToSeg .cs d) hl
    (check_denied rfl (undefinedOpcode_fault (s := s.begin) new) _), fun old => ?_⟩
  have stops : (lockCheck false >>= fun _ => movToSeg .cs d) s.begin = .error (.stop .undefinedOpcode) := by
    rw [bind_ok (lockCheck_eq (s := s.begin) false hl)]
    exact check_denied rfl (undefinedOpcode_stop (s := s.begin) old) _
  show runEnding false (movToSeg .cs d) s = _
  unfold runEnding
  rw [stops]

/-- A move to or from a special register. -/
theorem special_refused (hu : s.cpl ≠ 0) {known : Bool} (hk : known = true) (f : Unit → M Unit) :
    run false (specialAccess known >>= f) s = s.faults 13 (some 0) := by
  subst hk
  exact run_faults hl (specialAccess_fault (s := s.begin) hu f)

/-- A move to or from a test register of the TLB. -/
theorem testRegister_refused (hu : s.cpl ≠ 0) {n : BitVec 3} (hn : n ∈ [6, 7]) (f : Unit → M Unit) :
    run false (get >>= fun u => specialAccess (knownTr u.level n) >>= f) s = s.faults 13 (some 0) := by
  refine run_faults hl ?_
  rw [get_bind_apply, knownTr_of_mem _ n hn]
  exact specialAccess_fault (s := s.begin) hu f

/-- An instruction whose effect begins with the check for CPL 0. -/
theorem privileged_refused (hu : s.cpl ≠ 0) (f : Unit → M Unit) :
    run false (privileged >>= f) s = s.faults 13 (some 0) := run_faults hl (privileged_fault (s := s.begin) hu f)

/-- An instruction of protected mode outside it. -/
theorem protectedOnly_refused (hp : s.prot = false) (hn : s.level ≠ 0) (f : Unit → M Unit) :
    run false (protectedOnly >>= f) s = s.faults 6 none := run_faults hl (protectedOnly_fault (s := s.begin) hp hn f)

/-- An instruction of protected mode that needs CPL 0. -/
theorem protectedPrivileged_refused (hp : s.prot = true) (hu : s.cpl ≠ 0) (f : Unit → M Unit) :
    run false (protectedOnly >>= fun _ => privileged >>= f) s = s.faults 13 (some 0) :=
  run_faults hl ((protectedOnly_pass (s := s.begin) hp _).trans (privileged_fault (s := s.begin) hu f))

theorem invlpg_refused (m : Mem) :
    (s.prot = true → s.cpl ≠ 0 → exec (.invlpgM m) s = s.faults 13 (some 0)) ∧
      (s.v86 = true → s.level ≠ 0 → exec (.invlpgM m) s = s.faults 6 none) := by
  refine ⟨fun hp hu => run_faults hl (bind_error ?_ _), fun hv hn => run_faults hl (bind_error ?_ _)⟩
  · unfold invlpgAllowed
    rw [get_bind_apply, check_bind_ok (show (!s.begin.v86) = true by rw [begin_v86, not_v86_of_prot hp]; rfl)]
    exact privileged_denied (s := s.begin) hu
  · unfold invlpgAllowed
    rw [get_bind_apply]
    exact check_denied (show (!s.v86) = false by rw [hv]; rfl) (undefinedOpcode_fault (s := s.begin) hn) _
end

/-- Settles O48: LOCK first, MOV to CS, then the checks each of the other instructions begins with. -/
theorem privileges : Obligations.Privileges := by
  refine ⟨lock_refusals, fun s d hl => movToCs_refused hl d, fun s m d r n b hl hn => ⟨fun hu i hi => ?_,
    fun hr iopl i hi => ?_, fun hv iopl i hi => ?_, fun hp i hi => ?_⟩⟩
  · rcases hi with rfl | rfl | rfl | rfl | rfl | rfl | rfl | ⟨hk, rfl | rfl⟩ | ⟨hk, rfl | rfl⟩ | ⟨hk, rfl | rfl⟩ |
      ⟨hp, rfl | rfl | rfl⟩
    · exact privileged_refused hl hu _
    · exact privileged_refused hl hu _
    · exact privileged_refused hl hu _
    · exact privileged_refused hl hu _
    · exact privileged_refused hl hu _
    · exact privileged_refused hl hu _
    · exact privileged_refused hl hu _
    · exact special_refused hl hu (knownCr_of_mem n hk) _
    · exact special_refused hl hu (knownCr_of_mem n hk) _
    · exact special_refused hl hu (knownDr_of_mem n hk) _
    · exact special_refused hl hu (knownDr_of_mem n hk) _
    · exact testRegister_refused hl hu hk _
    · exact testRegister_refused hl hu hk _
    · exact protectedPrivileged_refused hl hp hu _
    · exact protectedPrivileged_refused hl hp hu _
    · exact (invlpg_refused hl m).1 hp hu
  · rcases hi with rfl | rfl
    · exact run_faults hl (ioplSensitive_fault (s := s.begin) hr iopl _)
    · exact run_faults hl (ioplSensitive_fault (s := s.begin) hr iopl _)
  · rcases hi with rfl | rfl | rfl | rfl
    · exact run_faults hl (v86Sensitive_fault (s := s.begin) hv iopl _)
    · exact run_faults hl (v86Sensitive_fault (s := s.begin) hv iopl _)
    · refine runEnding_faults hl ?_
      unfold iretAny
      rw [get_bind_apply, begin_prot, not_prot_of_v86 hv]
      refine bind_error ?_ _
      exact v86Sensitive_fault (s := s.begin) hv iopl _
    · exact runEnding_faults hl (v86Sensitive_fault (s := s.begin) hv iopl _)
  · rcases hi with rfl | rfl | rfl | rfl | rfl | rfl | rfl | rfl | rfl | ⟨rfl, hv⟩
    · exact protectedOnly_refused hl hp hn _
    · exact protectedOnly_refused hl hp hn _
    · exact protectedOnly_refused hl hp hn _
    · exact protectedOnly_refused hl hp hn _
    · exact protectedOnly_refused hl hp hn _
    · exact protectedOnly_refused hl hp hn _
    · exact protectedOnly_refused hl hp hn _
    · exact protectedOnly_refused hl hp hn _
    · exact protectedOnly_refused hl hp hn _
    · exact (invlpg_refused hl m).2 hv hn

end Sys2Proof.Machine
end

section
/-! PROOFS. System tables with paging off: where their bytes lie, what the processor's own accesses to them do, and the
descriptors found and marked there. -/
-- One declaration after the other: many proofs at once take more thread stacks than the memory limit allows.
set_option Elab.async false
namespace Sys2Proof.Machine

variable {α : Type} {s t : State}

/-! ### What accesses leave behind -/

/-- What accesses to memory leave behind, with paging and the cache off. -/
structure Trace where
  mem : Memory
  trap : TrapRecord
  stale : List StaleByte
  oracle : Nat

/-- The state with what accesses left behind. -/
def State.after (s : State) (x : Trace) : State :=
  { s with mem := x.mem, trap := x.trap, stale := x.stale, oracle := x.oracle }

/-- What accesses have left behind in a state. -/
def State.trace (s : State) : Trace := { mem := s.mem, trap := s.trap, stale := s.stale, oracle := s.oracle }

theorem State.SameButMem.after (h : s.SameButMem t) : t = s.after { t.trace with oracle := s.oracle } := h

/-- Stored bytes as what is left behind. -/
theorem storeBytes_after (s : State) (as : List Nat) (bs : List Byte) :
    s.storeBytes as bs = s.after { (s.storeBytes as bs).trace with oracle := s.oracle } :=
  (storeBytes_same s as bs).after

/-! ### Where the bytes of a table lie -/

theorem physical_congr {a b : Nat} (h : a % 2 ^ s.addressLines = b % 2 ^ s.addressLines) :
    s.physical a = s.physical b := by
  unfold State.physical
  rw [h]

/-- The processors with addresses of 24 bits drive at most 24 address lines. -/
theorem addressLines_old (h : s.level ≤ 2) : s.addressLines = 20 ∨ s.addressLines = 24 := by
  unfold State.addressLines
  split
  · exact .inl rfl
  · unfold State.level at h
    cases hc : s.cfg.cpu <;> simp_all [Cpu.level, Cpu.addressBits]

/-- A byte of a table further on. -/
theorem tablePlace_add (s : State) (a i j : Nat) : s.tablePlace (a + i) j = s.tablePlace a (i + j) := by
  unfold State.tablePlace State.linearMod
  by_cases old : s.level ≤ 2
  · rw [if_pos old]
    apply physical_congr
    rcases addressLines_old old with h | h <;> rw [h] <;> omega
  · rw [if_neg old]
    congr 1
    omega

theorem tablePlace_mod (s : State) (a i : Nat) : s.tablePlace a i % 2 ^ 20 = (a + i) % 2 ^ 20 := by
  unfold State.tablePlace State.linearMod
  rw [physical_mod]
  split <;> omega

/-- Two bytes of one table lie at two addresses. -/
theorem tablePlace_inj (s : State) (a : Nat) {i j : Nat} (hi : i < 65536) (hj : j < 65536)
    (h : s.tablePlace a i = s.tablePlace a j) : i = j := by
  have hi' := tablePlace_mod s a i
  have hj' := tablePlace_mod s a j
  rw [h] at hi'
  omega

theorem tablePlaces_nodup (s : State) (a : Nat) {n : Nat} (hn : n ≤ 65536) :
    ((List.range n).map (s.tablePlace a)).Nodup := by
  refine List.Nodup.map_on (fun i hi j hj h => ?_) List.nodup_range
  rw [List.mem_range] at hi hj
  exact tablePlace_inj s a (by omega) (by omega) h

/-! ### Reading and writing tables -/

theorem tableOk_iff {k : AccessKind} {lin n : Nat} : s.tableOk k lin n = true ↔
    s.cacheOn = false ∧ s.cr0.pg = false ∧ Memory.wf s.mem = true ∧ ∀ i, i < n → s.mapped k (s.tablePlace lin i) = true := by
  simp only [State.tableOk, State.flat, State.memoryOk, Bool.and_eq_true, Bool.or_eq_true, Bool.not_eq_true',
    List.all_eq_true, List.mem_range]
  grind

/-- Part of a table. -/
theorem tableOk_part {k : AccessKind} {lin n : Nat} (h : s.tableOk k lin n = true) {i m : Nat} (hm : i + m ≤ n) :
    s.tableOk k (lin + i) m = true := by
  obtain ⟨cache, paging, mem, mapped⟩ := tableOk_iff.1 h
  refine tableOk_iff.2 ⟨cache, paging, mem, fun j hj => ?_⟩
  rw [tablePlace_add]
  exact mapped _ (by omega)

theorem tableOk_update {lin n : Nat} (h : s.tableOk .update lin n = true) :
    s.tableOk .read lin n = true ∧ s.tableOk .write lin n = true := by
  obtain ⟨cache, paging, mem, mapped⟩ := tableOk_iff.1 h
  exact ⟨tableOk_iff.2 ⟨cache, paging, mem, fun i hi => (mapped_update _ (mapped i hi)).1⟩,
    tableOk_iff.2 ⟨cache, paging, mem, fun i hi => (mapped_update _ (mapped i hi)).2⟩⟩

/-- With paging off an own access goes to the places of the table. -/
theorem translate_table (h : s.cr0.pg = false) (lin n : Nat) (write user : Bool) :
    translate (lin % s.linearMod) n write user s =
      .ok (((List.range n).map (s.tablePlace lin)).map fun a => { addr := a, pcd := s.pcdOf s.cr3 }, s) := by
  unfold translate
  simp only [get_bind_apply, h, Bool.not_false, if_true, pure_apply, List.map_map]
  rfl

/-- The bytes of a table. -/
def State.tableBytes (s : State) (lin n : Nat) : List Byte :=
  (List.range n).map fun i => Memory.read s.mem (s.tablePlace lin i)

/-- READING a table. -/
theorem sysRead_flat {lin n : Nat} (h : s.tableOk .read lin n = true) : sysRead lin n s = .ok (s.tableBytes lin n, s) := by
  obtain ⟨cache, paging, -, mapped⟩ := tableOk_iff.1 h
  unfold sysRead
  rw [get_bind_apply, bind_ok (translate_table paging lin n false false), readPlaces_flat cache]
  · rw [List.map_map]; rfl
  · intro a ha
    obtain ⟨i, hi, rfl⟩ := List.mem_map.1 ha
    exact mapped i (List.mem_range.1 hi)

theorem sysRead16_flat {lin : Nat} (h : s.tableOk .read lin 2 = true) : sysRead16 lin s = .ok (s.tableVal 16 lin, s) := by
  unfold sysRead16
  rw [bind_ok (sysRead_flat h)]
  rfl

theorem sysRead32_flat {lin : Nat} (h : s.tableOk .read lin 4 = true) : sysRead32 lin s = .ok (s.tableVal 32 lin, s) := by
  unfold sysRead32
  rw [bind_ok (sysRead_flat h)]
  rfl

/-- WRITING a table. -/
theorem sysWrite_flat {lin : Nat} {bs : List Byte} (h : s.tableOk .write lin bs.length = true) :
    sysWrite lin bs s = .ok ((), s.storeBytes ((List.range bs.length).map (s.tablePlace lin)) bs) := by
  obtain ⟨cache, paging, -, mapped⟩ := tableOk_iff.1 h
  unfold sysWrite
  rw [get_bind_apply, bind_ok (translate_table paging lin bs.length true false), writePlaces_flat _ _ _ _ cache]
  intro a ha
  obtain ⟨i, hi, rfl⟩ := List.mem_map.1 ha
  exact mapped i (List.mem_range.1 hi)

/-- Memory `m'` is `m` with these bytes at the places of a table from a linear address on. -/
structure State.TableWrite (s : State) (lin : Nat) (bs : List Byte) (m m' : Memory) : Prop where
  wf : Memory.wf m' = true
  bytes : ∀ i (h : i < bs.length), Memory.read m' (s.tablePlace lin i) = bs[i]
  others : ∀ a, (∀ i, i < bs.length → a ≠ s.tablePlace lin i) → Memory.read m' a = Memory.read m a

/-- WRITING a table, by what it leaves behind. -/
theorem sysWrite_after {lin : Nat} {bs : List Byte} (h : s.tableOk .write lin bs.length = true)
    (hn : bs.length ≤ 65536) :
    ∃ x, sysWrite lin bs s = .ok ((), s.after x) ∧ x.trap = s.trap ∧ x.oracle = s.oracle ∧
      s.TableWrite lin bs s.mem x.mem := by
  have wf := (tableOk_iff.1 h).2.2.1
  have nodup := tablePlaces_nodup s lin hn
  have run := sysWrite_flat h
  generalize hp : (List.range bs.length).map (s.tablePlace lin) = places at nodup run
  rw [storeBytes_after] at run
  refine ⟨_, run, storeBytes_trap _ _ _, rfl, storeBytes_wf _ _ _ wf, fun i hi => ?_, fun a ha => ?_⟩
  · have stored := storeBytes_read places bs s nodup (by simp [← hp]) wf
    have at_ := congrArg (fun l => l[i]?) stored
    show Memory.read (s.storeBytes places bs).mem _ = _
    simpa [← hp, hi] using at_
  · refine storeBytes_read_other _ _ _ fun hin => ?_
    rw [← hp] at hin
    obtain ⟨i, hi, e⟩ := List.mem_map.1 hin
    exact ha i (List.mem_range.1 hi) e.symm

/-! ### States that see the same tables -/

/-- Both states are in protected or V86 mode, of one machine, with the same use of paging: their tables lie at the same
places. -/
structure State.TableWay (s t : State) : Prop where
  cfg : t.cfg = s.cfg
  pe : s.cr0.pe = true
  pe' : t.cr0.pe = true
  pg : t.cr0.pg = s.cr0.pg

namespace State.TableWay
variable (h : s.TableWay t)
include h

theorem level : t.level = s.level := by unfold State.level; rw [h.cfg]

theorem physical (a : Nat) : t.physical a = s.physical a := by
  have lines : t.addressLines = s.addressLines := by
    unfold State.addressLines State.real
    rw [h.pe, h.pe', h.cfg]
    simp
  unfold State.physical
  rw [lines, h.level, h.cfg]

theorem tablePlace (lin i : Nat) : t.tablePlace lin i = s.tablePlace lin i := by
  unfold State.tablePlace State.linearMod
  rw [h.physical, h.level]

theorem tableOk (hm : Memory.wf t.mem = true) {k : AccessKind} {lin n : Nat} (ok : s.tableOk k lin n = true) :
    t.tableOk k lin n = true := by
  obtain ⟨cache, paging, -, mapped⟩ := tableOk_iff.1 ok
  refine tableOk_iff.2 ⟨?_, h.pg.trans paging, hm, fun i hi => ?_⟩
  · unfold State.cacheOn at cache ⊢
    rw [h.level, h.cfg]
    exact cache
  · rw [h.tablePlace]
    unfold State.mapped
    rw [h.cfg]
    exact mapped i hi

theorem tableBytes {lin n : Nat}
    (hm : ∀ i, i < n → Memory.read t.mem (s.tablePlace lin i) = Memory.read s.mem (s.tablePlace lin i)) :
    t.tableBytes lin n = s.tableBytes lin n := by
  refine List.map_congr_left fun i hi => ?_
  rw [h.tablePlace]
  exact hm i (List.mem_range.1 hi)

theorem tableVal {w lin : Nat}
    (hm : ∀ i, i < w / 8 → Memory.read t.mem (s.tablePlace lin i) = Memory.read s.mem (s.tablePlace lin i)) :
    t.tableVal w lin = s.tableVal w lin := congrArg (leValue w) (h.tableBytes hm)

end State.TableWay

/-! ### The bytes of a value -/

theorem leNat_lt (bs : List Byte) : leNat bs < 256 ^ bs.length := by
  induction bs with
  | nil => simp [leNat]
  | cons b bs ih =>
    have := b.isLt
    simp only [leNat, List.length_cons, Nat.pow_succ]
    omega

theorem leNat_byte (bs : List Byte) (i : Nat) (h : i < bs.length) : leNat bs / 256 ^ i % 256 = bs[i].toNat := by
  induction bs generalizing i with
  | nil => simp at h
  | cons b bs ih =>
    have small := b.isLt
    cases i with
    | zero => simp only [leNat, Nat.pow_zero, Nat.div_one, List.getElem_cons_zero]; omega
    | succ i =>
      simp only [leNat, List.getElem_cons_succ, Nat.pow_succ, Nat.mul_comm (256 ^ i)]
      rw [← Nat.div_div_eq_div_mul, show (b.toNat + 256 * leNat bs) / 256 = leNat bs by omega]
      exact ih i (by simpa using h)

/-- A byte of a value. -/
theorem leValue_byte {w : Nat} (bs : List Byte) (i : Nat) (h : i < bs.length) (hw : 8 * bs.length ≤ w) :
    (leValue w bs).extractLsb' (8 * i) 8 = bs[i] := by
  have bound : leNat bs < 2 ^ w := by
    refine Nat.lt_of_lt_of_le (leNat_lt bs) ?_
    rw [show (256 : Nat) = 2 ^ 8 from rfl, ← Nat.pow_mul]
    exact Nat.pow_le_pow_right (by decide) hw
  apply BitVec.eq_of_toNat_eq
  rw [BitVec.extractLsb'_toNat, leValue, BitVec.toNat_ofNat, Nat.mod_eq_of_lt bound, Nat.shiftRight_eq_div_pow,
    Nat.pow_mul]
  exact leNat_byte bs i h

/-- The access byte of a descriptor in a table. -/
theorem dAccess_tableVal (s : State) (a : Nat) :
    dAccess (s.tableVal 64 a) = Memory.read s.mem (s.tablePlace (a + 5) 0) := by
  have byte := leValue_byte (w := 64) (s.tableBytes a 8) 5 (by simp [State.tableBytes]) (by simp [State.tableBytes])
  rw [tablePlace_add]
  exact byte.trans (by simp [State.tableBytes])

/-! ### Descriptors -/

theorem finds_access {sel : Word} {d : Descriptor} {a : Nat} (h : s.finds sel d a) :
    Memory.read s.mem (s.tablePlace (a + 5) 0) = dAccess d := by
  obtain ⟨-, -, rfl⟩ := h
  exact (dAccess_tableVal s a).symm

/-- A selector that finds a descriptor. -/
theorem readDescriptor_finds {sel : Word} {d : Descriptor} {a : Nat} (h : s.finds sel d a) (bad : M Unit) :
    readDescriptor sel bad s = .ok ((d, a), s) := by
  obtain ⟨addr, ok, rfl⟩ := h
  unfold readDescriptor
  simp only [get_bind_apply, addr]
  rw [bind_ok (sysRead_flat ok)]
  rfl

/-- A selector outside its table. -/
theorem readDescriptor_outside {sel : Word} (h : s.descAddr sel = none) {bad : M Unit} {stop : Abort}
    (hb : bad s = .error stop) : readDescriptor sel bad s = .error stop := by
  unfold readDescriptor
  simp only [get_bind_apply, h]
  exact bind_error hb _

/-- A selector finds in another state what it finds in this one. -/
theorem State.TableWay.finds (h : s.TableWay t) {sel : Word} {d : Descriptor} {a : Nat} (hf : s.finds sel d a)
    (haddr : t.descAddr sel = s.descAddr sel) (hwf : Memory.wf t.mem = true)
    (hm : ∀ i, i < 8 → Memory.read t.mem (s.tablePlace a i) = Memory.read s.mem (s.tablePlace a i)) :
    t.finds sel d a := by
  obtain ⟨addr, ok, val⟩ := hf
  exact ⟨haddr.trans addr, h.tableOk hwf ok, (h.tableVal hm).trans val⟩

/-- Memory `m'` is `m` with the accessed bit set in the byte at an address. -/
def MarkedAt (m m' : Memory) (p : Nat) : Prop :=
  (∀ x, x ≠ p → Memory.read m' x = Memory.read m x) ∧ Memory.read m' p = Memory.read m p ||| 1

theorem marked_bit (b : Byte) (h : b.getLsbD 0 = true) : b ||| 1 = b := by
  revert b; decide

/-- MARKING a descriptor whose access byte memory still holds. -/
theorem markAccessed_after {d : Descriptor} {a : Nat} (h : s.tableOk .write (a + 5) 1 = true)
    (hd : Memory.read s.mem (s.tablePlace (a + 5) 0) = dAccess d) :
    ∃ x, markAccessed d a s = .ok ((), s.after x) ∧ x.trap = s.trap ∧ x.oracle = s.oracle ∧
      Memory.wf x.mem = true ∧ MarkedAt s.mem x.mem (s.tablePlace (a + 5) 0) := by
  unfold markAccessed
  by_cases marked : (dAccess d).getLsbD 0 = true
  · rw [if_pos marked]
    refine ⟨s.trace, rfl, rfl, rfl, (tableOk_iff.1 h).2.2.1, fun _ _ => rfl, ?_⟩
    show Memory.read s.mem _ = _
    rw [hd, marked_bit _ marked]
  · rw [if_neg marked]
    obtain ⟨x, run, trap, oracle, wf, bytes, others⟩ := sysWrite_after (bs := [dAccess d ||| 1]) h (by simp)
    refine ⟨x, run, trap, oracle, wf, fun y hy => others y fun i hi => ?_, ?_⟩
    · obtain rfl : i = 0 := by simpa using hi
      exact hy
    · rw [hd]
      exact bytes 0 (by simp)

end Sys2Proof.Machine
end

section
/-! PROOFS. Items pushed on a stack one after the other, with paging off: where they lie, and what stands there in the
end. -/
-- One declaration after the other: many proofs at once take more thread stacks than the memory limit allows.
set_option Elab.async false
namespace Sys2Proof.Machine

variable {s t u : State} {w : Nat}

/-! ### The stack pointer -/

/-- The general registers with a new stack pointer. -/
def State.spRegs (s : State) (v : Dword) : Gpr :=
  if s.stack32 then s.regs.set .esp (mergeLow (s.regs.get .esp) v)
  else s.regs.set .esp (mergeLow (s.regs.get .esp) (v.setWidth 16 : Word))

/-- The state with a new stack pointer. -/
def State.withSp (s : State) (v : Dword) : State := { s with regs := s.spRegs v }

theorem setSp_eq (s : State) (v : Dword) : s.setSp v = s.withSp v := by
  unfold State.setSp State.withSp State.spRegs
  split <;> rfl

theorem mergeLow_mergeLow {w : Nat} (old : Dword) (a b : BitVec w) : mergeLow (mergeLow old a) b = mergeLow old b := by
  unfold mergeLow
  ext i hi
  simp only [BitVec.getElem_or, BitVec.getElem_shiftLeft, BitVec.getElem_setWidth]
  by_cases low : i < w
  · simp [low]
  · simp [low, hi, Nat.add_sub_cancel' (Nat.le_of_not_lt low), BitVec.getLsbD_of_ge a i (Nat.le_of_not_lt low)]

theorem mergeLow_self (w : Nat) (v : Dword) : mergeLow v (v.setWidth w) = v := by
  unfold mergeLow
  ext i hi
  simp only [BitVec.getElem_or, BitVec.getElem_shiftLeft, BitVec.getElem_setWidth]
  by_cases low : i < w
  · simp [low, hi]
  · simp [low, Nat.add_sub_cancel' (Nat.le_of_not_lt low), BitVec.getLsbD_eq_getElem hi]

theorem mergeLow_low (old : Dword) (v : Word) : (mergeLow old v).setWidth 16 = v := by
  unfold mergeLow
  ext i hi
  simp

theorem mergeLow_all (old v : Dword) : mergeLow old v = v := by
  unfold mergeLow
  ext i hi
  simp

@[simp] theorem withSp_stack32 (s : State) (v : Dword) : (s.withSp v).stack32 = s.stack32 := rfl
@[simp] theorem withSp_stackOff (s : State) (v x : Dword) : (s.withSp v).stackOff x = s.stackOff x := rfl

theorem after_after (s : State) (x y : Trace) : (s.after x).after y = s.after y := rfl
theorem after_withSp (s : State) (x : Trace) (v : Dword) : (s.after x).withSp v = (s.withSp v).after x := rfl

theorem withSp_withSp (s : State) (a b : Dword) : (s.withSp a).withSp b = s.withSp b := by
  have regs : (s.withSp a).spRegs b = s.spRegs b := by
    unfold State.spRegs State.withSp State.spRegs
    change (if s.stack32 = true then _ else _) = _
    split <;> simp [Gpr.set, Gpr.get, mergeLow_mergeLow]
  unfold State.withSp at regs ⊢
  rw [regs]

theorem withSp_sp (s : State) (v : Dword) : (s.withSp v).sp = s.stackOff v := by
  unfold State.sp State.stackOff
  rw [withSp_stack32]
  unfold State.withSp State.spRegs
  split
  · simp [Gpr.set, mergeLow_all]
  · simp [Gpr.set, mergeLow_low]

theorem withSp_self (s : State) : s.withSp s.sp = s := by
  have regs : s.spRegs s.sp = s.regs := by
    unfold State.spRegs State.sp
    split
    · simp [Gpr.set, Gpr.get, mergeLow_all]
    · have low : (((s.regs.esp.setWidth 16).setWidth 32 : Dword).setWidth 16 : Word) = s.regs.esp.setWidth 16 := by
        ext i hi; simp
      simp [Gpr.set, Gpr.get, low, mergeLow_self]
  unfold State.withSp
  rw [regs]

/-! ### Where the items of a stack lie -/

theorem stackOff_toNat (s : State) (v : Dword) :
    (s.stackOff v).toNat = v.toNat % (if s.stack32 then 2 ^ 32 else 2 ^ 16) := by
  unfold State.stackOff
  have small := v.isLt
  split
  · omega
  · simp only [BitVec.toNat_setWidth]; omega

theorem stackOff_stackOff_sub (s : State) (a b : Dword) : s.stackOff (s.stackOff a - b) = s.stackOff (a - b) := by
  apply BitVec.eq_of_toNat_eq
  simp only [stackOff_toNat, BitVec.toNat_sub]
  have := a.isLt
  have := b.isLt
  split <;> omega

theorem stackOff_stackOff_add (s : State) (a b : Dword) : s.stackOff (s.stackOff a + b) = s.stackOff (a + b) := by
  apply BitVec.eq_of_toNat_eq
  simp only [stackOff_toNat, BitVec.toNat_add]
  split <;> omega

theorem stackOff_stackOff (s : State) (a : Dword) : s.stackOff (s.stackOff a) = s.stackOff a := by
  apply BitVec.eq_of_toNat_eq
  simp only [stackOff_toNat]
  split <;> omega

theorem stackOff_sp (s : State) : s.stackOff s.sp = s.sp := by
  rw [← withSp_sp, withSp_self]

theorem down_zero (s : State) (w : Nat) : s.down w 0 = s.sp := by
  unfold State.down
  rw [Nat.mul_zero, show BitVec.ofNat 32 0 = 0#32 from rfl, BitVec.sub_zero]
  exact stackOff_sp s

theorem up_zero (s : State) (w : Nat) : s.up w 0 = s.sp := by
  unfold State.up
  rw [Nat.mul_zero, show BitVec.ofNat 32 0 = 0#32 from rfl, BitVec.add_zero]
  exact stackOff_sp s

theorem down_succ (s : State) (w k : Nat) : s.stackOff (s.down w k - BitVec.ofNat 32 (w / 8)) = s.down w (k + 1) := by
  unfold State.down
  rw [stackOff_stackOff_sub, Nat.mul_succ, BitVec.ofNat_add]
  congr 1
  apply BitVec.eq_of_toNat_eq
  simp only [BitVec.toNat_sub, BitVec.toNat_add]
  omega

theorem up_succ (s : State) (w k : Nat) : s.stackOff (s.up w k + BitVec.ofNat 32 (w / 8)) = s.up w (k + 1) := by
  unfold State.up
  rw [stackOff_stackOff_add, Nat.mul_succ, BitVec.ofNat_add, BitVec.add_assoc]

theorem withSp_down_pushAt (s : State) (w k : Nat) : (s.withSp (s.down w k)).pushAt w = s.down w (k + 1) := by
  unfold State.pushAt
  rw [withSp_sp, withSp_stackOff, stackOff_stackOff_sub, ← down_succ]

/-- The items of a stack lie apart, few of them and on a processor with segment limits. -/
theorem down_apart (hl : s.level ≠ 0) (hw : w = 16 ∨ w = 32) {i j p q : Nat} (hi : i ≤ 64) (hj : j ≤ 64) (hij : i ≠ j)
    (hp : p < w / 8) (hq : q < w / 8) : s.placeAt .ss (s.down w i) p ≠ s.placeAt .ss (s.down w j) q := by
  intro h
  have at_i := placeAt_mod s .ss (s.down w i) p
  have at_j := placeAt_mod s .ss (s.down w j) q
  rw [h, at_j, if_neg hl, if_neg hl] at at_i
  have sp := s.sp.isLt
  unfold State.down at at_i
  simp only [stackOff_toNat, BitVec.toNat_sub, BitVec.toNat_ofNat] at at_i
  rcases hw with rfl | rfl <;> split at at_i <;> omega

/-! ### What a push stores -/

/-- Memory `m'` is `m` with a value stored at an offset of the stack of `s`. -/
structure State.StackWrite (s : State) {w : Nat} (off : Dword) (v : BitVec w) (m m' : Memory) : Prop where
  wf : Memory.wf m' = true
  value : ({ s with mem := m' } : State).memVal w .ss off = v
  others : ∀ a, (∀ i, i < w / 8 → s.placeAt .ss off i ≠ a) → Memory.read m' a = Memory.read m a

/-- Items pushed in turn from a state on, the first at the top: memory `m'` is `m` with them. -/
structure State.Stacked (s : State) (w : Nat) (vs : List (BitVec w)) (m m' : Memory) : Prop where
  wf : Memory.wf m' = true
  items : ∀ i (h : i < vs.length), ({ s with mem := m' } : State).memVal w .ss (s.down w (i + 1)) = vs[i]
  others : ∀ a, s.offStack w vs.length a → Memory.read m' a = Memory.read m a

theorem State.Stacked.nil {m : Memory} (h : Memory.wf m = true) : s.Stacked w [] m m :=
  ⟨h, fun _ hi => absurd hi (by simp), fun _ _ => rfl⟩

/-- A value in memory stays where its bytes do. -/
theorem memVal_congr {m m' : Memory} {r : SReg} {off : Dword}
    (h : ∀ i, i < w / 8 → Memory.read m' (s.placeAt r off i) = Memory.read m (s.placeAt r off i)) :
    ({ s with mem := m' } : State).memVal w r off = ({ s with mem := m } : State).memVal w r off := by
  refine congrArg (leValue w) (List.map_congr_left fun i hi => ?_)
  exact h i (List.mem_range.1 hi)

/-- One more item. -/
theorem State.Stacked.snoc {vs : List (BitVec w)} {v : BitVec w} {m m' m'' : Memory} (h : s.Stacked w vs m m')
    (hv : s.StackWrite (s.down w (vs.length + 1)) v m' m'') (hl : s.level ≠ 0) (hw : w = 16 ∨ w = 32)
    (hn : vs.length < 64) : s.Stacked w (vs ++ [v]) m m'' := by
  refine ⟨hv.wf, fun i hi => ?_, fun a ha => ?_⟩
  · rw [List.length_append, List.length_singleton] at hi
    rcases Nat.lt_or_ge i vs.length with before | last
    · rw [List.getElem_append_left before, ← h.items i before]
      refine memVal_congr fun p hp => hv.others _ fun q hq => ?_
      exact down_apart hl hw (by omega) (by omega) (by omega) hq hp
    · obtain rfl : i = vs.length := by omega
      simpa using hv.value
  · rw [hv.others a fun q hq => ha _ q (by omega) (by simp) hq]
    exact h.others a fun i q one le hq => ha i q one (by simp; omega) hq

/-- Items stay where nothing is written to them. -/
theorem State.Stacked.items_of {vs : List (BitVec w)} {m m' m'' : Memory} (h : s.Stacked w vs m m')
    (hm : ∀ i p, 1 ≤ i → i ≤ vs.length → p < w / 8 →
      Memory.read m'' (s.placeAt .ss (s.down w i) p) = Memory.read m' (s.placeAt .ss (s.down w i) p)) (i : Nat)
    (hi : i < vs.length) : ({ s with mem := m'' } : State).memVal w .ss (s.down w (i + 1)) = vs[i] := by
  rw [← h.items i hi]
  exact memVal_congr fun p hp => hm _ p (by omega) (by omega) hp

/-! ### Pushes -/

theorem reaches_boundary {r : SReg} {k : AccessKind} {off : Dword} {n b c : Nat} (h : s.reaches r k off n b = true)
    (hc : c ∣ b) : s.reaches r k off n c = true := by
  unfold State.reaches at h ⊢
  simp only [Bool.and_eq_true] at h ⊢
  obtain ⟨⟨⟨flat, seg⟩, al⟩, map⟩ := h
  refine ⟨⟨⟨flat, seg⟩, ?_⟩, map⟩
  unfold State.aligned at al ⊢
  by_cases even : s.linear r off.toNat % c = 0
  · simp [even]
  · have uneven : s.linear r off.toNat % b ≠ 0 := fun e => even (Nat.mod_eq_zero_of_dvd
      (Nat.dvd_trans hc (Nat.dvd_of_mod_eq_zero e)))
    simpa [even, uneven] using al

/-- States of which one only has other memory, of the same form, reach the same. -/
theorem State.SameWay.reaches_wf (h : s.SameWay t) (hm : Memory.wf t.mem = true) {r : SReg} {k : AccessKind} {off : Dword}
    {n b : Nat} (hr : s.reaches r k off n b = true) : t.reaches r k off n b = true :=
  (h.reaches (show Memory.wf t.mem = Memory.wf s.mem by rw [hm, reaches_memoryOk hr]) r k off n b).trans hr

theorem pushed_way (s : State) (v : Dword) (x : Trace) : s.SameWay ((s.withSp v).after x) :=
  ⟨rfl, rfl, rfl, fun r => by cases r <;> rfl, rfl, rfl, rfl⟩

/-- PUSHING an item after others. -/
theorem pushItem_stacked {b : Nat} {vs : List (BitVec w)} {v : BitVec w} {m : Memory} {x : Trace}
    (hs : s.Stacked w vs m x.mem) (hr : s.reaches .ss .write (s.down w (vs.length + 1)) (w / 8) b = true)
    (hl : s.level ≠ 0) (hw : w = 16 ∨ w = 32) (hn : vs.length < 64) :
    ∃ y, pushItem b v ((s.withSp (s.down w vs.length)).after x) =
        .ok ((), (s.withSp (s.down w (vs ++ [v]).length)).after y) ∧ y.oracle = x.oracle ∧
      s.Stacked w (vs ++ [v]) m y.mem := by
  have way := pushed_way s (s.down w vs.length) x
  have reach := way.reaches_wf hs.wf hr
  have at_ : ((s.withSp (s.down w vs.length)).after x).stackOff (((s.withSp (s.down w vs.length)).after x).sp -
      BitVec.ofNat 32 (w / 8)) = s.down w (vs.length + 1) := withSp_down_pushAt s w vs.length
  rw [← at_] at reach
  have run := pushItem_flat v reach
  rw [at_] at run
  generalize hu : (s.withSp (s.down w vs.length)).after x = u at run way
  have same := (touch_same u .ss .write (s.down w (vs.length + 1)) (w / 8)).trans
    (put_same (u.touch .ss .write (s.down w (vs.length + 1)) (w / 8)) .ss (s.down w (vs.length + 1)) v)
  have touched := touch_mem u .ss .write (s.down w (vs.length + 1)) (w / 8)
  have touchWay := way.trans (touch_same u .ss .write (s.down w (vs.length + 1)) (w / 8)).way
  generalize u.touch .ss .write (s.down w (vs.length + 1)) (w / 8) = u' at run same touched touchWay
  have mem : u.mem = x.mem := by rw [← hu]; rfl
  have w8 : w % 8 = 0 ∧ w / 8 ≤ 65536 := by rcases hw with rfl | rfl <;> decide
  have stored := put_stores w8.1 w8.2 .ss (s.down w (vs.length + 1)) v
    (s := { s with mem := x.mem }) (t := u') ⟨touchWay.cfg, touchWay.cr0, touchWay.cr3, fun r => (touchWay.seg r).trans (by cases r <;> rfl),
      touchWay.ac, touchWay.vm, touchWay.latch⟩ (touched.trans mem) hs.wf
  have wf := put_wf (s := u') .ss (s.down w (vs.length + 1)) v (by rw [touched, mem]; exact hs.wf)
  generalize u'.put .ss (s.down w (vs.length + 1)) v = z at run same stored wf
  rw [setSp_eq, same.after] at run
  refine ⟨{ z.trace with oracle := x.oracle }, ?_, rfl, hs.snoc ⟨wf, stored.2, stored.1⟩ hl hw hn⟩
  rw [run, ← hu, List.length_append, List.length_singleton]
  rw [after_after, after_withSp, withSp_withSp]
  rfl

end Sys2Proof.Machine
end

section
/-! PROOFS. The parts of transfers in protected mode with paging off: the room and the return address on the stack, the
new code segment, the new stack segment, and the selectors and descriptors they refuse. -/
-- One declaration after the other: many proofs at once take more thread stacks than the memory limit allows.
set_option Elab.async false
namespace Sys2Proof.Machine

variable {s t u : State} {w : Nat}

/-! ### The stack -/

theorem withSp_down_zero (s : State) (w : Nat) : s.withSp (s.down w 0) = s := by
  rw [down_zero, withSp_self]

/-- PUSHING a value aligned to its size, where there is room. -/
theorem push_stacked {vs : List (BitVec w)} (v : BitVec w) {n : Nat} {m : Memory} {x : Trace}
    (hs : s.Stacked w vs m x.mem) (hr : s.roomFor w n) (hl : s.level ≠ 0) (hw : w = 16 ∨ w = 32)
    (hv : vs.length < n) (hn : n ≤ 64) :
    ∃ y, push v ((s.withSp (s.down w vs.length)).after x) =
        .ok ((), (s.withSp (s.down w (vs ++ [v]).length)).after y) ∧ s.Stacked w (vs ++ [v]) m y.mem := by
  obtain ⟨y, run, -, stacked⟩ := pushItem_stacked (v := v) hs (hr _ (by omega) (by omega)) hl hw (by omega)
  exact ⟨y, run, stacked⟩

/-- The low half of a slot. -/
theorem slot_low (up v : Word) : ((up ++ v : BitVec 32).setWidth 32).setWidth 16 = v := by
  ext i hi
  rw [BitVec.getElem_setWidth, BitVec.setWidth_eq]
  refine (BitVec.getLsbD_append (n := 16) (m := 16) (x := up) (y := v)).trans ?_
  simp [hi]

/-- PUSHING a selector, where there is room: the upper half of its slot is open. -/
theorem pushSelector_stacked {vs : List (BitVec w)} (v : Word) {n : Nat} {m : Memory} {x : Trace}
    (hs : s.Stacked w vs m x.mem) (hr : s.roomFor w n) (hl : s.level ≠ 0) (hw : w = 16 ∨ w = 32)
    (hv : vs.length < n) (hn : n ≤ 64) :
    ∃ item y, item.setWidth 16 = v ∧ pushSelector w v ((s.withSp (s.down w vs.length)).after x) =
        .ok ((), (s.withSp (s.down w (vs ++ [item]).length)).after y) ∧ s.Stacked w (vs ++ [item]) m y.mem := by
  have slot : ∃ item z, item.setWidth 16 = v ∧ z.mem = x.mem ∧
      slotOf w v ((s.withSp (s.down w vs.length)).after x) = .ok (item, (s.withSp (s.down w vs.length)).after z) := by
    rcases hw with rfl | rfl
    · exact ⟨v, x, by simp, rfl, by simp [slotOf]⟩
    · exact ⟨_, { x with oracle := x.oracle + 1 }, slot_low _ v, rfl, rfl⟩
  obtain ⟨item, z, low, mem, run⟩ := slot
  have even : selectorBoundary ∣ w / 8 := by rcases hw with rfl | rfl <;> decide
  obtain ⟨y, push, -, stacked⟩ := pushItem_stacked (v := item) (x := z) (by rw [mem]; exact hs)
    (reaches_boundary (hr _ (by omega) (by omega)) even) hl hw (by omega)
  exact ⟨item, y, low, (bind_ok run _).trans push, stacked⟩

/-- Room that a check finds. -/
theorem checkRoom_room {k : Nat} {err : Word} (hr : s.roomFor w k) (hl : s.level ≠ 0) (x : Trace) :
    checkRoom w k err (s.after x) = .ok ((), s.after x) := by
  unfold checkRoom
  rw [get_bind_apply]
  have room : ((List.range k).all fun i =>
      s.ss.inLimit (s.stackOff (s.sp - BitVec.ofNat 32 (w / 8 * (i + 1)))).toNat (w / 8)) = true := by
    refine List.all_eq_true.2 fun i hi => ?_
    have reach := hr (i + 1) (by omega) (by have := List.mem_range.1 hi; omega)
    unfold State.reaches State.segOk at reach
    simp only [Bool.and_eq_true, hl, decide_false, Bool.false_or] at reach
    exact reach.1.1.2.2
  show check ((List.range k).all fun i =>
      s.ss.inLimit (s.stackOff (s.sp - BitVec.ofNat 32 (w / 8 * (i + 1)))).toNat (w / 8)) _ (s.after x) = _
  rw [room]
  rfl

/-- Room that is missing. -/
theorem checkRoom_full {n k : Nat} (hk : 1 ≤ k ∧ k ≤ n) (h : s.ss.inLimit (s.down w k).toNat (w / 8) = false)
    (err : Word) : checkRoom w n err s = .error (s.fault 12 (some err)) := by
  unfold checkRoom
  rw [get_bind_apply]
  have full : ((List.range n).all fun i =>
      s.ss.inLimit (s.stackOff (s.sp - BitVec.ofNat 32 (w / 8 * (i + 1)))).toNat (w / 8)) = false := by
    refine List.all_eq_false.2 ⟨k - 1, List.mem_range.2 (by omega), ?_⟩
    rw [Nat.sub_add_cancel hk.1]
    exact (Bool.eq_false_iff.1 h)
  rw [full]
  rfl

/-- PUSHING a return address in protected mode. -/
theorem pushReturn_stacked {cs : Word} {ret : Dword} (hp : s.prot = true) (hl : s.level ≠ 0) (hw : w = 16 ∨ w = 32)
    (hr : s.roomFor w 2) :
    ∃ (item : BitVec w) (x : Trace), item.setWidth 16 = cs ∧
      pushReturn w cs ret s = .ok ((), (s.withSp (s.down w 2)).after x) ∧
      s.Stacked w [item, ret.setWidth w] s.mem x.mem := by
  have wf := reaches_memoryOk (hr 1 (by decide) (by decide))
  have room : pushReturn.checkRoomIf w s = .ok ((), s) := by
    unfold pushReturn.checkRoomIf
    rw [get_bind_apply, hp]
    exact checkRoom_room hr hl s.trace
  have start : s = (s.withSp (s.down w ([] : List (BitVec w)).length)).after s.trace := by
    rw [List.length_nil, withSp_down_zero]
    rfl
  obtain ⟨item, y, low, first, one⟩ := pushSelector_stacked (vs := []) (x := s.trace) cs (.nil wf) hr hl hw Nat.zero_lt_two
    (by decide)
  obtain ⟨z, second, two⟩ := push_stacked (ret.setWidth w) one hr hl hw Nat.one_lt_two (by decide)
  refine ⟨item, z, low, ?_, two⟩
  unfold pushReturn
  rw [bind_ok room]
  conv_lhs => rw [start]
  rw [bind_ok first]
  exact second

/-- No room for a return address in protected mode. -/
theorem pushReturn_full {cs : Word} {ret : Dword} {k : Nat} (hp : s.prot = true) (hk : k = 1 ∨ k = 2)
    (h : s.ss.inLimit (s.down w k).toNat (w / 8) = false) : pushReturn w cs ret s = .error (s.fault 12 (some 0)) := by
  refine bind_error ?_ _
  unfold pushReturn.checkRoomIf
  rw [get_bind_apply, hp]
  exact checkRoom_full (n := 2) (by omega) h 0

/-! ### Code and stack segments -/

/-- The state in the code segment of a descriptor, at an offset. -/
def State.inCode (s : State) (sel : Word) (cpl : Nat) (d : Descriptor) (ip : Dword) : State :=
  { s with cs := SegReg.ofDescriptor s.level (selWithRpl sel cpl) d, resetLatch := false, eip := ip }

/-- Loading CS. -/
theorem loadCs_after {sel : Word} {cpl : Nat} {d : Descriptor} {a : Nat} (h : s.tableOk .write (a + 5) 1 = true)
    (hd : Memory.read s.mem (s.tablePlace (a + 5) 0) = dAccess d) :
    ∃ x, loadCs sel cpl d a s = .ok ((), (s.inCode sel cpl d s.eip).after x) ∧ x.trap = s.trap ∧
      Memory.wf x.mem = true ∧ MarkedAt s.mem x.mem (s.tablePlace (a + 5) 0) := by
  obtain ⟨x, run, trap, -, wf, marked⟩ := markAccessed_after h hd
  exact ⟨x, bind_ok run _, trap, wf, marked⟩

theorem jumpTo_ok {wide : Bool} {v : Dword} (h : s.targetOk (targetOf wide v) = true) :
    jumpTo wide v s = .ok ((), { s with eip := targetOf wide v, stale := [] }) := by
  unfold jumpTo
  rw [get_bind_apply, h]
  rfl

/-- ENTERING a code segment within its limit. -/
theorem enterCode_after {sel : Word} {cpl : Nat} {d : Descriptor} {a : Nat} {wide : Bool} {v : Dword}
    (hp : s.prot = true) (h : s.tableOk .write (a + 5) 1 = true)
    (hd : Memory.read s.mem (s.tablePlace (a + 5) 0) = dAccess d)
    (hv : (targetOf wide v).toNat ≤ (dLimit s.level d).toNat) :
    ∃ x, Memory.wf x.mem = true ∧ MarkedAt s.mem x.mem (s.tablePlace (a + 5) 0) ∧
      ∀ {β : Type} (f : Unit → M β), (loadCs sel cpl d a >>= fun _ => jumpTo wide v >>= f) s =
        f () ((s.inCode sel cpl d (targetOf wide v)).after x) := by
  obtain ⟨x, load, -, wf, marked⟩ := loadCs_after (sel := sel) (cpl := cpl) h hd
  refine ⟨{ x with stale := [] }, wf, marked, fun f => ?_⟩
  have inside : ((s.inCode sel cpl d s.eip).after x).targetOk (targetOf wide v) = true := by
    unfold State.targetOk
    rw [if_pos (show ((s.inCode sel cpl d s.eip).after x).prot = true from hp)]
    exact decide_eq_true hv
  rw [bind_ok load, bind_ok (jumpTo_ok inside)]
  rfl

theorem selRpl_lt (sel : Word) : selRpl sel < 4 := (sel.extractLsb' 0 2).isLt

theorem selWithRpl_self (sel : Word) : selWithRpl sel (selRpl sel) = sel := by
  unfold selWithRpl selRpl
  rw [Nat.mod_eq_of_lt (sel.extractLsb' 0 2).isLt, BitVec.ofNat_toNat]
  ext i hi
  interval_cases i <;> simp

end Sys2Proof.Machine
end

section
/-! PROOFS. Far JMP and CALL in protected mode: what the forms read, what a selector leads to, and what refuses it. -/
-- One declaration after the other: many proofs at once take more thread stacks than the memory limit allows.
set_option Elab.async false
namespace Sys2Proof.Machine

variable {s t u : State} {w : Nat} {kind : FarKind} {sel : Word} {off : Dword} {d : Descriptor} {a : Nat}

/-! ### Accesses that only read -/

/-- The state with what debug breakpoints record. -/
def State.traced (s : State) (r : TrapRecord) : State := { s with trap := r }

theorem touch_traced (s : State) (r : SReg) (k : AccessKind) (o : Dword) (n : Nat) :
    s.touch r k o n = s.traced (s.touch r k o n).trap := by
  unfold State.touch State.recordMatches
  split <;> rfl

/-- The state an instruction's effect has reached after reading. -/
def State.starting (s : State) (r : TrapRecord) : State := s.begin.traced r

theorem traced_way (s : State) (r : TrapRecord) : s.SameWay (s.traced r) :=
  ⟨rfl, rfl, rfl, fun r => by cases r <;> rfl, rfl, rfl, rfl⟩

/-- READING an item of the stack, whatever was recorded before. -/
theorem readItem_traced {b : Nat} {g : SReg} {o : Dword} (h : s.reaches g .read o (w / 8) b = true) (r : TrapRecord) :
    ∃ r', readItem w b g o (s.traced r) = .ok (s.memVal w g o, s.traced r') := by
  have reach := ((traced_way s r).reaches rfl g .read o (w / 8) b).trans h
  refine ⟨((s.traced r).touch g .read o (w / 8)).trap, ?_⟩
  rw [readItem_flat reach, touch_traced]
  rfl

/-- READING an item of the stack without moving its pointer. -/
theorem peekItem_traced {b i dist : Nat} (h : s.reaches .ss .read (s.up w i) (w / 8) b = true) (hd : dist = w / 8 * i)
    (r : TrapRecord) :
    ∃ r', peekItem w b dist (s.traced r) = .ok (s.memVal w .ss (s.up w i), s.traced r') := by
  subst hd
  exact readItem_traced h r

/-! ### The forms -/

/-- A far JMP or CALL. -/
def farKind (call : Bool) : FarKind := if call then .call else .jmp

/-- THE FORMS of far JMP and CALL come down to a selector and an offset. -/
theorem farForm_exec {i : Instr} {call : Bool} (h : s.farForm i call sel off) (hl : s.lockOk false = true)
    (hp : s.prot = true) : ∃ r,
      (∀ e t, farProt (farKind call) sel off (s.starting r) = .ok (e, t) → exec i s = .next (finish s t e)) ∧
      (∀ vec err, farProt (farKind call) sel off (s.starting r) = .error ((s.starting r).fault vec err) →
        exec i s = s.faults vec err) := by
  have direct : ∀ r, farTransfer (farKind call) sel off (s.starting r) = farProt (farKind call) sel off (s.starting r) := by
    intro r
    unfold farTransfer
    rw [get_bind_apply]
    show (if s.prot = true then _ else _ : M Ending) _ = _
    rw [if_pos hp]
  have form : ∃ body r, exec i s = runEnding false body s ∧
      body s.begin = farProt (farKind call) sel off (s.starting r) := by
    obtain ⟨rfl, rfl⟩ | ⟨rfl, rfl⟩ | ⟨m, hi, hm, rfl, rfl⟩ := h
    · exact ⟨_, s.trap, rfl, direct s.trap⟩
    · exact ⟨_, s.trap, rfl, direct s.trap⟩
    · unfold State.reachesPair at hm
      simp only [Bool.and_eq_true] at hm
      obtain ⟨⟨first, below⟩, second⟩ := hm
      have exec_eq : exec i s = runEnding false (farIndirect (farKind call) m) s := by
        obtain ⟨rfl, rfl⟩ | ⟨rfl, rfl⟩ := hi <;> rfl
      obtain ⟨r, get⟩ := readItem_traced (s := s.begin) first s.trap
      obtain ⟨r', getAt⟩ := readItem_traced (s := s.begin) (w := 16) second r
      refine ⟨_, r', exec_eq, ?_⟩
      have selector : memGetAt 16 m (s.opWidth / 8) (s.begin.traced r) =
          .ok (s.memVal 16 (s.memSeg m) (s.memOff m + BitVec.ofNat 32 (s.opWidth / 8)), s.begin.traced r') := by
        unfold memGetAt
        rw [get_bind_apply]
        exact (check_bind_ok below _ _ _).trans getAt
      refine (bind_ok (m := memGet s.opWidth m) get _).trans ((bind_ok selector _).trans ?_)
      exact direct r'
  obtain ⟨body, r, exec_eq, run⟩ := form
  exact ⟨r, fun e t h => exec_eq.trans (runEnding_ok hl (run.trans h)),
    fun vec err h => exec_eq.trans (runEnding_faults hl (run.trans h))⟩

/-! ### What a selector leads to -/

theorem gpSel_fault {α : Type} : (gpSel sel : M α) s = .error (s.fault 13 (some (sel &&& 0xFFFC))) := rfl

theorem faultSel_fault {α : Type} {vec : Byte} :
    (faultSel vec sel : M α) s = .error (s.fault vec (some (sel &&& 0xFFFC))) := rfl

/-- ENTERING a code segment of the same level: CALL pushes the return address of the state it began in, CS and the
instruction pointer are loaded. -/
def enterFar (s : State) (kind : FarKind) (w : Nat) (sel : Word) (d : Descriptor) (a : Nat) (wide : Bool) (off : Dword) :
    M Ending := do
  match kind with
  | .jmp => pure ()
  | .call => pushReturn w s.cs.sel s.eip
  loadCs sel s.cpl d a
  jumpTo wide off
  return .done

theorem farProt_null (h : selNull sel = true) : farProt kind sel off s = .error (s.fault 13 (some 0)) := by
  unfold farProt
  rw [get_bind_apply]
  exact check_denied (by simp [h]) rfl _

theorem farProt_outside (hn : selNull sel = false) (h : s.descAddr sel = none) :
    farProt kind sel off s = .error (s.fault 13 (some (sel &&& 0xFFFC))) := by
  unfold farProt
  rw [get_bind_apply, check_bind_ok (by simp [hn])]
  exact bind_error (readDescriptor_outside h gpSel_fault) _

section
variable (hn : selNull sel = false) (hf : s.finds sel d a)
include hn hf

/-- A selector that finds a code segment. -/
theorem farProt_code (h : dIsCode d = true) : farProt kind sel off s =
    (check (codeReachable s sel d) (gpSel sel) >>= fun _ => check (dPresent d) (faultSel 11 sel) >>= fun _ =>
      check (decide ((targetOf s.op32 off).toNat ≤ (dLimit s.level d).toNat)) gp0 >>= fun _ =>
        enterFar s kind s.opWidth sel d a s.op32 off) s := by
  unfold farProt
  rw [get_bind_apply, check_bind_ok (by simp [hn]), bind_ok (readDescriptor_finds hf _)]
  simp only [h, if_true]
  cases kind <;> rfl

/-- A selector that finds a call gate. -/
theorem farProt_callGate (hc : dIsCode d = false) (h : dHasType s.level d [4] [12] = true) :
    farProt kind sel off s = throughGate kind sel d s := by
  unfold farProt
  rw [get_bind_apply, check_bind_ok (by simp [hn]), bind_ok (readDescriptor_finds hf _)]
  simp only [hc, h, if_true, Bool.false_eq_true, if_false]

/-- A selector that finds a TSS. -/
theorem farProt_tss (hc : dIsCode d = false) (hg : dHasType s.level d [4] [12] = false)
    (h : dHasType s.level d [1, 3] [9, 11] = true) : farProt kind sel off s =
    (check (decide (max s.cpl (selRpl sel) ≤ dDpl d)) (gpSel sel) >>= fun _ =>
      taskSwitch (if kind = .call then .nest else .jump) sel none >>= fun _ => pure .loadedRf) s := by
  unfold farProt
  rw [get_bind_apply, check_bind_ok (by simp [hn]), bind_ok (readDescriptor_finds hf _)]
  simp only [hc, hg, h, if_true, Bool.false_eq_true, if_false]

/-- A selector that finds a task gate. -/
theorem farProt_taskGate (hc : dIsCode d = false) (hg : dHasType s.level d [4] [12] = false)
    (ht : dHasType s.level d [1, 3] [9, 11] = false) (h : dHasType s.level d [5] [] = true) : farProt kind sel off s =
    (check (decide (max s.cpl (selRpl sel) ≤ dDpl d)) (gpSel sel) >>= fun _ =>
      check (dPresent d) (faultSel 11 sel) >>= fun _ =>
        taskSwitch (if kind = .call then .nest else .jump) (gateSel d) none >>= fun _ => pure .loadedRf) s := by
  unfold farProt
  rw [get_bind_apply, check_bind_ok (by simp [hn]), bind_ok (readDescriptor_finds hf _)]
  simp only [hc, hg, ht, h, if_true, Bool.false_eq_true, if_false]

/-- A selector that finds no descriptor a far transfer can use. -/
theorem farProt_other (hc : dIsCode d = false) (hg : dHasType s.level d [4] [12] = false)
    (ht : dHasType s.level d [1, 3] [9, 11] = false) (h : dHasType s.level d [5] [] = false) :
    farProt kind sel off s = .error (s.fault 13 (some (sel &&& 0xFFFC))) := by
  unfold farProt
  rw [get_bind_apply, check_bind_ok (by simp [hn]), bind_ok (readDescriptor_finds hf _)]
  simp only [hc, hg, ht, h, Bool.false_eq_true, if_false]
  rfl

end

theorem dHasType_iff {level : Nat} {l286 l386 : List Nat} : dHasType level d l286 l386 = true ↔
    dIsSystem d = true ∧ (dType d ∈ l286 ∨ 3 ≤ level ∧ dType d ∈ l386) := by
  simp [dHasType]

theorem not_code_of_system (h : dIsSystem d = true) : dIsCode d = false := by
  unfold dIsSystem accIsSystem at h
  unfold dIsCode accIsCode
  simp_all

/-! ### Through a call gate -/

theorem throughGate_closed (hp : ¬max s.cpl (selRpl sel) ≤ dDpl d) :
    throughGate kind sel d s = .error (s.fault 13 (some (sel &&& 0xFFFC))) := by
  unfold throughGate
  rw [get_bind_apply]
  exact check_denied (decide_eq_false hp) gpSel_fault _

theorem throughGate_gateAbsent (hp : max s.cpl (selRpl sel) ≤ dDpl d) (h : dPresent d = false) :
    throughGate kind sel d s = .error (s.fault 11 (some (sel &&& 0xFFFC))) := by
  unfold throughGate
  rw [get_bind_apply, check_bind_ok (decide_eq_true hp)]
  exact check_denied h faultSel_fault _

section
variable (hp : max s.cpl (selRpl sel) ≤ dDpl d) (hpr : dPresent d = true)
include hp hpr

theorem throughGate_null (h : selNull (gateSel d) = true) :
    throughGate kind sel d s = .error (s.fault 13 (some 0)) := by
  unfold throughGate
  rw [get_bind_apply, check_bind_ok (decide_eq_true hp), check_bind_ok hpr]
  exact check_denied (by simp [h]) rfl _

theorem throughGate_outside (hn : selNull (gateSel d) = false) (h : s.descAddr (gateSel d) = none) :
    throughGate kind sel d s = .error (s.fault 13 (some (gateSel d &&& 0xFFFC))) := by
  unfold throughGate
  rw [get_bind_apply, check_bind_ok (decide_eq_true hp), check_bind_ok hpr, check_bind_ok (by simp [hn])]
  exact bind_error (readDescriptor_outside h gpSel_fault) _

/-- A call gate to a descriptor: the checks of it, then an inner level or the same. -/
theorem throughGate_finds {e : Descriptor} {b : Nat} (hn : selNull (gateSel d) = false) (hf : s.finds (gateSel d) e b) :
    throughGate kind sel d s = (check (dIsCode e && decide (dDpl e ≤ s.cpl)) (gpSel (gateSel d)) >>= fun _ =>
      check (dPresent e) (faultSel 11 (gateSel d)) >>= fun _ =>
        if kind = .call ∧ dConforming e = false ∧ dDpl e < s.cpl then
          callInner d (gateSel d) e b >>= fun _ => pure .done
        else
          check (decide (kind = .call) || dConforming e || decide (dDpl e = s.cpl)) (gpSel (gateSel d)) >>= fun _ =>
            enterFar s kind (if gateIs386 d then 32 else 16) (gateSel d) e b true (gateOffset d)) s := by
  unfold throughGate
  rw [get_bind_apply, check_bind_ok (decide_eq_true hp), check_bind_ok hpr, check_bind_ok (by simp [hn]),
    bind_ok (readDescriptor_finds hf _)]
  cases kind <;> rfl

end

/-! ### A TSS that refuses a switch to it -/

/-- A selector that names no TSS in the GDT, or one in use. -/
theorem taskSwitch_unusable {k : SwitchKind} {err : Option Word} (hk : k ≠ .iret) (hn : selNull sel = false)
    (hf : s.finds sel d a) (h : selLocal sel = true ∨ dHasType s.level d [1] [9] = false) :
    taskSwitch k sel err s = .error (s.fault 13 (some (sel &&& 0xFFFC))) := by
  unfold taskSwitch
  by_cases loc : selLocal sel = true
  · cases k with
    | iret => exact absurd rfl hk
    | jump | nest => exact check_denied (by simp [loc]) gpSel_fault _
  · have free := h.resolve_left loc
    rw [check_bind_ok (by simp [loc, hn]), bind_ok (readDescriptor_finds hf _)]
    simp only [get_bind_apply]
    cases k with
    | iret => exact absurd rfl hk
    | jump | nest => exact check_denied free gpSel_fault _

/-- A free TSS that is not present, or too small. -/
theorem taskSwitch_absent {k : SwitchKind} {err : Option Word} (hk : k ≠ .iret) (hn : selNull sel = false)
    (hl : selLocal sel = false) (hf : s.finds sel d a) (ht : dHasType s.level d [1] [9] = true) :
    (dPresent d = false → taskSwitch k sel err s = .error (s.fault 11 (some (sel &&& 0xFFFC)))) ∧
      (dPresent d = true → (dLimit s.level d).toNat < (if 8 ≤ dType d then 103 else 43) →
        taskSwitch k sel err s = .error (s.fault 10 (some (sel &&& 0xFFFC)))) := by
  constructor
  all_goals
    intro present
    unfold taskSwitch
    rw [check_bind_ok (by simp [hl, hn]), bind_ok (readDescriptor_finds hf _)]
    simp only [get_bind_apply]
    rw [check_bind_ok (by cases k with
      | iret => exact absurd rfl hk
      | jump | nest => exact ht)]
  · exact check_denied present faultSel_fault _
  · intro small
    rw [check_bind_ok present]
    exact check_denied (by simpa using small) faultSel_fault _

end Sys2Proof.Machine
end

section
/-! PROOFS. Far JMP and CALL in protected mode that stay at their level. -/
-- One declaration after the other: many proofs at once take more thread stacks than the memory limit allows.
set_option Elab.async false
namespace Sys2Proof.Machine

variable {s t u : State} {w : Nat} {sel : Word} {off : Dword} {d : Descriptor} {a : Nat} {call : Bool}

/-! ### The transfer -/

theorem pushed_tableWay (hp : s.prot = true) (v : Dword) (x : Trace) : s.TableWay ((s.withSp v).after x) := by
  have pe : s.cr0.pe = true := pe_of_prot hp
  exact ⟨rfl, pe, pe, rfl⟩

theorem pushedAndMarked_one {m : Memory} {n : Nat} (hm : ∀ y, s.offStack w n y → Memory.read m y = Memory.read s.mem y)
    (hout : n = 0 ∨ s.offStack w n (s.tablePlace (a + 5) 0)) (ht : MarkedAt m t.mem (s.tablePlace (a + 5) 0)) :
    s.pushedAndMarked s t w n [a] := by
  have out : s.offStack w n (s.tablePlace (a + 5) 0) := by
    rcases hout with rfl | out
    · exact fun i k one none => absurd none (by omega)
    · exact out
  refine ⟨fun y off apart => ?_, fun b hb => ?_⟩
  · rw [ht.1 y (apart a (List.mem_singleton_self a)), hm y off]
  · rw [List.mem_singleton.1 hb, ht.2, hm _ out]

/-- ENTERING a code segment of the same level. -/
theorem enterFar_after {wide : Bool} (hp : s.prot = true) (hn : s.names sel d a) (hw : w = 16 ∨ w = 32)
    (hv : (targetOf wide off).toNat ≤ (dLimit s.level d).toNat)
    (hr : call = true → s.level ≠ 0 ∧ s.roomApart w 2 [a]) :
    ∃ x, enterFar s (farKind call) w sel d a wide off s = .ok (.done,
        ((s.withSp (s.down w (if call then 2 else 0))).inCode sel s.cpl d (targetOf wide off)).after x) ∧
      s.pushedAndMarked s (s.after x) w (if call then 2 else 0) [a] ∧
      (call = true → (s.pushedAt (s.after x) w 1).setWidth 16 = s.cs.sel ∧
        s.pushedAt (s.after x) w 2 = s.eip.setWidth w) := by
  obtain ⟨found, writable⟩ := hn
  have access := finds_access found
  cases call with
  | false =>
    obtain ⟨x, -, marked, run⟩ := enterCode_after (sel := sel) (cpl := s.cpl) (wide := wide) (v := off) hp writable access hv
    refine ⟨x, ?_, pushedAndMarked_one (fun _ _ => rfl) (.inl rfl) marked, fun h => absurd h (by decide)⟩
    rw [if_neg Bool.false_ne_true, withSp_down_zero]
    exact run _
  | true =>
    obtain ⟨level, room, apart⟩ := hr rfl
    have out := apart a (List.mem_singleton_self a)
    obtain ⟨item, x, low, push, stacked⟩ := pushReturn_stacked (cs := s.cs.sel) (ret := s.eip) hp level hw room
    have way := pushed_tableWay hp (s.down w 2) x
    have same : Memory.read x.mem (s.tablePlace (a + 5) 0) = Memory.read s.mem (s.tablePlace (a + 5) 0) :=
      stacked.others _ out
    obtain ⟨y, -, marked, run⟩ := enterCode_after (s := (s.withSp (s.down w 2)).after x) (sel := sel) (cpl := s.cpl)
      (wide := wide) (v := off) hp (way.tableOk stacked.wf writable) (same.trans access) hv
    have items := stacked.items_of (m'' := y.mem) fun i p one two hp => marked.1 _ (out i p one two hp)
    refine ⟨y, (bind_ok push _).trans (run _), pushedAndMarked_one stacked.others (.inr out) marked, fun _ => ⟨?_, ?_⟩⟩
    · exact (congrArg _ (items 0 (by simp))).trans low
    · exact items 1 (by simp)

/-! ### The checks of a code segment and of the target of a call gate -/

section
variable {kind : FarKind} (hn : selNull sel = false) (hf : s.finds sel d a) (hc : dIsCode d = true)
include hn hf hc

theorem farProt_unreachable (h : codeReachable s sel d = false) :
    farProt kind sel off s = .error (s.fault 13 (some (sel &&& 0xFFFC))) :=
  (farProt_code hn hf hc).trans (check_denied h gpSel_fault _)

variable (ok : codeReachable s sel d = true)
include ok

theorem farProt_absent (h : dPresent d = false) :
    farProt kind sel off s = .error (s.fault 11 (some (sel &&& 0xFFFC))) := by
  rw [farProt_code hn hf hc, check_bind_ok ok]
  exact check_denied h faultSel_fault _

variable (present : dPresent d = true)
include present

theorem farProt_beyond (h : (dLimit s.level d).toNat < (targetOf s.op32 off).toNat) :
    farProt kind sel off s = .error (s.fault 13 (some 0)) := by
  rw [farProt_code hn hf hc, check_bind_ok ok, check_bind_ok present]
  exact check_denied (decide_eq_false (Nat.not_le.2 h)) gp0_fault _

theorem farProt_enters (h : (targetOf s.op32 off).toNat ≤ (dLimit s.level d).toNat) :
    farProt kind sel off s = enterFar s kind s.opWidth sel d a s.op32 off s := by
  rw [farProt_code hn hf hc, check_bind_ok ok, check_bind_ok present, check_bind_ok (decide_eq_true h)]

end

section
variable {kind : FarKind} {gate : Descriptor} (hp : max s.cpl (selRpl sel) ≤ dDpl gate) (hpr : dPresent gate = true)
  (hn : selNull (gateSel gate) = false) (hf : s.finds (gateSel gate) d a)
include hp hpr hn hf

theorem throughGate_noCode (h : ¬(dIsCode d = true ∧ dDpl d ≤ s.cpl)) :
    throughGate kind sel gate s = .error (s.fault 13 (some (gateSel gate &&& 0xFFFC))) := by
  rw [throughGate_finds hp hpr hn hf]
  exact check_denied (by simpa using h) gpSel_fault _

variable (hc : dIsCode d = true ∧ dDpl d ≤ s.cpl)
include hc

theorem throughGate_absent (h : dPresent d = false) :
    throughGate kind sel gate s = .error (s.fault 11 (some (gateSel gate &&& 0xFFFC))) := by
  rw [throughGate_finds hp hpr hn hf, check_bind_ok (by simpa using hc)]
  exact check_denied h faultSel_fault _

variable (present : dPresent d = true)
include present

theorem throughGate_jmpInner (hcon : dConforming d = false) (h : dDpl d < s.cpl) :
    throughGate .jmp sel gate s = .error (s.fault 13 (some (gateSel gate &&& 0xFFFC))) := by
  rw [throughGate_finds hp hpr hn hf, check_bind_ok (by simpa using hc), check_bind_ok present]
  rw [if_neg (by rintro ⟨isCall, -⟩; cases isCall)]
  exact check_denied (by simp [hcon, Nat.ne_of_lt h]) gpSel_fault _

theorem throughGate_enters (h : dConforming d = true ∨ dDpl d = s.cpl) :
    throughGate kind sel gate s =
      enterFar s kind (if gateIs386 gate then 32 else 16) (gateSel gate) d a true (gateOffset gate) s := by
  rw [throughGate_finds hp hpr hn hf, check_bind_ok (by simpa using hc), check_bind_ok present, if_neg, check_bind_ok]
  · rcases h with h | h <;> simp [h]
  · rintro ⟨-, noncon, inner⟩
    rcases h with h | h
    · simp_all
    · omega

end

/-! ### Gates and task state segments -/

/-- The system descriptors a far transfer can use. -/
def callGate (level : Nat) (d : Descriptor) : Prop := dIsSystem d = true ∧ (dType d = 4 ∨ 3 ≤ level ∧ dType d = 12)
def taskGate (d : Descriptor) : Prop := dIsSystem d = true ∧ dType d = 5
def taskSegment (level : Nat) (d : Descriptor) : Prop :=
  dIsSystem d = true ∧ (dType d ∈ [1, 3] ∨ 3 ≤ level ∧ dType d ∈ [9, 11])

section
variable {kind : FarKind} (hn : selNull sel = false) (hf : s.finds sel d a)
include hn hf

theorem farProt_ofCallGate (h : callGate s.level d) : farProt kind sel off s = throughGate kind sel d s := by
  obtain ⟨sys, type⟩ := h
  exact farProt_callGate hn hf (not_code_of_system sys) (dHasType_iff.2 ⟨sys, by simpa using type⟩)

theorem farProt_ofTaskGate (h : taskGate d) : farProt kind sel off s =
    (check (decide (max s.cpl (selRpl sel) ≤ dDpl d)) (gpSel sel) >>= fun _ =>
      check (dPresent d) (faultSel 11 sel) >>= fun _ =>
        taskSwitch (if kind = .call then .nest else .jump) (gateSel d) none >>= fun _ => pure .loadedRf) s := by
  obtain ⟨sys, type⟩ := h
  exact farProt_taskGate hn hf (not_code_of_system sys) (by simp [dHasType, type]) (by simp [dHasType, type])
    (by simp [dHasType, sys, type])

theorem farProt_ofTss (h : taskSegment s.level d) : farProt kind sel off s =
    (check (decide (max s.cpl (selRpl sel) ≤ dDpl d)) (gpSel sel) >>= fun _ =>
      taskSwitch (if kind = .call then .nest else .jump) sel none >>= fun _ => pure .loadedRf) s := by
  obtain ⟨sys, type⟩ := h
  refine farProt_tss hn hf (not_code_of_system sys) ?_ (dHasType_iff.2 ⟨sys, type⟩)
  simp only [List.mem_cons, List.not_mem_nil, or_false] at type
  obtain (one | three) | ⟨-, nine | eleven⟩ := type <;> simp_all [dHasType]

theorem farProt_unknown (hc : dIsCode d = false) (hg : ¬callGate s.level d) (ht : ¬taskGate d)
    (hs : ¬taskSegment s.level d) : farProt kind sel off s = .error (s.fault 13 (some (sel &&& 0xFFFC))) := by
  refine farProt_other hn hf hc ?_ ?_ ?_
  · exact Bool.eq_false_iff.2 fun h => hg (by simpa [callGate] using dHasType_iff.1 h)
  · exact Bool.eq_false_iff.2 fun h => hs (dHasType_iff.1 h)
  · exact Bool.eq_false_iff.2 fun h => ht (by simpa [taskGate] using dHasType_iff.1 h)

theorem farProt_closed (h : callGate s.level d ∨ taskGate d ∨ taskSegment s.level d)
    (hp : ¬max s.cpl (selRpl sel) ≤ dDpl d) :
    farProt kind sel off s = .error (s.fault 13 (some (sel &&& 0xFFFC))) := by
  have denied := decide_eq_false hp
  obtain gate | gate | tss := h
  · rw [farProt_ofCallGate hn hf gate]
    exact throughGate_closed hp
  · rw [farProt_ofTaskGate hn hf gate]
    exact check_denied denied gpSel_fault _
  · rw [farProt_ofTss hn hf tss]
    exact check_denied denied gpSel_fault _

variable (hp : max s.cpl (selRpl sel) ≤ dDpl d)
include hp

theorem farProt_gateAbsent (h : callGate s.level d ∨ taskGate d) (hpr : dPresent d = false) :
    farProt kind sel off s = .error (s.fault 11 (some (sel &&& 0xFFFC))) := by
  obtain gate | gate := h
  · rw [farProt_ofCallGate hn hf gate]
    exact throughGate_gateAbsent hp hpr
  · rw [farProt_ofTaskGate hn hf gate, check_bind_ok (decide_eq_true hp)]
    exact check_denied hpr faultSel_fault _

/-- A TSS whose switch ends in an interrupt. -/
theorem farProt_tssFaults (h : taskSegment s.level d) {stop : Abort}
    (hs : ∀ k, k ≠ .iret → taskSwitch k sel none s = .error stop) : farProt kind sel off s = .error stop := by
  rw [farProt_ofTss hn hf h, check_bind_ok (decide_eq_true hp)]
  exact bind_error (hs _ (by split <;> decide)) _

theorem farProt_tssUnusable (h : taskSegment s.level d) (hu : selLocal sel = true ∨ dType d ∈ [3, 11]) :
    farProt kind sel off s = .error (s.fault 13 (some (sel &&& 0xFFFC))) := by
  refine farProt_tssFaults hn hf hp h fun k hk => taskSwitch_unusable hk hn hf (hu.imp_right fun busy => ?_)
  simp only [List.mem_cons, List.not_mem_nil, or_false] at busy
  rcases busy with three | eleven <;> simp_all [dHasType]

omit hn hf hp in
theorem usable_of_free (h : taskSegment s.level d) (hu : dType d ∈ [1, 9]) : dHasType s.level d [1] [9] = true := by
  obtain ⟨sys, type⟩ := h
  refine dHasType_iff.2 ⟨sys, ?_⟩
  simp only [List.mem_cons, List.not_mem_nil, or_false] at type hu ⊢
  omega

theorem farProt_tssAbsent (h : taskSegment s.level d) (hl : selLocal sel = false) (hu : dType d ∈ [1, 9])
    (hpr : dPresent d = false) : farProt kind sel off s = .error (s.fault 11 (some (sel &&& 0xFFFC))) :=
  farProt_tssFaults hn hf hp h fun _ hk => (taskSwitch_absent hk hn hl hf (usable_of_free h hu)).1 hpr

theorem farProt_tssShort (h : taskSegment s.level d) (hl : selLocal sel = false) (hu : dType d ∈ [1, 9])
    (hpr : dPresent d = true) (short : (dLimit s.level d).toNat < (if dType d = 9 then 103 else 43)) :
    farProt kind sel off s = .error (s.fault 10 (some (sel &&& 0xFFFC))) := by
  refine farProt_tssFaults hn hf hp h fun _ hk => (taskSwitch_absent hk hn hl hf (usable_of_free h hu)).2 hpr ?_
  simp only [List.mem_cons, List.not_mem_nil, or_false] at hu
  rcases hu with one | nine <;> simp_all

end

/-! ### What it looks like from outside -/

/-- A far JMP or CALL to a code segment of the same level has run. -/
def State.goesFar (s : State) (i : Instr) (call : Bool) (w : Nat) (sel : Word) (d : Descriptor) (a : Nat) (v : Dword) :
    Prop :=
  ∃ t, exec i s = .next t ∧ (s.withCsOf t).agrees t ∧ s.arrivedAt t (selWithRpl sel s.cpl) d v ∧
    t.flags = s.flags.kept ∧ s.pushedAndMarked s t w (if call then 2 else 0) [a] ∧
    t.regs = (if call then (s.setSp (s.down w 2)).regs else s.regs) ∧
    (call = true → (s.pushedAt t w 1).setWidth 16 = s.cs.sel ∧ s.pushedAt t w 2 = s.nextIp.setWidth w)

theorem inCode_shows (s : State) (sel : Word) (cpl : Nat) (d : Descriptor) (v : Dword) :
    (s.inCode sel cpl d v).cs.shows s.level (selWithRpl sel cpl) d := ⟨rfl, rfl, rfl, rfl, rfl, rfl, rfl⟩

/-- A transfer that comes down to entering a code segment goes there. -/
theorem goesFar_of {i : Instr} {wide : Bool} {r : TrapRecord} (hp : s.prot = true) (hn : s.names sel d a)
    (hw : w = 16 ∨ w = 32) (hv : (targetOf wide off).toNat ≤ (dLimit s.level d).toNat)
    (hr : call = true → s.level ≠ 0 ∧ s.roomApart w 2 [a])
    (hi : ∀ t, enterFar (s.starting r) (farKind call) w sel d a wide off (s.starting r) = .ok (.done, t) →
      exec i s = .next (finish s t .done)) :
    s.goesFar i call w sel d a (targetOf wide off) := by
  obtain ⟨x, run, marked, items⟩ := enterFar_after (s := s.starting r) (off := off) (wide := wide) hp hn hw hv hr
  have regs : (s.withSp (s.down w (if call then 2 else 0))).regs =
      if call then (s.setSp (s.down w 2)).regs else s.regs := by
    cases call with
    | false => rw [if_neg Bool.false_ne_true, withSp_down_zero]; rfl
    | true => rw [setSp_eq]; rfl
  exact ⟨_, hi _ run, rfl, ⟨rfl, rfl, rfl, rfl, inCode_shows s sel s.cpl d (targetOf wide off)⟩, rfl, marked, regs, items⟩

/-! ### The forms -/

section
variable {i : Instr} (hl : s.lockOk false = true) (hp : s.prot = true) (hi : s.farForm i call sel off)
include hl hp hi

/-- A far JMP or CALL that raises an interrupt. -/
theorem far_faults {vec : Byte} {err : Option Word}
    (h : ∀ r, farProt (farKind call) sel off (s.starting r) = .error ((s.starting r).fault vec err)) :
    exec i s = s.faults vec err := by
  obtain ⟨r, -, faults⟩ := farForm_exec hi hl hp
  exact faults vec err (h r)

/-- A far JMP or CALL that comes down to entering a code segment of the same level. -/
theorem far_goes {target : Word} {wide : Bool} {v : Dword}
    (h : ∀ r, farProt (farKind call) sel off (s.starting r) =
      enterFar (s.starting r) (farKind call) w target d a wide v (s.starting r))
    (hn : s.names target d a) (hw : w = 16 ∨ w = 32) (hv : (targetOf wide v).toNat ≤ (dLimit s.level d).toNat)
    (hr : call = true → s.level ≠ 0 ∧ s.roomApart w 2 [a]) : s.goesFar i call w target d a (targetOf wide v) := by
  obtain ⟨r, goes, -⟩ := farForm_exec hi hl hp
  exact goesFar_of hp hn hw hv hr fun t run => goes .done t ((h r).trans run)

section
variable (hn : selNull sel = false) (hf : s.finds sel d a)
include hn hf

/-- To a code segment that can be reached and is present, at an offset inside it. -/
theorem far_full (hc : dIsCode d = true) (ok : codeReachable s sel d = true) (present : dPresent d = true)
    (near : (targetOf s.op32 off).toNat ≤ (dLimit s.level d).toNat) (isCall : call = true)
    (full : ∃ k, (k = 1 ∨ k = 2) ∧ s.ss.inLimit (s.down s.opWidth k).toNat (s.opWidth / 8) = false) :
    exec i s = s.faults 12 (some 0) := by
  subst isCall
  obtain ⟨k, hk, full⟩ := full
  refine far_faults hl hp hi fun r => ?_
  refine (farProt_enters (s := s.starting r) hn hf hc ok present near).trans ?_
  exact bind_error (pushReturn_full (s := s.starting r) hp hk full) _

theorem far_enters (hc : dIsCode d = true) (ok : codeReachable s sel d = true) (present : dPresent d = true)
    (near : (targetOf s.op32 off).toNat ≤ (dLimit s.level d).toNat) (named : s.names sel d a)
    (room : call = true → s.level ≠ 0 ∧ s.roomApart s.opWidth 2 [a]) :
    s.goesFar i call s.opWidth sel d a (targetOf s.op32 off) :=
  far_goes hl hp hi (fun r => farProt_enters (s := s.starting r) hn hf hc ok present near) named (opWidth_cases s) near room

end
section
variable {gate e : Descriptor} {b : Nat} (hn : selNull sel = false) (hf : s.finds sel gate a) (hg : callGate s.level gate)
  (hpass : max s.cpl (selRpl sel) ≤ dDpl gate) (hpr : dPresent gate = true)
include hn hf hg hpass hpr

/-- Through a call gate to a code segment of the same level. -/
theorem far_throughGate (hn' : selNull (gateSel gate) = false) (hf' : s.finds (gateSel gate) e b)
    (hc : dIsCode e = true ∧ dDpl e ≤ s.cpl) (present : dPresent e = true)
    (level : dConforming e = true ∨ dDpl e = s.cpl) (named : s.names (gateSel gate) e b)
    (room : call = true → s.level ≠ 0 ∧ s.roomApart (if dType gate = 12 then 32 else 16) 2 [b])
    (near : (gateOffset gate).toNat ≤ (dLimit s.level e).toNat) :
    s.goesFar i call (if dType gate = 12 then 32 else 16) (gateSel gate) e b (gateOffset gate) := by
  have width : (if gateIs386 gate then 32 else 16) = if dType gate = 12 then 32 else 16 := by
    rcases hg.2 with h | ⟨-, h⟩ <;> simp [gateIs386, h]
  rw [← width] at room ⊢
  refine far_goes (wide := true) (v := gateOffset gate) hl hp hi (fun r => ?_) named (by split <;> simp) near room
  exact (farProt_ofCallGate (s := s.starting r) hn hf hg).trans
    (throughGate_enters (s := s.starting r) hpass hpr hn' hf' hc present level)

omit hpass hpr in
/-- Through a call gate that raises an interrupt. -/
theorem far_gateFaults {vec : Byte} {err : Option Word}
    (h : ∀ r, throughGate (farKind call) sel gate (s.starting r) = .error ((s.starting r).fault vec err)) :
    exec i s = s.faults vec err :=
  far_faults hl hp hi fun r => (farProt_ofCallGate (s := s.starting r) hn hf hg).trans (h r)

end

end

end Sys2Proof.Machine
end

section
/-! PROOFS. RETF and IRET in protected mode: what they read from the stack, what refuses the return address, and the return
at the same level. -/
-- One declaration after the other: many proofs at once take more thread stacks than the memory limit allows.
set_option Elab.async false
namespace Sys2Proof.Machine

variable {s t u : State} {w : Nat} {sel : Word} {v : Dword} {d : Descriptor} {a : Nat}

/-! ### The forms -/

/-- The part of a return between the checks of its target and the jump: on the same stack, or on an outer one. -/
def returnStep (w items : Nat) (n sel : Word) (cpl : Nat) (d : Descriptor) (a : Nat) : M Unit :=
  if selRpl sel = cpl then addSp (BitVec.ofNat 32 (items * (w / 8)) + n.setWidth 32) >>= fun _ => loadCs sel (selRpl sel) d a
  else returnOuter w (items * (w / 8) + n.toNat) (n.setWidth 32) sel d a

theorem returnStep_zero (w items : Nat) (sel : Word) (cpl : Nat) (d : Descriptor) (a : Nat) :
    returnStep w items 0 sel cpl d a =
      if selRpl sel = cpl then addSp (BitVec.ofNat 32 (items * (w / 8))) >>= fun _ => loadCs sel (selRpl sel) d a
      else returnOuter w (items * (w / 8)) 0 sel d a := by
  unfold returnStep
  rw [show BitVec.setWidth 32 (0 : Word) = 0#32 from rfl, BitVec.add_zero]
  rfl

/-- A return to the address read from the stack: its checks, the stack and code segment, the jump. -/
def returnTo (w items : Nat) (n sel : Word) (cpl : Nat) (v : Dword) : M Unit := do
  let p ← returnTarget sel v
  returnStep w items n sel cpl p.1 p.2
  jumpTo true v

/-- The flags IRET finds on the stack. -/
def State.iretImage (s : State) : Dword := (s.memVal s.opWidth .ss (s.up s.opWidth 2)).setWidth 32

/-- The state a return leaves, from the one its jump left. -/
def State.completed (s : State) (i : Instr) (u : State) : State :=
  match i with
  | .iret =>
    finish s { u with flags := s.iretFlags s.iretImage s.op32, nmiBlocked := false }
      (if s.op32 then .loadedRf else .done)
  | _ => finish s u .done

theorem selector_boundary (hw : w = 16 ∨ w = 32) : selectorBoundary ∣ w / 8 := by rcases hw with rfl | rfl <;> decide

/-- READING the return address. -/
theorem peekReturn (h : s.holds w 2) (hw : w = 16 ∨ w = 32) (hs : (s.memVal w .ss (s.up w 1)).setWidth 16 = sel) :
    ∃ r, ∀ {β : Type} (f : BitVec w → Word → M β),
      (peekStack w 0 >>= fun off => peekSelector w (w / 8) >>= fun sel => f off sel) s = f (s.top w) sel (s.traced r) := by
  obtain ⟨r, first⟩ := peekItem_traced (h 0 (by decide)) (dist := 0) rfl s.trap
  obtain ⟨r', second⟩ := peekItem_traced (reaches_boundary (h 1 (by decide)) (selector_boundary hw)) (dist := w / 8)
    (by omega) r
  have selector : peekSelector w (w / 8) (s.traced r) = .ok (sel, s.traced r') := (bind_ok second _).trans (hs ▸ rfl)
  refine ⟨r', fun f => (bind_ok first _).trans ?_⟩
  rw [bind_ok selector, up_zero]
  rfl

/-- RETF comes down to the address on the stack. -/
theorem retfProt_to {n : Word} (h : s.holds s.opWidth 2)
    (hs : (s.memVal s.opWidth .ss (s.up s.opWidth 1)).setWidth 16 = sel) :
    ∃ r, retfProt n s = returnTo s.opWidth 2 n sel s.cpl ((s.top s.opWidth).setWidth 32) (s.traced r) := by
  obtain ⟨r, address⟩ := peekReturn h (opWidth_cases s) hs
  refine ⟨r, ?_⟩
  unfold retfProt
  rw [get_bind_apply]
  refine (address _).trans ?_
  refine congrFun (congrArg (returnTarget sel ((s.top s.opWidth).setWidth 32) >>= ·) (funext fun p => ?_)) (s.traced r)
  unfold returnStep
  by_cases same : selRpl sel = s.cpl
  · exact (if_pos same).trans (by rw [if_pos same]; rfl)
  · exact (if_neg same).trans (by rw [if_neg same])

/-- IRET that stays in its task and in protected mode comes down to the address on the stack, then loads the flags. -/
theorem iretProt_to (h : s.holds s.opWidth 3) (hs : (s.memVal s.opWidth .ss (s.up s.opWidth 1)).setWidth 16 = sel)
    (hnt : s.flags.nt = false) (hv : (s.op32 && s.iretImage.getLsbD 17 && decide (s.cpl = 0)) = false) :
    ∃ r, iretProt s = (returnTo s.opWidth 3 0 sel s.cpl ((s.top s.opWidth).setWidth 32) >>= fun _ =>
      modify fun t : State => { t with flags := s.iretFlags s.iretImage s.op32 }) (s.traced r) := by
  obtain ⟨r, address⟩ := peekReturn (fun i hi => h i (by omega)) (opWidth_cases s) hs
  obtain ⟨r', flags⟩ := peekItem_traced (dist := 2 * (s.opWidth / 8)) (h 2 (by decide)) (by omega) r
  refine ⟨r', ?_⟩
  unfold iretProt
  rw [get_bind_apply, hnt, if_neg Bool.false_ne_true]
  refine (address _).trans ((bind_ok flags _).trans ?_)
  show (if (s.op32 && s.iretImage.getLsbD 17 && decide (s.cpl = 0)) = true then _ else _ : M Unit) (s.traced r') = _
  rw [hv, if_neg Bool.false_ne_true]
  unfold returnTo
  rw [bind_assoc_apply]
  refine congrFun (congrArg (returnTarget sel ((s.top s.opWidth).setWidth 32) >>= ·) (funext fun p => ?_)) (s.traced r')
  funext z
  rw [returnStep_zero, bind_assoc_apply]
  by_cases same : selRpl sel = s.cpl
  · exact (congrFun (if_pos same) z).trans (by rw [if_pos same]; rfl)
  · exact (congrFun (if_neg same) z).trans (by rw [if_neg same]; rfl)

/-- THE FORMS of RETF and IRET come down to a return address. -/
theorem returnForm_exec {i : Instr} {n : Word} (h : s.returnForm i n) (hl : s.lockOk false = true) (hp : s.prot = true)
    (hs : (s.memVal s.opWidth .ss (s.up s.opWidth 1)).setWidth 16 = sel) : ∃ r,
      (∀ vec err, returnTo s.opWidth (returnItems i) n sel s.cpl ((s.top s.opWidth).setWidth 32) (s.starting r) =
          .error ((s.starting r).fault vec err) → exec i s = s.faults vec err) ∧
      (∀ u, returnTo s.opWidth (returnItems i) n sel s.cpl ((s.top s.opWidth).setWidth 32) (s.starting r) = .ok ((), u) →
        exec i s = .next (s.completed i u)) := by
  have readable : ∀ k, s.holds s.opWidth k → s.begin.holds s.opWidth k :=
    fun k holds i hi => (begin_reaches s _ _ _ _ _).trans (holds i hi)
  obtain ⟨form, holds⟩ | ⟨rfl, rfl, holds, nt, stays⟩ := h
  · have retf : exec i s = run false (returnFar n) s ∧ returnItems i = 2 ∧ ∀ u, s.completed i u = finish s u .done := by
      obtain ⟨rfl, rfl⟩ | rfl := form <;> exact ⟨rfl, rfl, fun _ => rfl⟩
    obtain ⟨exec_eq, two, completed⟩ := retf
    obtain ⟨r, back⟩ := retfProt_to (s := s.begin) (n := n) (readable 2 holds) hs
    have body : returnFar n s.begin = retfProt n s.begin := by
      unfold returnFar
      rw [get_bind_apply, if_pos (show s.begin.prot = true from hp)]
    rw [exec_eq, two]
    simp only [completed]
    exact ⟨r, fun vec err bad => run_faults hl (body.trans (back.trans bad)),
      fun u ok => run_ok hl (body.trans (back.trans ok))⟩
  · have noV86 : (s.op32 && s.iretImage.getLsbD 17 && decide (s.cpl = 0)) = false := by
      simpa [State.iretImage] using stays
    obtain ⟨r, back⟩ := iretProt_to (s := s.begin) (readable 3 holds) hs nt noV86
    have body : iretAny s.begin = (iretProt >>= fun _ => unblockNmi >>= fun _ =>
        pure (if s.op32 then Ending.loadedRf else .done)) s.begin := by
      unfold iretAny
      rw [get_bind_apply, if_pos (show s.begin.prot = true from hp), show s.begin.flags.nt = false from nt, Bool.and_false,
        Bool.or_false]
      rfl
    exact ⟨r, fun vec err bad => runEnding_faults (body := iretAny) hl
        (body.trans (bind_error (back.trans (bind_error bad _)) _)),
      fun u ok => runEnding_ok (body := iretAny) hl (body.trans (bind_ok (back.trans (bind_ok ok _)) _))⟩

end Sys2Proof.Machine
end

section
/-! PROOFS. Far JMP, CALL, RETF and IRET at one level in protected mode: O50. -/
-- One declaration after the other: many proofs at once take more thread stacks than the memory limit allows.
set_option Elab.async false
namespace Sys2Proof.Machine

variable {s t u : State} {w : Nat} {sel : Word} {v : Dword} {d : Descriptor} {a : Nat}

/-! ### The checks of a return address -/

/-- A code segment whose privilege a return address fits. -/
def returnFits (sel : Word) (d : Descriptor) : Prop :=
  dIsCode d = true ∧ if dConforming d then dDpl d ≤ selRpl sel else dDpl d = selRpl sel

theorem returnTarget_null (h : selNull sel = true) : returnTarget sel v s = .error (s.fault 13 (some 0)) := by
  unfold returnTarget
  rw [get_bind_apply]
  exact check_denied (by simp [h]) gp0_fault _

section
variable (hn : selNull sel = false)
include hn

theorem returnTarget_inner (h : selRpl sel < s.cpl) :
    returnTarget sel v s = .error (s.fault 13 (some (sel &&& 0xFFFC))) := by
  unfold returnTarget
  rw [get_bind_apply, check_bind_ok (by simp [hn])]
  exact check_denied (decide_eq_false (Nat.not_le.2 h)) gpSel_fault _

variable (hr : s.cpl ≤ selRpl sel)
include hr

theorem returnTarget_outside (h : s.descAddr sel = none) :
    returnTarget sel v s = .error (s.fault 13 (some (sel &&& 0xFFFC))) := by
  unfold returnTarget
  rw [get_bind_apply, check_bind_ok (by simp [hn]), check_bind_ok (decide_eq_true hr)]
  exact bind_error (readDescriptor_outside h gpSel_fault) _

variable (hf : s.finds sel d a)
include hf

theorem returnTarget_unfit (h : ¬returnFits sel d) :
    returnTarget sel v s = .error (s.fault 13 (some (sel &&& 0xFFFC))) := by
  unfold returnTarget
  rw [get_bind_apply, check_bind_ok (by simp [hn]), check_bind_ok (decide_eq_true hr), bind_ok (readDescriptor_finds hf _)]
  by_cases code : dIsCode d = true
  · refine (check_bind_ok code _ _ _).trans (check_denied ?_ gpSel_fault _)
    unfold returnFits at h
    split <;> simp_all
  · exact check_denied (by simpa using code) gpSel_fault _

variable (fits : returnFits sel d)
include fits

/-- A return address whose segment fits: what is left to check of it. -/
theorem returnTarget_fits : returnTarget sel v s =
    (check (dPresent d) (faultSel 11 sel) >>= fun _ => check (decide (v.toNat ≤ (dLimit s.level d).toNat)) gp0 >>= fun _ =>
      pure (d, a)) s := by
  obtain ⟨code, priv⟩ := fits
  unfold returnTarget
  rw [get_bind_apply, check_bind_ok (by simp [hn]), check_bind_ok (decide_eq_true hr), bind_ok (readDescriptor_finds hf _)]
  refine (check_bind_ok code _ _ _).trans (check_bind_ok ?_ _ _ _)
  split <;> simp_all

theorem returnTarget_absent (h : dPresent d = false) :
    returnTarget sel v s = .error (s.fault 11 (some (sel &&& 0xFFFC))) :=
  (returnTarget_fits hn hr hf fits).trans (check_denied h faultSel_fault _)

variable (present : dPresent d = true)
include present

theorem returnTarget_beyond (h : (dLimit s.level d).toNat < v.toNat) :
    returnTarget sel v s = .error (s.fault 13 (some 0)) := by
  rw [returnTarget_fits hn hr hf fits, check_bind_ok present]
  exact check_denied (decide_eq_false (Nat.not_le.2 h)) gp0_fault _

theorem returnTarget_ok (h : v.toNat ≤ (dLimit s.level d).toNat) : returnTarget sel v s = .ok ((d, a), s) := by
  rw [returnTarget_fits hn hr hf fits, check_bind_ok present, check_bind_ok (decide_eq_true h)]
  rfl

end

/-! ### The return at the same level -/

theorem addSp_apply (n : Dword) : addSp n s = .ok ((), s.withSp (s.stackOff (s.sp + n))) := by
  rw [← setSp_eq]
  rfl

theorem bind_pure_id {α : Type} (m : M α) : (m >>= pure) = m := by
  funext s
  rw [bind_apply]
  cases m s <;> rfl

theorem returnTo_same {items : Nat} {n : Word} (hp : s.prot = true) (hn : s.names sel d a) (hc : selRpl sel = s.cpl)
    (hv : v.toNat ≤ (dLimit s.level d).toNat) (ht : returnTarget sel v s = .ok ((d, a), s)) :
    ∃ x, MarkedAt s.mem x.mem (s.tablePlace (a + 5) 0) ∧ returnTo w items n sel s.cpl v s =
      .ok ((), ((s.withSp (s.stackOff (s.sp + (BitVec.ofNat 32 (items * (w / 8)) + n.setWidth 32)))).inCode
        sel s.cpl d v).after x) := by
  obtain ⟨found, writable⟩ := hn
  obtain ⟨x, -, marked, run⟩ := enterCode_after
    (s := s.withSp (s.stackOff (s.sp + (BitVec.ofNat 32 (items * (w / 8)) + n.setWidth 32)))) (sel := sel) (cpl := s.cpl)
    (wide := true) (v := v) hp writable (finds_access found) hv
  refine ⟨x, marked, ?_⟩
  unfold returnTo returnStep
  rw [bind_ok ht, if_pos hc, bind_assoc_apply, bind_ok (addSp_apply _), hc]
  rw [← bind_pure_id (jumpTo true v)]
  exact run pure

/-! ### The flags IRET loads -/

theorem op32_level (h : s.op32 = true) : 3 ≤ s.level := by
  simp [State.op32] at h
  exact h.1

theorem level_four (s : State) (h : 4 ≤ s.level) : s.level = 4 := by
  unfold State.level at h ⊢
  cases hc : s.cfg.cpu <;> simp_all [Cpu.level]

theorem opWidth_wide (s : State) : s.opWidth = 32 ↔ s.op32 = true := by
  unfold State.opWidth
  split <;> simp_all

/-- A bit of the image, as of the item. -/
theorem iretImage_bit (s : State) {k : Nat} (hk : k < 32) :
    s.iretImage.getLsbD k = (s.memVal s.opWidth .ss (s.up s.opWidth 2)).getLsbD k := by
  unfold State.iretImage
  simp [hk]

theorem iretImage_iopl (s : State) :
    s.iretImage.extractLsb' 12 2 = (s.memVal s.opWidth .ss (s.up s.opWidth 2)).extractLsb' 12 2 := by
  ext i hi
  simp only [BitVec.getElem_extractLsb', iretImage_bit s (show 12 + i < 32 by omega)]

/-- IRET loads the flags as the specification says, RF apart. -/
theorem iretFlags_loads (s : State) (rf : Bool) :
    { s.iretFlags s.iretImage s.op32 with rf := rf } = s.loads (s.memVal s.opWidth .ss (s.up s.opWidth 2)) rf := by
  have wide := opWidth_wide s
  have old := op32_level (s := s)
  have top : 4 ≤ s.level ↔ s.level = 4 := ⟨level_four s, fun h => h ▸ Nat.le_refl 4⟩
  unfold State.iretFlags State.popFlags State.loads Flags.loadNine
  rw [iretImage_iopl]
  simp only [iretImage_bit, Nat.reduceLT]
  by_cases zero : s.level = 0
  · simp [zero]
  · by_cases op : s.op32 = true
    · simp [zero, op, old op, wide, top]
    · simp [zero, op, wide]

theorem returnedFlags_iret (s : State) : s.returnedFlags .iret = { s.iretFlags s.iretImage s.op32 with
    rf := if s.op32 then s.iretImage.getLsbD 16 else false } := by
  rw [iretFlags_loads, iretImage_bit s (by decide)]
  unfold State.returnedFlags
  simp only [opWidth_wide]

/-- IRET from 32 bits loads RF. -/
theorem iretFlags_rf (h : s.op32 = true) : (s.iretFlags s.iretImage s.op32).rf = s.iretImage.getLsbD 16 := by
  unfold State.iretFlags
  rw [if_pos ⟨h, op32_level h⟩]

/-- Whether NMI is blocked after a return. -/
def nmiAfter (i : Instr) (blocked : Bool) : Bool :=
  match i with
  | .iret => false
  | _ => blocked

theorem unblocked_eq (u : State) (i : Instr) : u.unblocked i = { u with nmiBlocked := nmiAfter i u.nmiBlocked } := by
  cases i <;> rfl

/-- A state at the end of its instruction. -/
def State.atEnd (u : State) (i : Instr) (fl : Flags) (tr : TrapRecord) : State :=
  { u with nmiBlocked := nmiAfter i u.nmiBlocked, cur := .start, repeating := none, flags := fl, trap := tr }

/-- What a return leaves, from the state its jump left with the old flags. -/
theorem completed_eq {i : Instr} (h : u.flags = s.flags) : ∃ tr, s.completed i u = u.atEnd i (s.returnedFlags i) tr := by
  have kept : ∀ i, s.returnedFlags i = s.flags.kept → s.completed i u = finish s u .done →
      (∀ b, nmiAfter i b = b) → ∃ tr, s.completed i u = u.atEnd i (s.returnedFlags i) tr := by
    intro i flags completed nmi
    refine ⟨(finish s u .done).trap, ?_⟩
    rw [flags, completed, ← h]
    unfold State.atEnd
    rw [nmi]
    rfl
  cases i with
  | iret =>
    rw [returnedFlags_iret]
    unfold State.completed State.atEnd
    by_cases op : s.op32 = true
    · rw [if_pos op, if_pos op, ← iretFlags_rf op]
      exact ⟨_, rfl⟩
    · rw [if_neg op, if_neg op]
      exact ⟨_, rfl⟩
  | _ => exact kept _ rfl rfl fun _ => rfl

/-! ### The forms -/

section
variable {i : Instr} {n : Word} (hl : s.lockOk false = true) (hp : s.prot = true) (hi : s.returnForm i n)
  (hs : (s.memVal s.opWidth .ss (s.up s.opWidth 1)).setWidth 16 = sel)
include hl hp hi hs

/-- A return that raises an interrupt at its checks. -/
theorem return_faults {vec : Byte} {err : Option Word}
    (h : ∀ r, returnTarget sel ((s.top s.opWidth).setWidth 32) (s.starting r) = .error ((s.starting r).fault vec err)) :
    exec i s = s.faults vec err := by
  obtain ⟨r, faults, -⟩ := returnForm_exec hi hl hp hs
  exact faults vec err (bind_error (h r) _)

/-- A RETURN at the same level. -/
theorem return_same (hn : s.names sel d a) (hc : selRpl sel = s.cpl)
    (hv : ((s.top s.opWidth).setWidth 32 : Dword).toNat ≤ (dLimit s.level d).toNat)
    (ht : ∀ r, returnTarget sel ((s.top s.opWidth).setWidth 32) (s.starting r) = .ok ((d, a), s.starting r)) :
    ∃ t, exec i s = .next t ∧ ((s.unblocked i).withCsOf t).agrees t ∧
      s.arrivedAt t (selWithRpl sel s.cpl) d ((s.top s.opWidth).setWidth 32) ∧ s.marked t a ∧
      t.flags = s.returnedFlags i ∧ t.regs = (s.setSp (s.stackOff
        (s.sp + (BitVec.ofNat 32 (returnItems i * (s.opWidth / 8)) + n.setWidth 32)))).regs := by
  obtain ⟨r, -, returns⟩ := returnForm_exec hi hl hp hs
  obtain ⟨x, marked, run⟩ := returnTo_same (s := s.starting r) (w := s.opWidth) (items := returnItems i) (n := n)
    hp hn hc hv (ht r)
  obtain ⟨tr, ends⟩ := completed_eq (s := s) (i := i) (u := ((((s.starting r).withSp _).inCode sel s.cpl d _).after x)) rfl
  refine ⟨_, (returns _ run).trans (congrArg _ ends), ?_⟩
  rw [unblocked_eq, setSp_eq]
  exact ⟨rfl, ⟨rfl, rfl, rfl, rfl, inCode_shows s sel s.cpl d ((s.top s.opWidth).setWidth 32)⟩, marked, rfl, rfl⟩

end

/-! ### The statement -/

theorem codeReachable_iff : codeReachable s sel d = true ↔
    if dConforming d then dDpl d ≤ s.cpl else dDpl d = s.cpl ∧ selRpl sel ≤ s.cpl := by
  unfold codeReachable
  split <;> simp

/-- Settles O50: each form comes down to one computation on the state its reads leave, and each case of the descriptors is
an equation of that computation. -/
theorem protectedTransfers : Obligations.ProtectedTransfers := by
  unfold Obligations.ProtectedTransfers
  intro s sel hl hp
  refine ⟨fun off i call hi => ⟨?null, ?outside, fun d a hn hf => ⟨?other, ?closed, ?absent, ?unusable, ?tss, ?code,
    ?gate⟩⟩, fun i n hi hs => ⟨?backNull, ?backInner, ?backOutside, fun d a some outer hf => ⟨?backUnfit, ?backAbsent,
    ?backBeyond, ?back⟩⟩⟩
  case null => exact fun null => far_faults hl hp hi fun _ => farProt_null null
  case outside => exact fun some none => far_faults hl hp hi fun _ => farProt_outside some none
  case other => exact fun code gate task tss => far_faults hl hp hi fun _ => farProt_unknown hn hf code gate task tss
  case closed => exact fun gate closed => far_faults hl hp hi fun _ => farProt_closed hn hf gate closed
  case absent => exact fun gate passes absent => far_faults hl hp hi fun _ => farProt_gateAbsent hn hf passes gate absent
  case unusable => exact fun tss passes busy => far_faults hl hp hi fun _ => farProt_tssUnusable hn hf passes tss busy
  case tss =>
    exact fun tss passes global free => ⟨fun absent => far_faults hl hp hi fun _ =>
        farProt_tssAbsent hn hf passes tss global free absent,
      fun present short => far_faults hl hp hi fun _ => farProt_tssShort hn hf passes tss global free present short⟩
  case code =>
    exact fun code => ⟨fun out => far_faults hl hp hi fun _ => farProt_unreachable hn hf code
        (Bool.eq_false_iff.2 fun ok => out (codeReachable_iff.1 ok)),
      fun ok absent => far_faults hl hp hi fun _ => farProt_absent hn hf code (codeReachable_iff.2 ok) absent,
      fun ok present far => far_faults hl hp hi fun _ => farProt_beyond hn hf code (codeReachable_iff.2 ok) present far,
      fun ok present near => ⟨far_full hl hp hi hn hf code (codeReachable_iff.2 ok) present near,
        far_enters hl hp hi hn hf code (codeReachable_iff.2 ok) present near⟩⟩
  case gate =>
    exact fun gate passes present =>
      ⟨fun null => far_gateFaults hl hp hi hn hf gate fun _ => throughGate_null passes present null,
        fun some none => far_gateFaults hl hp hi hn hf gate fun _ => throughGate_outside passes present some none,
        fun e b some found => ⟨fun out => far_gateFaults hl hp hi hn hf gate fun _ =>
            throughGate_noCode passes present some found out,
          fun inside absent => far_gateFaults hl hp hi hn hf gate fun _ =>
            throughGate_absent passes present some found inside absent,
          fun inside here jmp noncon inner => far_gateFaults hl hp hi hn hf gate fun _ =>
            jmp ▸ throughGate_jmpInner passes present some found inside here noncon inner,
          fun inside here level named room near =>
            far_throughGate hl hp hi hn hf gate passes present some found inside here level named room near⟩⟩
  case backNull => exact fun null => return_faults hl hp hi hs fun _ => returnTarget_null null
  case backInner => exact fun some inner => return_faults hl hp hi hs fun _ => returnTarget_inner some inner
  case backOutside =>
    exact fun some outer none => return_faults hl hp hi hs fun _ => returnTarget_outside some outer none
  case backUnfit => exact fun unfit => return_faults hl hp hi hs fun _ => returnTarget_unfit some outer hf unfit
  case backAbsent =>
    exact fun fits absent => return_faults hl hp hi hs fun _ => returnTarget_absent some outer hf fits absent
  case backBeyond =>
    exact fun fits present far => return_faults hl hp hi hs fun _ => returnTarget_beyond some outer hf fits present far
  case back =>
    exact fun fits present near same named => return_same hl hp hi hs named same near fun _ =>
      returnTarget_ok some outer hf fits present near

end Sys2Proof.Machine
end

section
/-! PROOFS. RETF and IRET to an outer level: the stack segment and stack pointer of that level, and the data segments it may
not use. -/
-- One declaration after the other: many proofs at once take more thread stacks than the memory limit allows.
set_option Elab.async false
namespace Sys2Proof.Machine

variable {s t u : State} {w : Nat} {sel ss : Word} {v sp : Dword} {d ds : Descriptor} {a as : Nat}

/-! ### The stack segment -/

/-- The state with the stack segment of a descriptor. -/
def State.onStack (s : State) (ss : Word) (ds : Descriptor) : State :=
  { s with ss := SegReg.ofDescriptor s.level ss ds }

/-- Loading SS for a privilege level. -/
theorem loadStackSeg_after {vec : Byte} {cpl : Nat} (h : s.findsStack cpl ss ds as) :
    ∃ x, loadStackSeg vec cpl ss s = .ok ((), (s.onStack ss ds).after x) ∧ x.trap = s.trap ∧
      Memory.wf x.mem = true ∧ MarkedAt s.mem x.mem (s.tablePlace (as + 5) 0) := by
  obtain ⟨null, ⟨found, writable⟩, rpl, data, dpl, present⟩ := h
  obtain ⟨x, run, trap, -, wf, marked⟩ := markAccessed_after writable (finds_access found)
  refine ⟨x, ?_, trap, wf, marked⟩
  unfold loadStackSeg
  rw [check_bind_ok (by simp [null]), bind_ok (readDescriptor_finds found _)]
  refine (check_bind_ok (by simp [rpl, data, dpl]) _ _ _).trans ((check_bind_ok present _ _ _).trans ?_)
  rw [bind_ok run]
  rfl

/-- Code and a stack segment lie in two descriptors. -/
theorem code_apart_stack (hd : Memory.read s.mem (s.tablePlace (a + 5) 0) = dAccess d)
    (hs : Memory.read s.mem (s.tablePlace (as + 5) 0) = dAccess ds) (hc : dIsCode d = true)
    (hw : dIsWritableData ds = true) : s.tablePlace (a + 5) 0 ≠ s.tablePlace (as + 5) 0 := by
  intro same
  rw [same, hs] at hd
  unfold dIsCode accIsCode at hc
  unfold dIsWritableData accIsData at hw
  rw [← hd] at hc
  simp_all

/-! ### Data segments an outer level may not use -/

/-- A data segment register at a level: null when it is of a level further in. -/
def SegReg.dropped (g : SegReg) (cpl : Nat) : SegReg :=
  if !g.valid || (accIsCode g.access && accBit2 g.access) || decide (cpl ≤ accDpl g.access) then g else g.loadNull 0

theorem setSeg_seg (s : State) (r : SReg) : s.setSeg r (s.seg r) = s := by cases r <;> rfl

theorem dropInner_apply (r : SReg) (s : State) :
    dropInner r s = .ok ((), s.setSeg r ((s.seg r).dropped s.cpl)) := by
  unfold dropInner SegReg.dropped
  rw [modify_apply]
  split
  case isTrue usable =>
    rw [setSeg_seg]
    exact congrArg (fun t => Except.ok ((), t)) (if_pos usable)
  case isFalse inner => exact congrArg (fun t => Except.ok ((), t)) (if_neg inner)

/-- The state with the data segments of inner levels closed. -/
def State.closedInner (s : State) : State :=
  { s with
    ds := s.ds.dropped s.cpl, es := s.es.dropped s.cpl, fs := s.fs.dropped s.cpl, gs := s.gs.dropped s.cpl }

theorem dropInnerAll_apply (s : State) : dropInnerAll s = .ok ((), s.closedInner) := by
  unfold dropInnerAll
  rw [bind_ok (dropInner_apply .ds s), bind_ok (dropInner_apply .es _), bind_ok (dropInner_apply .fs _), dropInner_apply]
  rfl

theorem leftOuter_dropped (g : SegReg) (level : Nat) : g.leftOuter (g.dropped level) level := by
  unfold SegReg.leftOuter SegReg.dropped
  by_cases inner : g.valid = true ∧ ¬(accIsCode g.access = true ∧ accBit2 g.access = true) ∧ accDpl g.access < level
  · rw [if_pos inner, if_neg]
    · exact ⟨rfl, rfl⟩
    · obtain ⟨valid, code, dpl⟩ := inner
      simp_all
  · rw [if_neg inner, if_pos]
    simp only [not_and_or, Nat.not_lt] at inner
    simpa [or_assoc] using inner

/-! ### The return -/

theorem traced_after (s : State) (r : TrapRecord) : s.traced r = s.after { s.trace with trap := r } := rfl
theorem after_onStack (s : State) (x : Trace) (ss : Word) (ds : Descriptor) :
    (s.after x).onStack ss ds = (s.onStack ss ds).after x := rfl
theorem after_inCode (s : State) (x : Trace) (sel : Word) (cpl : Nat) (d : Descriptor) (v : Dword) :
    (s.after x).inCode sel cpl d v = (s.inCode sel cpl d v).after x := rfl
theorem after_closedInner (s : State) (x : Trace) : s.closedInner.after x = (s.after x).closedInner := rfl

/-- Two descriptors marked one after the other. -/
theorem pushedAndMarked_two {n : Nat} {m m' : Memory} (hm : ∀ y, u.offStack w n y → Memory.read m y = Memory.read s.mem y)
    (ha : u.offStack w n (s.tablePlace (a + 5) 0)) (has : u.offStack w n (s.tablePlace (as + 5) 0))
    (hne : s.tablePlace (a + 5) 0 ≠ s.tablePlace (as + 5) 0) (first : MarkedAt m m' (s.tablePlace (as + 5) 0))
    (second : MarkedAt m' t.mem (s.tablePlace (a + 5) 0)) : s.pushedAndMarked u t w n [a, as] := by
  refine ⟨fun y off apart => ?_, fun b hb => ?_⟩
  · rw [second.1 y (apart a (by simp)), first.1 y (apart as (by simp)), hm y off]
  · simp only [List.mem_cons, List.not_mem_nil, or_false] at hb
    rcases hb with rfl | rfl
    · rw [second.2, first.1 _ hne, hm _ ha]
    · rw [second.1 _ hne.symm, first.2, hm _ has]

theorem offStack_none (s : State) (w a : Nat) : s.offStack w 0 a := fun _ _ one none => absurd none (by omega)

/-- The state on the stack and in the code segment of an outer level. -/
def State.inOuter (s : State) (sel : Word) (d : Descriptor) (ss : Word) (ds : Descriptor) (v sp : Dword) : State :=
  let u := (s.onStack ss ds).inCode sel (selRpl sel) d v
  (u.withSp (u.stackOff sp)).closedInner

/-- What lies above the return address and the parameters: the stack pointer and stack segment of the outer level. -/
structure State.OuterStack (s : State) (w dist : Nat) (sp : BitVec w) (ss : Word) : Prop where
  reachSp : s.reaches .ss .read (s.stackOff (s.sp + BitVec.ofNat 32 dist)) (w / 8) (w / 8) = true
  reachSs : s.reaches .ss .read (s.stackOff (s.sp + BitVec.ofNat 32 (dist + w / 8))) (w / 8) (w / 8) = true
  sp : s.memVal w .ss (s.stackOff (s.sp + BitVec.ofNat 32 dist)) = sp
  ss : (s.memVal w .ss (s.stackOff (s.sp + BitVec.ofNat 32 (dist + w / 8)))).setWidth 16 = ss

/-- READING the outer stack. -/
theorem State.OuterStack.peek {dist : Nat} {sp : BitVec w} (h : s.OuterStack w dist sp ss) (hw : w = 16 ∨ w = 32) :
    ∃ r, ∀ {β : Type} (f : BitVec w → Word → M β), (peekStack w dist >>= fun sp => peekSelector w (dist + w / 8) >>=
      fun ss => f sp ss) s = f sp ss (s.traced r) := by
  obtain ⟨r, peekSp⟩ := readItem_traced h.reachSp s.trap
  obtain ⟨r', peekSs⟩ := readItem_traced (reaches_boundary h.reachSs (selector_boundary hw)) r
  have first : peekStack w dist s = .ok (s.memVal w .ss (s.stackOff (s.sp + BitVec.ofNat 32 dist)), s.traced r) := peekSp
  have second : peekItem w selectorBoundary (dist + w / 8) (s.traced r) =
      .ok (s.memVal w .ss (s.stackOff (s.sp + BitVec.ofNat 32 (dist + w / 8))), s.traced r') := peekSs
  have selector : peekSelector w (dist + w / 8) (s.traced r) = .ok (ss, s.traced r') := by
    rw [← h.ss]
    exact bind_ok second _
  refine ⟨r', fun f => (bind_ok first _).trans ?_⟩
  rw [bind_ok selector, h.sp]

/-- THE RETURN TO AN OUTER LEVEL. -/
theorem returnTo_outer {items : Nat} {n : Word} {sp : BitVec w} (hp : s.prot = true) (hw : w = 16 ∨ w = 32)
    (hn : s.names sel d a) (hcode : dIsCode d = true) (hc : s.cpl < selRpl sel)
    (hv : v.toNat ≤ (dLimit s.level d).toNat) (ht : returnTarget sel v s = .ok ((d, a), s))
    (ho : s.OuterStack w (items * (w / 8) + n.toNat) sp ss) (hf : s.findsStack (selRpl sel) ss ds as) :
    ∃ x, s.pushedAndMarked s (s.after x) w 0 [a, as] ∧ returnTo w items n sel s.cpl v s =
      .ok ((), (s.inOuter sel d ss ds v (sp.setWidth 32 + n.setWidth 32)).after x) := by
  obtain ⟨r, peek⟩ := ho.peek hw
  obtain ⟨found, writable⟩ := hn
  have access := finds_access found
  obtain ⟨-, ⟨foundStack, -⟩, -, data, -, -⟩ := id hf
  have apart := code_apart_stack access (finds_access foundStack) hcode data
  obtain ⟨x, loadSs, -, wf, first⟩ := loadStackSeg_after (s := s.traced r) (vec := 13) hf
  have way : s.TableWay (((s.traced r).onStack ss ds).after x) := ⟨rfl, pe_of_prot hp, pe_of_prot hp, rfl⟩
  obtain ⟨y, loadCode, -, -, second⟩ := loadCs_after (s := ((s.traced r).onStack ss ds).after x) (sel := sel)
    (cpl := selRpl sel) (way.tableOk wf writable) ((first.1 _ apart).trans access)
  refine ⟨{ y with stale := [] }, pushedAndMarked_two (fun _ _ => rfl) (offStack_none _ _ _) (offStack_none _ _ _) apart
    first second, ?_⟩
  unfold returnTo returnStep returnOuter
  rw [bind_ok ht, if_neg (Nat.ne_of_gt hc)]
  have outer : (loadStackSeg 13 (selRpl sel) ss >>= fun _ => loadCs sel (selRpl sel) d a >>= fun _ =>
      modify (fun s => s.setSp (s.stackOff (sp.setWidth 32 + n.setWidth 32))) >>= fun _ => dropInnerAll)
        (s.traced r) = .ok ((), (s.inOuter sel d ss ds s.eip (sp.setWidth 32 + n.setWidth 32)).after y) := by
    rw [bind_ok loadSs, bind_ok loadCode, modify_bind_apply, dropInnerAll_apply, setSp_eq, traced_after, after_onStack,
      after_after, after_inCode, after_after, after_withSp]
    unfold State.inOuter
    rw [after_closedInner]
    rfl
  have inside : ((s.inOuter sel d ss ds s.eip (sp.setWidth 32 + n.setWidth 32)).after y).targetOk (targetOf true v) =
      true := by
    unfold State.targetOk
    rw [if_pos (show ((s.inOuter sel d ss ds s.eip (sp.setWidth 32 + n.setWidth 32)).after y).prot = true from hp)]
    exact decide_eq_true hv
  rw [bind_ok ((peek _).trans outer), jumpTo_ok inside]
  rfl

theorem selWithRpl_level (sel : Word) {c : Nat} (hc : c < 4) : (selWithRpl sel c &&& 3).toNat = c := by
  have high : sel &&& 0xFFFC &&& 3 = 0#16 := by
    rw [BitVec.and_assoc, show ((0xFFFC : Word) &&& 3) = 0#16 from rfl, BitVec.and_zero]
  have low : (sel &&& 0xFFFC ||| BitVec.ofNat 16 c) &&& 3 = BitVec.ofNat 16 c &&& 3 := by
    rw [BitVec.and_or_distrib_right, high, BitVec.zero_or]
  unfold selWithRpl
  rw [Nat.mod_eq_of_lt hc, low]
  interval_cases c <;> rfl

theorem inCode_cpl (hp : s.prot = true) {c : Nat} (hc : c < 4) : (s.inCode sel c d v).cpl = c := by
  have modes : s.cr0.pe = true ∧ s.flags.vm = false := by simpa [State.prot] using hp
  unfold State.cpl State.inCode
  rw [modes.1, modes.2]
  exact selWithRpl_level sel hc

theorem atEnd_agrees {i : Instr} {fl : Flags} {tr : TrapRecord} (h : (s.withSegsOf u).agrees u) :
    ((s.unblocked i).withSegsOf (u.atEnd i fl tr)).agrees (u.atEnd i fl tr) := by
  rw [unblocked_eq]
  exact congrArg (fun t : State => { t with nmiBlocked := nmiAfter i t.nmiBlocked }) h

theorem inOuter_agrees (s : State) (r : TrapRecord) (sp : Dword) (x : Trace) :
    (s.withSegsOf (((s.starting r).inOuter sel d ss ds v sp).after x)).agrees (((s.starting r).inOuter sel d ss ds v sp).after x) := by
  unfold State.agrees State.inOuter
  dsimp only
  unfold State.closedInner State.withSp
  rfl

/-- A RETURN TO AN OUTER LEVEL, seen from outside: the first part of O39. -/
theorem return_outer {i : Instr} {n : Word} (hl : s.lockOk false = true) (hp : s.prot = true) (hi : s.returnForm i n)
    (hs : (s.memVal s.opWidth .ss (s.up s.opWidth 1)).setWidth 16 = sel) (null : selNull sel = false)
    (hc : s.cpl < selRpl sel) (hn : s.names sel d a) (fits : returnFits sel d) (present : dPresent d = true)
    (hv : ((s.top s.opWidth).setWidth 32 : Dword).toNat ≤ (dLimit s.level d).toNat) {sp : BitVec s.opWidth}
    (ho : s.OuterStack s.opWidth (returnItems i * (s.opWidth / 8) + n.toNat) sp ss)
    (hf : s.findsStack (selRpl sel) ss ds as) :
    ∃ t, exec i s = .next t ∧ ((s.unblocked i).withSegsOf t).agrees t ∧
      s.arrivedAt t sel d ((s.top s.opWidth).setWidth 32) ∧
      t.ss.shows s.level ss ds ∧ s.pushedAndMarked s t s.opWidth 0 [a, as] ∧ t.flags = s.returnedFlags i ∧
      t.regs = (let u : State := { s with ss := t.ss };
        (u.setSp (u.stackOff (sp.setWidth 32 + n.setWidth 32))).regs) ∧
      s.ds.leftOuter t.ds (selRpl sel) ∧ s.es.leftOuter t.es (selRpl sel) ∧ s.fs.leftOuter t.fs (selRpl sel) ∧
      s.gs.leftOuter t.gs (selRpl sel) := by
  obtain ⟨r, -, returns⟩ := returnForm_exec hi hl hp hs
  obtain ⟨x, marked, run⟩ := returnTo_outer (s := s.starting r) (w := s.opWidth) (items := returnItems i) (n := n)
    (sp := sp) hp (opWidth_cases s) hn fits.1 hc hv (returnTarget_ok null (Nat.le_of_lt hc) hn.1 fits present hv)
    ⟨ho.reachSp, ho.reachSs, ho.sp, ho.ss⟩ hf
  obtain ⟨tr, ends⟩ := completed_eq (s := s) (i := i) (u := (((s.starting r).inOuter sel d ss ds
    ((s.top s.opWidth).setWidth 32) (sp.setWidth 32 + n.setWidth 32)).after x)) rfl
  refine ⟨_, (returns _ run).trans (congrArg _ ends), ?_⟩
  have shows : (s.inCode sel (selRpl sel) d ((s.top s.opWidth).setWidth 32)).cs.shows s.level sel d := by
    have shows := inCode_shows s sel (selRpl sel) d ((s.top s.opWidth).setWidth 32)
    rwa [selWithRpl_self] at shows
  have level : ((s.onStack ss ds).inCode sel (selRpl sel) d ((s.top s.opWidth).setWidth 32)).cpl = selRpl sel :=
    inCode_cpl (s := s.onStack ss ds) (v := (s.top s.opWidth).setWidth 32) hp (selRpl_lt sel)
  have closed : ∀ g : SegReg, g.leftOuter (g.dropped ((s.onStack ss ds).inCode sel (selRpl sel) d
      ((s.top s.opWidth).setWidth 32)).cpl) (selRpl sel) := fun g => by
    rw [level]
    exact leftOuter_dropped g (selRpl sel)
  refine ⟨atEnd_agrees (inOuter_agrees s r _ x), ⟨rfl, rfl, rfl, rfl, shows⟩, ⟨rfl, rfl, rfl, rfl, rfl, rfl, rfl⟩, marked, rfl, ?_, closed s.ds, closed s.es,
    closed s.fs, closed s.gs⟩
  dsimp only
  rw [setSp_eq]
  rfl

end Sys2Proof.Machine
end

section
/-! PROOFS. IRET from level 0 to V86 mode: its nine items, and the flags an image gives. -/
-- One declaration after the other: many proofs at once take more thread stacks than the memory limit allows.
set_option Elab.async false
namespace Sys2Proof.Machine

variable {s t u : State} {w : Nat}

/-! ### Pops -/

theorem withSp_way (s : State) (v : Dword) : s.SameWay (s.withSp v) :=
  ⟨rfl, rfl, rfl, fun r => by cases r <;> rfl, rfl, rfl, rfl⟩

/-- POPPING item `i` of a stack. -/
theorem popItem_at {b i : Nat} (h : s.reaches .ss .read (s.up w i) (w / 8) b = true) (r : TrapRecord) :
    ∃ r', popItem w b ((s.withSp (s.up w i)).traced r) =
      .ok (s.memVal w .ss (s.up w i), (s.withSp (s.up w (i + 1))).traced r') := by
  have sp : ∀ r, ((s.withSp (s.up w i)).traced r).sp = s.up w i := fun r =>
    (withSp_sp s (s.up w i)).trans (stackOff_stackOff s _)
  have way := withSp_way s (s.up w i)
  obtain ⟨r', read⟩ := readItem_traced ((way.reaches rfl .ss .read (s.up w i) (w / 8) b).trans h) r
  have next : ((s.withSp (s.up w i)).traced r').withSp (((s.withSp (s.up w i)).traced r').stackOff
      (s.up w i + BitVec.ofNat 32 (w / 8))) = (s.withSp (s.up w (i + 1))).traced r' := by
    rw [show ((s.withSp (s.up w i)).traced r').stackOff (s.up w i + BitVec.ofNat 32 (w / 8)) = s.up w (i + 1) from
      up_succ s w i]
    exact congrArg (·.traced r') (withSp_withSp s (s.up w i) (s.up w (i + 1)))
  refine ⟨r', ?_⟩
  unfold popItem
  rw [get_bind_apply, sp, bind_ok read, modify_bind_apply, setSp_eq, sp, way.memVal rfl, next]
  rfl

theorem pop_at {i : Nat} (h : s.reaches .ss .read (s.up w i) (w / 8) (w / 8) = true) (r : TrapRecord) :
    ∃ r', pop w ((s.withSp (s.up w i)).traced r) =
      .ok (s.memVal w .ss (s.up w i), (s.withSp (s.up w (i + 1))).traced r') := popItem_at h r

theorem popSelector_at {i : Nat} (h : s.reaches .ss .read (s.up w i) (w / 8) (w / 8) = true) (hw : w = 16 ∨ w = 32)
    (r : TrapRecord) : ∃ r', popSelector w ((s.withSp (s.up w i)).traced r) =
      .ok ((s.memVal w .ss (s.up w i)).setWidth 16, (s.withSp (s.up w (i + 1))).traced r') := by
  obtain ⟨r', run⟩ := popItem_at (reaches_boundary h (selector_boundary hw)) r
  exact ⟨r', bind_ok run _⟩

/-! ### The flags of an image -/

/-- The flags of an image have its bits, those the processor has. -/
theorem ofImage_bit (v : Dword) (level : Nat) {k : Nat} (hl : 3 ≤ level)
    (hk : k ∈ [0, 2, 4, 6, 7, 8, 9, 10, 11, 12, 13, 14, 16, 17] ∨ k = 18 ∧ level = 4) :
    (Flags.ofImage v level).bit level k = v.getLsbD k := by
  have two : 2 ≤ level := by omega
  rcases hk with low | ⟨rfl, rfl⟩
  · simp only [List.mem_cons, List.not_mem_nil, or_false] at low
    rcases low with rfl | rfl | rfl | rfl | rfl | rfl | rfl | rfl | rfl | rfl | rfl | rfl | rfl | rfl
    all_goals simp [Flags.ofImage, Flags.loadNine, Flags.bit, hl, two]
  · simp [Flags.ofImage, Flags.loadNine, Flags.bit]

/-! ### IRET to V86 mode -/

theorem up_all (s : State) (w : Nat) : s.withSp (s.up w 0) = s := by
  rw [up_zero, withSp_self]

/-- The general registers with another stack pointer, replaced altogether. -/
theorem withSp_esp (s : State) (v x : Dword) : ({ (s.withSp v).regs with esp := x } : Gpr) = { s.regs with esp := x } := by
  show ({ s.spRegs v with esp := x } : Gpr) = _
  unfold State.spRegs
  split <;> rfl

/-- Item `i` of nine doublewords. -/
def State.iretItem (s : State) (i : Nat) : Dword := s.memVal 32 .ss (s.up 32 i)

/-- The state in V86 mode that the nine items give. -/
def State.inV86 (s : State) : State :=
  { s with
    eip := s.iretItem 0, flags := Flags.ofImage (s.iretItem 2) s.level, regs := { s.regs with esp := s.iretItem 3 }
    cs := SegReg.v86 ((s.iretItem 1).setWidth 16), ss := SegReg.v86 ((s.iretItem 4).setWidth 16)
    es := SegReg.v86 ((s.iretItem 5).setWidth 16), ds := SegReg.v86 ((s.iretItem 6).setWidth 16)
    fs := SegReg.v86 ((s.iretItem 7).setWidth 16), gs := SegReg.v86 ((s.iretItem 8).setWidth 16), resetLatch := false }

theorem reaches_inLimit {k : AccessKind} {off : Dword} {n b : Nat} (h : s.reaches .ss k off n b = true)
    (hl : s.level ≠ 0) : s.ss.inLimit off.toNat n = true := by
  unfold State.reaches State.segOk at h
  simp only [Bool.and_eq_true, hl, decide_false, Bool.false_or] at h
  exact h.1.1.2.2

theorem iretToV86_after (h : s.holds 32 9) (hl : s.level ≠ 0) (r : TrapRecord) :
    ∃ x, x.mem = s.mem ∧ iretToV86 (s.traced r) = .ok ((), s.inV86.after x) := by
  have room : ((List.range 9).all fun i => s.ss.inLimit (s.stackOff (s.sp + BitVec.ofNat 32 (4 * i))).toNat 4) = true :=
    List.all_eq_true.2 fun i hi => reaches_inLimit (h i (List.mem_range.1 hi)) hl
  obtain ⟨r0, pop0⟩ := pop_at (h 0 (by decide)) r
  obtain ⟨r1, pop1⟩ := popSelector_at (h 1 (by decide)) (.inr rfl) r0
  obtain ⟨r2, pop2⟩ := pop_at (h 2 (by decide)) r1
  obtain ⟨r3, pop3⟩ := pop_at (h 3 (by decide)) r2
  obtain ⟨r4, pop4⟩ := popSelector_at (h 4 (by decide)) (.inr rfl) r3
  obtain ⟨r5, pop5⟩ := popSelector_at (h 5 (by decide)) (.inr rfl) r4
  obtain ⟨r6, pop6⟩ := popSelector_at (h 6 (by decide)) (.inr rfl) r5
  obtain ⟨r7, pop7⟩ := popSelector_at (h 7 (by decide)) (.inr rfl) r6
  obtain ⟨r8, pop8⟩ := popSelector_at (h 8 (by decide)) (.inr rfl) r7
  rw [up_all] at pop0
  refine ⟨{ s.trace with trap := r8, stale := [] }, rfl, ?_⟩
  unfold iretToV86
  rw [get_bind_apply]
  refine (check_bind_ok room _ _ _).trans ?_
  rw [bind_ok pop0, bind_ok pop1, bind_ok pop2, bind_ok pop3, bind_ok pop4, bind_ok pop5, bind_ok pop6, bind_ok pop7,
    bind_ok pop8, modify_apply]
  unfold State.inV86
  rw [← withSp_esp s (s.up 32 9)]
  rfl

theorem v86_base (sel : Word) : (SegReg.v86 sel).base.toNat = 16 * sel.toNat := by
  have := sel.isLt
  unfold SegReg.v86
  rw [BitVec.toNat_shiftLeft, BitVec.toNat_setWidth]
  omega

/-- IRET TO V86 MODE. -/
theorem iret_toV86 (hl : s.lockOk false = true) (hp : s.prot = true) (hc : s.cpl = 0) (hnt : s.flags.nt = false)
    (ho : s.op32 = true) (hh : s.holds 32 9) (hv : (s.iretItem 2).getLsbD 17 = true) :
    ∃ x : Trace, x.mem = s.mem ∧ exec .iret s = .next (({ s.inV86 with
      shadow := .none, nmiBlocked := false, cur := .start, repeating := none } : State).after x) := by
  have w32 : s.opWidth = 32 := (opWidth_wide s).2 ho
  have readable : s.begin.holds 32 9 := fun i hi => (begin_reaches s _ _ _ _ _).trans (hh i hi)
  have level : s.level ≠ 0 := Nat.ne_of_gt (Nat.lt_of_lt_of_le (by decide) (op32_level ho))
  obtain ⟨r, address⟩ := peekReturn (s := s.begin) (w := 32) (fun i hi => readable i (by omega)) (.inr rfl) rfl
  obtain ⟨r', flags⟩ := peekItem_traced (s := s.begin) (w := 32) (dist := 2 * (32 / 8)) (readable 2 (by decide)) rfl r
  obtain ⟨x, mem, back⟩ := iretToV86_after readable level r'
  have prot : iretProt s.begin = .ok ((), s.begin.inV86.after x) := by
    unfold iretProt
    rw [get_bind_apply, show s.begin.flags.nt = false from hnt, if_neg Bool.false_ne_true]
    rw [show s.begin.opWidth = 32 from w32]
    refine (address _).trans ((bind_ok flags _).trans ?_)
    rw [if_pos]
    · exact back
    · show (s.op32 && ((s.iretItem 2).setWidth 32).getLsbD 17 && decide (s.cpl = 0)) = true
      rw [BitVec.setWidth_eq, ho, hv, hc]
      rfl
  have body : iretAny s.begin = .ok (.loadedRf, { s.begin.inV86.after x with nmiBlocked := false }) := by
    unfold iretAny
    rw [get_bind_apply, if_pos (show s.begin.prot = true from hp), bind_ok prot, show s.begin.op32 = true from ho]
    rfl
  exact ⟨{ x with trap := (finish s { s.begin.inV86.after x with nmiBlocked := false } .loadedRf).trap }, mem,
    runEnding_ok (body := iretAny) hl body⟩

end Sys2Proof.Machine
end

section
/-! PROOFS. Interrupts from an instruction, from outside and from an exception: they all come down to one delivery, and what
follows it. The image of the flags. -/
-- One declaration after the other: many proofs at once take more thread stacks than the memory limit allows.
set_option Elab.async false
namespace Sys2Proof.Machine

variable {s t u c : State} {w : Nat}

/-! ### The image of the flags -/

theorem bitAt_bit (b : Bool) {n k : Nat} (hk : k < 32) : (bitAt b n).getLsbD k = (b && decide (k = n)) := by
  unfold bitAt
  cases b
  · simp
  · simp only [if_true, Bool.true_and, BitVec.getLsbD_shiftLeft, hk, decide_true]
    rcases Nat.lt_trichotomy k n with h | rfl | h
    · simp [h, Nat.ne_of_lt h]
    · simp
    · simp [Nat.not_lt_of_lt h, Nat.ne_of_gt h]
      omega

/-- The image has the bits of the flags. -/
theorem image_bit (f : Flags) (level : Nat) {k : Nat} (hk : k < 32) : (f.image level).getLsbD k = f.bit level k := by
  unfold Flags.image
  simp only [BitVec.getLsbD_or, bitAt_bit _ hk, apply_ite (fun v : Dword => v.getLsbD k), BitVec.getLsbD_shiftLeft,
    BitVec.getLsbD_setWidth, hk, decide_true]
  interval_cases k <;> simp [Flags.bit]

/-- The image, in a slot, shows the flags. -/
theorem image_seenIn (f : Flags) (level : Nat) (hw : w = 16 ∨ w = 32) : f.seenIn level ((f.image level).setWidth w) := by
  intro k hk
  have hk' : k < 32 := by omega
  rw [BitVec.getLsbD_setWidth, image_bit f level hk']
  simp [hk]

/-! ### One delivery -/

/-- The state a delivery begins in. -/
def State.delivering (c : State) (ip : Dword) (sh : Shadow) (st : List StaleByte) (o : Nat) : State :=
  { c with eip := ip, shadow := sh, stale := st, oracle := o }

/-- The state it ends in. -/
def State.delivered (t : State) (tr : TrapRecord) : State :=
  { t with cur := .start, run := .running, shadow := .none, repeating := none, trap := tr }

/-- An interrupt taken in protected or V86 mode. -/
theorem interrupt_delivered {n : Byte} {err : Option Word} {src : IntSource} {ret start : Dword} {rf : Bool}
    (hr : s.real = false)
    (h : interruptProt n err src ret (({ s.flags with rf := rf } : Flags).image s.level) s = .ok ((), t)) :
    interrupt n err src ret start rf s =
      .ok ((), t.delivered { s.trap with taskSwitch := t.trap.taskSwitch }) := by
  unfold interrupt withEx untracked
  simp only [get_bind_apply, hr, Bool.false_eq_true, if_false, bind_ok h, bind_assoc_apply, modify_bind_apply]
  rfl

theorem settleTrap_taskSwitch (before after : TrapRecord) (rf step : Bool) :
    (settleTrap before after rf step).taskSwitch = after.taskSwitch := by
  have kept : ∀ t : TrapRecord, (if t.singleStep || t.taskSwitch || decide (t.enabled ≠ 0) then t else .clear).taskSwitch =
      t.taskSwitch := by
    intro t
    split
    · rfl
    · simp_all [TrapRecord.clear]
  unfold settleTrap
  cases rf <;> exact kept _

/-- A software interrupt that is taken in protected or V86 mode. -/
theorem softInterrupt_delivered {n : Byte} {body : M Ending} (hl : s.lockOk false = true) (hr : s.real = false)
    (hb : body s.begin = softInterrupt n s.begin)
    (h : interruptProt n none .soft s.nextIp (({ s.flags with rf := s.flags.rf } : Flags).image s.level) s.begin =
      .ok ((), t)) :
    ∃ tr, runEnding false body s = .next (t.delivered tr) ∧ tr.taskSwitch = t.trap.taskSwitch := by
  have taken : softInterrupt n s.begin =
      .ok (.interrupted, t.delivered { s.trap with taskSwitch := t.trap.taskSwitch }) := by
    unfold softInterrupt
    rw [get_bind_apply]
    exact bind_ok (interrupt_delivered (s := s.begin) hr h) _
  rw [runEnding_ok hl (hb.trans taken)]
  exact ⟨_, rfl, settleTrap_taskSwitch _ _ _ _⟩

theorem enterExn_delivered {e : Exn} {ret start : Dword} {again : Exn → Host.Outcome State Fault Refusal}
    (hr : c.real = false) (h : interruptProt e.vec e.err .proc ret
      (({ c.flags with rf := decide (e.cls = .fault) || c.flags.rf } : Flags).image c.level) c = .ok ((), t)) :
    ∃ tr, c.enterExn e ret start again = .next (t.delivered tr) ∧ tr.taskSwitch = t.trap.taskSwitch := by
  unfold State.enterExn
  rw [interrupt_delivered hr h]
  exact ⟨_, rfl, rfl⟩

theorem noteExn_delivering (s : State) (e : Exn) :
    s.noteExn e = (s.noted e).delivering s.eip s.shadow s.stale (max s.oracle e.oracle) := by
  unfold State.noteExn State.noted State.delivering
  cases e.cr2 <;> rfl

/-- Whatever raises an interrupt in protected or V86 mode, one delivery answers it. -/
theorem raises_delivers {out : Host.Outcome State Fault Refusal} {soft : Bool} {n : Byte} {err : Option Word}
    {ret : Dword} {rf : Bool} (h : s.raises out soft n err ret rf c) (hr : s.real = false) (hl : s.level ≠ 0) :
    (∃ cr2 dr6 dr7, c = { s with cr2 := cr2, dr6 := dr6, dr7 := dr7 }) ∧ ∃ src ip sh st o, (src = .soft → soft = true) ∧
      ∀ t, interruptProt n err src ret (({ s.flags with rf := rf } : Flags).image s.level) (c.delivering ip sh st o) =
          .ok ((), t) →
        ∃ tr, out = .next (t.delivered tr) ∧ tr.taskSwitch = t.trap.taskSwitch := by
  obtain ⟨rfl, lock, rfl, rfl, rfl, rfl, form⟩ | ⟨rfl, rfl, rfl, rfl, rfl, rfl⟩ |
    ⟨e, next, rfl, task, rfl, rfl, rfl, rfl, rfl, rfl⟩ := h
  · refine ⟨⟨c.cr2, c.dr6, c.dr7, rfl⟩, .soft, c.nextIp, .none, c.begin.stale, c.oracle, fun _ => rfl, fun t run => ?_⟩
    obtain ⟨rfl, rfl⟩ | ⟨rfl, iopl⟩ | ⟨rfl, overflow, rfl⟩ := form
    · exact softInterrupt_delivered (body := softInterrupt 3) lock hr rfl run
    · refine softInterrupt_delivered (body := v86Sensitive >>= fun _ => softInterrupt n) lock hr ?_ run
      unfold v86Sensitive
      rw [bind_assoc_apply, get_bind_apply, check_bind_ok]
      exact (Bool.eq_false_or_eq_true c.v86).elim (fun v86 => by simp [v86, iopl v86]) fun v86 => by simp [v86]
    · refine softInterrupt_delivered (body := overflowInterrupt) lock hr ?_ run
      unfold overflowInterrupt
      rw [get_bind_apply, if_pos (show c.begin.flags.ovf = true from overflow)]
  · refine ⟨⟨c.cr2, c.dr6, c.dr7, rfl⟩, .ext, c.eip, c.shadow, c.stale, c.oracle, (fun e => nomatch e), fun t run => ?_⟩
    unfold State.takeExternal
    rw [interrupt_delivered hr run]
    exact ⟨_, rfl, rfl⟩
  · refine ⟨⟨_, _, _, rfl⟩, .proc, s.eip, s.shadow, s.stale, max s.oracle e.oracle, (fun e => nomatch e), fun t run => ?_⟩
    have context : s.exnContext e = (s.noted e).delivering s.eip s.shadow s.stale (max s.oracle e.oracle) := by
      rw [← noteExn_delivering]
      unfold State.exnContext
      rw [task]
      rfl
    have address : exnReturn s (s.exnContext e) e next = if e.cls = .trap ∨ s.level = 0 then next else s.eip := by
      unfold exnReturn
      rw [task]
    unfold State.deliverExn
    dsimp only
    rw [address, context]
    exact enterExn_delivered hr run

end Sys2Proof.Machine
end

section
/-! PROOFS. Interrupts through a gate to an inner level: the stack the TSS gives, what is pushed on it, from V86 mode too. -/
-- One declaration after the other: many proofs at once take more thread stacks than the memory limit allows.
set_option Elab.async false
namespace Sys2Proof.Machine

variable {s t u c : State} {w : Nat} {gate d ds : Descriptor} {a as : Nat} {ss : Word} {sp : Dword} {n : Byte}
  {err : Option Word} {ret img : Dword}

/-! ### The entry of the IDT -/

theorem interruptProt_entry {src : IntSource} {soft : Bool} (hi : s.idtGives n gate) (hs : src = .soft → soft = true)
    (hsys : dIsSystem gate = true) (htype : dType gate ∈ [5, 6, 7] ∨ 3 ≤ s.level ∧ dType gate ∈ [14, 15])
    (hpr : dPresent gate = true) (hpl : soft = true → s.cpl ≤ dDpl gate) :
    interruptProt n err src ret img s =
      (if dType gate = 5 then modify (fun s : State => { s with eip := ret }) >>= fun _ =>
        taskSwitch .nest (gateSel gate) err else enterGate n gate err ret img) s := by
  obtain ⟨inside, readable, rfl⟩ := hi
  have allowed : (!decide (src = .soft) || decide (s.cpl ≤ dDpl (s.tableVal 64 (s.idtr.base.toNat + n.toNat * 8)))) =
      true := by
    by_cases h : src = .soft
    · simp [h, hpl (hs h)]
    · simp [h]
  unfold interruptProt
  rw [get_bind_apply, check_bind_ok (decide_eq_true inside), bind_ok (sysRead_flat readable)]
  exact (check_bind_ok (dHasType_iff.2 ⟨hsys, htype⟩) _ _ _).trans ((check_bind_ok hpr _ _ _).trans
    (check_bind_ok allowed _ _ _))

/-- An interrupt or trap gate in the entry. -/
theorem interruptProt_gate {src : IntSource} {soft : Bool} (hi : s.idtGives n gate) (hs : src = .soft → soft = true)
    (hg : s.entryGate soft gate) : interruptProt n err src ret img s = enterGate n gate err ret img s := by
  obtain ⟨sys, type, present, priv⟩ := hg
  simp only [List.mem_cons, List.not_mem_nil, or_false] at type
  rw [interruptProt_entry hi hs sys (by simp; omega) present priv, if_neg (by omega)]

/-- A task gate in the entry. -/
theorem interruptProt_taskGate {src : IntSource} {soft : Bool} (hi : s.idtGives n gate) (hs : src = .soft → soft = true)
    (hsys : dIsSystem gate = true) (ht : dType gate = 5) (hpr : dPresent gate = true)
    (hpl : soft = true → s.cpl ≤ dDpl gate) :
    interruptProt n err src ret img s = taskSwitch .nest (gateSel gate) err { s with eip := ret } := by
  rw [interruptProt_entry hi hs hsys (by simp [ht]) hpr hpl, if_pos ht]
  rfl

/-! ### The inner stack -/

theorem innerStack_flat {level : Nat} (h : s.innerStackIs level ss sp) : innerStack level s = .ok ((ss, sp), s) := by
  unfold State.innerStackIs at h
  unfold innerStack
  rw [get_bind_apply]
  split
  · rename_i is386
    rw [if_pos is386] at h
    obtain ⟨okSp, rfl, okSs, rfl⟩ := h
    rw [bind_ok (sysRead32_flat okSp), bind_ok (sysRead16_flat okSs)]
    rfl
  · rename_i is286
    rw [if_neg is286] at h
    obtain ⟨okSp, rfl, okSs, rfl⟩ := h
    rw [bind_ok (sysRead16_flat okSp), bind_ok (sysRead16_flat okSs)]
    rfl

/-- The state at an inner level, before its stack is loaded. -/
def State.towardInner (s : State) (level : Nat) : State :=
  { s with flags := { s.flags with vm := false }, cs := { s.cs with sel := selWithRpl s.cs.sel level } }

/-- SWITCHING to the stack of an inner level. -/
theorem switchToInner_after {level : Nat} (h : s.innerStackIs level ss sp) (hf : s.findsStack level ss ds as) :
    ∃ x, switchToInner level (s.towardInner level) = .ok (ss, (s.atInner level ss sp ds).after x) ∧
      Memory.wf x.mem = true ∧ MarkedAt s.mem x.mem (s.tablePlace (as + 5) 0) := by
  obtain ⟨x, load, -, wf, marked⟩ := loadStackSeg_after (s := s.towardInner level) (vec := 10) hf
  refine ⟨x, ?_, wf, marked⟩
  unfold switchToInner
  rw [bind_ok (innerStack_flat (s := s.towardInner level) h)]
  refine (get_bind_apply _ _).trans ?_
  rw [bind_ok load]
  unfold State.atInner
  by_cases is386 : s.tr.is386 = true
  · rw [if_pos is386]
    exact (congrFun (if_pos is386) _).trans rfl
  · rw [if_neg is386]
    exact (congrFun (if_neg is386) _).trans rfl

/-! ### The items of a handler at an inner level -/

/-- What is pushed for the interrupted program, and what follows. -/
def innerFrame (old : State) (w : Nat) (img ret : Dword) (err : Option Word) (rest : M Unit) : M Unit := do
  pushSelector w old.ss.sel
  push (old.regs.esp.setWidth w)
  push (img.setWidth w)
  pushSelector w old.cs.sel
  push (ret.setWidth w)
  match err with
  | some e =>
    push (e.setWidth w)
    rest
  | none => rest

/-- The error word as an item. -/
def errItems (w : Nat) (err : Option Word) : List (BitVec w) :=
  match err with
  | some e => [e.setWidth w]
  | none => []

theorem errItems_length (w : Nat) (err : Option Word) : (errItems w err).length = if err.isSome then 1 else 0 := by
  cases err <;> rfl

/-- PUSHING the items of the interrupted program, after others. -/
theorem innerFrame_stacked {old : State} {vs : List (BitVec w)} {m : Memory} {x : Trace} {k : Nat}
    (hs : u.Stacked w vs m x.mem) (hr : u.roomFor w k) (hl : u.level ≠ 0) (hw : w = 16 ∨ w = 32)
    (hk : vs.length + 5 + (errItems w err).length ≤ k) (hk' : k ≤ 64) :
    ∃ (i1 i4 : BitVec w) (y : Trace), i1.setWidth 16 = old.ss.sel ∧ i4.setWidth 16 = old.cs.sel ∧
      u.Stacked w (vs ++ ([i1, old.regs.esp.setWidth w, img.setWidth w, i4, ret.setWidth w] ++ errItems w err)) m y.mem ∧
      ∀ rest, innerFrame old w img ret err rest ((u.withSp (u.down w vs.length)).after x) =
        rest ((u.withSp (u.down w (vs.length + (5 + (errItems w err).length)))).after y) := by
  obtain ⟨i1, x1, low1, run1, st1⟩ := pushSelector_stacked old.ss.sel hs hr hl hw (by omega) hk'
  obtain ⟨x2, run2, st2⟩ := push_stacked (old.regs.esp.setWidth w) st1 hr hl hw (by simp; omega) hk'
  obtain ⟨x3, run3, st3⟩ := push_stacked (img.setWidth w) st2 hr hl hw (by simp; omega) hk'
  obtain ⟨i4, x4, low4, run4, st4⟩ := pushSelector_stacked old.cs.sel st3 hr hl hw (by simp; omega) hk'
  obtain ⟨x5, run5, st5⟩ := push_stacked (ret.setWidth w) st4 hr hl hw (by simp; omega) hk'
  refine ⟨i1, i4, ?_⟩
  cases err with
  | none =>
    refine ⟨x5, low1, low4, by simpa [errItems] using st5, fun rest => ?_⟩
    unfold innerFrame
    rw [bind_ok run1, bind_ok run2, bind_ok run3, bind_ok run4, bind_ok run5]
    simp [errItems]
  | some e =>
    obtain ⟨x6, run6, st6⟩ := push_stacked (e.setWidth w) st5 hr hl hw
      (by simp [errItems] at hk ⊢; omega) hk'
    refine ⟨x6, low1, low4, by simpa [errItems] using st6, fun rest => ?_⟩
    unfold innerFrame
    rw [bind_ok run1, bind_ok run2, bind_ok run3, bind_ok run4, bind_ok run5]
    refine (bind_ok run6 _).trans ?_
    simp [errItems]

/-- The data segment registers closed, as on leaving V86 mode. -/
def State.closedData (s : State) : State :=
  { s with gs := s.gs.loadNull 0, fs := s.fs.loadNull 0, ds := s.ds.loadNull 0, es := s.es.loadNull 0 }

/-- What is pushed for a V86 program first, and what follows. -/
def dataFrame (old : State) (w : Nat) (rest : M Unit) : M Unit := do
  pushSelector w old.gs.sel
  pushSelector w old.fs.sel
  pushSelector w old.ds.sel
  pushSelector w old.es.sel
  modify State.closedData
  rest

/-- PUSHING the data segment registers of a V86 program. -/
theorem dataFrame_stacked {old : State} {x : Trace} {k : Nat} (hm : Memory.wf x.mem = true) (hr : u.roomFor w k)
    (hl : u.level ≠ 0) (hw : w = 16 ∨ w = 32) (hk : 4 ≤ k) (hk' : k ≤ 64) :
    ∃ (i1 i2 i3 i4 : BitVec w) (y : Trace), i1.setWidth 16 = old.gs.sel ∧ i2.setWidth 16 = old.fs.sel ∧
      i3.setWidth 16 = old.ds.sel ∧ i4.setWidth 16 = old.es.sel ∧ u.Stacked w [i1, i2, i3, i4] x.mem y.mem ∧
      ∀ rest, dataFrame old w rest (u.after x) = rest ((u.closedData.withSp (u.down w 4)).after y) := by
  have start : u.after x = (u.withSp (u.down w ([] : List (BitVec w)).length)).after x := by
    rw [List.length_nil, withSp_down_zero]
  obtain ⟨i1, x1, low1, run1, st1⟩ := pushSelector_stacked (vs := []) old.gs.sel (.nil hm) hr hl hw (by simp; omega) hk'
  obtain ⟨i2, x2, low2, run2, st2⟩ := pushSelector_stacked old.fs.sel st1 hr hl hw (by simp; omega) hk'
  obtain ⟨i3, x3, low3, run3, st3⟩ := pushSelector_stacked old.ds.sel st2 hr hl hw (by simp; omega) hk'
  obtain ⟨i4, x4, low4, run4, st4⟩ := pushSelector_stacked old.es.sel st3 hr hl hw (by simp; omega) hk'
  refine ⟨i1, i2, i3, i4, x4, low1, low2, low3, low4, st4, fun rest => ?_⟩
  unfold dataFrame
  rw [start, bind_ok run1, bind_ok run2, bind_ok run3, bind_ok run4]
  rfl

/-! ### The gate -/

/-- The code segment and the flags of a handler. -/
def enterHandler (gate : Descriptor) (cpl : Nat) (d : Descriptor) (a : Nat) : M Unit := do
  loadCs (gateSel gate) cpl d a
  modify fun s : State =>
    { s with flags := { s.flags with
        vm := false, tf := false, nt := false, rf := false
        intf := if dType gate % 2 = 0 then false else s.flags.intf } }
  jumpTo true (gateOffset gate)

/-- The number of items for a handler at an inner level. -/
def innerItems (s : State) (err : Option Word) : Nat :=
  3 + (if err.isSome then 1 else 0) + 2 + (if s.v86 then 4 else 0)

/-- The width of the items a gate pushes. -/
def gateWidth (gate : Descriptor) : Nat := if gateIs386 gate then 32 else 16

/-- A GATE TO AN INNER LEVEL. -/
theorem enterGate_inner (hn : selNull (gateSel gate) = false) (hf : s.finds (gateSel gate) d a) (hc : dIsCode d = true)
    (hcon : dConforming d = false) (hd : dDpl d < s.cpl) (hpr : dPresent d = true)
    (hv : s.v86 = true → dDpl d = 0 ∧ 8 ≤ dType gate ∧ s.tr.is386 = true) :
    enterGate n gate err ret img s = (switchToInner (dDpl d) >>= fun ss =>
      checkRoom (gateWidth gate) (innerItems s err) (ss &&& 0xFFFC) >>= fun _ =>
        if s.v86 then dataFrame s (gateWidth gate) (innerFrame s (gateWidth gate) img ret err (enterHandler gate (dDpl d) d a))
        else innerFrame s (gateWidth gate) img ret err (enterHandler gate (dDpl d) d a)) (s.towardInner (dDpl d)) := by
  have level : (if s.v86 then !dConforming d else decide (dDpl d ≤ s.cpl)) = true := by
    split
    · simp [hcon]
    · simp [Nat.le_of_lt hd]
  have level0 : (!s.v86 || decide (dDpl d = 0)) = true := by
    by_cases h : s.v86 = true
    · simp [hv h]
    · simp [h]
  have formats : (!s.v86 || (gateIs386 gate && s.tr.is386)) = true := by
    by_cases h : s.v86 = true
    · simp [hv h, gateIs386]
    · simp [h]
  have inner : (!dConforming d && decide (dDpl d < s.cpl)) = true := by simp [hcon, hd]
  unfold enterGate
  rw [get_bind_apply, check_bind_ok (by simp [hn]), bind_ok (readDescriptor_finds hf _)]
  refine (check_bind_ok hc _ _ _).trans ((check_bind_ok level _ _ _).trans ((check_bind_ok level0 _ _ _).trans
    ((check_bind_ok hpr _ _ _).trans ((check_bind_ok formats _ _ _).trans ?_))))
  simp only [inner, if_true]
  cases err <;> rfl

theorem innerItems_eq (s : State) (w : Nat) (err : Option Word) :
    innerItems s err = (if s.v86 then 4 else 0) + (5 + (errItems w err).length) := by
  rw [errItems_length]
  unfold innerItems
  omega

theorem innerItems_le (s : State) (err : Option Word) : innerItems s err ≤ 64 := by
  unfold innerItems
  split <;> split <;> decide

theorem gateWidth_cases (gate : Descriptor) : gateWidth gate = 16 ∨ gateWidth gate = 32 := by
  unfold gateWidth
  split
  · exact .inr rfl
  · exact .inl rfl

/-- The state on the inner stack, the data segment registers closed if V86 mode was left. -/
def State.cleared (u : State) (v86 : Bool) : State :=
  { u with
    gs := if v86 then u.gs.loadNull 0 else u.gs, fs := if v86 then u.fs.loadNull 0 else u.fs
    ds := if v86 then u.ds.loadNull 0 else u.ds, es := if v86 then u.es.loadNull 0 else u.es }

/-- PUSHING all the items for a handler at an inner level. -/
theorem innerGate_stacked {rest : M Unit} {level : Nat} (hl : s.level ≠ 0) (hi : s.innerStackIs level ss sp)
    (hf : s.findsStack level ss ds as)
    (hr : (s.atInner level ss sp ds).roomFor (gateWidth gate) (innerItems s err)) :
    ∃ (vs : List (BitVec (gateWidth gate))) (i1 i4 : BitVec (gateWidth gate)) (x y : Trace),
      vs.length = (if s.v86 then 4 else 0) ∧
      (s.v86 = true → vs.map (·.setWidth 16) = [s.gs.sel, s.fs.sel, s.ds.sel, s.es.sel]) ∧
      i1.setWidth 16 = s.ss.sel ∧ i4.setWidth 16 = s.cs.sel ∧ MarkedAt s.mem x.mem (s.tablePlace (as + 5) 0) ∧
      (s.atInner level ss sp ds).Stacked (gateWidth gate) (vs ++ ([i1, s.regs.esp.setWidth (gateWidth gate),
        img.setWidth (gateWidth gate), i4, ret.setWidth (gateWidth gate)] ++ errItems (gateWidth gate) err)) x.mem y.mem ∧
      (switchToInner level >>= fun ss => checkRoom (gateWidth gate) (innerItems s err) (ss &&& 0xFFFC) >>= fun _ =>
        if s.v86 then dataFrame s (gateWidth gate) (innerFrame s (gateWidth gate) img ret err rest)
        else innerFrame s (gateWidth gate) img ret err rest) (s.towardInner level) =
      rest ((((s.atInner level ss sp ds).cleared s.v86).withSp
        ((s.atInner level ss sp ds).down (gateWidth gate) (innerItems s err))).after y) := by
  obtain ⟨x, toInner, wf, marked⟩ := switchToInner_after hi hf
  have hw := gateWidth_cases gate
  have hl' : (s.atInner level ss sp ds).level ≠ 0 := hl
  have count := innerItems_eq s (gateWidth gate) err
  have few := innerItems_le s err
  generalize s.atInner level ss sp ds = u at *
  have room := checkRoom_room (err := ss &&& 0xFFFC) hr hl' x
  by_cases v86 : s.v86 = true
  · rw [if_pos v86] at count ⊢
    obtain ⟨g, f, d, e, y, lowG, lowF, lowD, lowE, st, data⟩ := dataFrame_stacked (old := s) wf hr hl' hw (by omega) few
    obtain ⟨i1, i4, z, low1, low4, st', frame⟩ := innerFrame_stacked (u := u.closedData) (old := s) (img := img)
      (ret := ret) (err := err) ⟨st.wf, st.items, st.others⟩ hr hl' hw (by simp; omega) few
    refine ⟨[g, f, d, e], i1, i4, x, z, rfl, fun _ => by simp [lowG, lowF, lowD, lowE], low1, low4, marked,
      ⟨st'.wf, st'.items, st'.others⟩, ?_⟩
    rw [bind_ok toInner, bind_ok room, if_pos v86]
    refine (data _).trans ((frame rest).trans ?_)
    rw [v86, count]
    rfl
  · rw [if_neg v86] at count ⊢
    obtain ⟨i1, i4, z, low1, low4, st, frame⟩ := innerFrame_stacked (u := u) (vs := []) (old := s) (img := img)
      (ret := ret) (err := err) (x := x) (.nil wf) hr hl' hw (by simp; omega) few
    refine ⟨[], i1, i4, x, z, rfl, fun h => absurd h v86, low1, low4, marked, st, ?_⟩
    rw [bind_ok toInner, bind_ok room, if_neg v86]
    rw [List.length_nil, withSp_down_zero] at frame
    refine (frame rest).trans ?_
    rw [Bool.eq_false_iff.2 v86, count]
    rfl

end Sys2Proof.Machine
end

section
/-! PROOFS. Interrupts through a gate to an inner level: what they look like from outside. -/
-- One declaration after the other: many proofs at once take more thread stacks than the memory limit allows.
set_option Elab.async false
namespace Sys2Proof.Machine

variable {s t u c : State} {w : Nat} {gate d ds : Descriptor} {a as : Nat} {ss : Word} {sp : Dword} {n : Byte}
  {err : Option Word} {ret img : Dword}

/-! ### The handler -/

theorem gated_eq (f : Flags) {soft : Bool} (h : s.entryGate soft gate) :
    ({ f with vm := false, tf := false, nt := false, rf := false
              intf := if dType gate % 2 = 0 then false else f.intf } : Flags) = f.gated gate := by
  obtain ⟨-, type, -⟩ := h
  have even : dType gate % 2 = 0 ↔ dType gate = 6 ∨ dType gate = 14 := by
    simp only [List.mem_cons, List.not_mem_nil, or_false] at type
    omega
  unfold Flags.gated
  simp only [even]

theorem enterHandler_after {level : Nat} (hp : s.prot = true) (h : s.tableOk .write (a + 5) 1 = true)
    (hd : Memory.read s.mem (s.tablePlace (a + 5) 0) = dAccess d)
    (hv : (gateOffset gate).toNat ≤ (dLimit s.level d).toNat) :
    ∃ x, MarkedAt s.mem x.mem (s.tablePlace (a + 5) 0) ∧ enterHandler gate level d a s =
      .ok ((), ({ s.inCode (gateSel gate) level d (gateOffset gate) with flags := { s.flags with
        vm := false, tf := false, nt := false, rf := false
        intf := if dType gate % 2 = 0 then false else s.flags.intf } } : State).after x) := by
  obtain ⟨x, load, -, -, marked⟩ := loadCs_after (sel := gateSel gate) (cpl := level) h hd
  refine ⟨{ x with stale := [] }, marked, ?_⟩
  have modes : s.cr0.pe = true ∧ s.flags.vm = false := by simpa [State.prot] using hp
  unfold enterHandler
  rw [bind_ok load, modify_bind_apply, jumpTo_ok]
  · rfl
  · unfold State.targetOk
    rw [if_pos]
    · exact decide_eq_true hv
    · show (s.cr0.pe && !false) = true
      rw [modes.1]
      rfl

/-- A descriptor marked before the pushes, and one after them. -/
theorem marked_around {k : Nat} {m m' m'' : Memory}
    (others : ∀ p, u.offStack w k p → Memory.read m' p = Memory.read m p)
    (first : MarkedAt s.mem m (s.tablePlace (as + 5) 0)) (second : MarkedAt m' m'' (s.tablePlace (a + 5) 0))
    (outA : u.offStack w k (s.tablePlace (a + 5) 0)) (outAs : u.offStack w k (s.tablePlace (as + 5) 0))
    (ne : s.tablePlace (a + 5) 0 ≠ s.tablePlace (as + 5) 0) :
    s.pushedAndMarked u { s with mem := m'' } w k [a, as] := by
  refine ⟨fun y off apart => ?_, fun b hb => ?_⟩
  · show Memory.read m'' y = _
    rw [second.1 y (apart a (by simp)), others y off, first.1 y (apart as (by simp))]
  · show Memory.read m'' _ = _
    simp only [List.mem_cons, List.not_mem_nil, or_false] at hb
    rcases hb with rfl | rfl
    · rw [second.2, others _ outA, first.1 _ ne]
    · rw [second.1 _ ne.symm, others _ outAs, first.2]

/-- AN INTERRUPT THROUGH A GATE TO AN INNER LEVEL: the stack of that level, and the handler. -/
theorem enterGate_inner_after {soft : Bool} (hpe : s.cr0.pe = true) (hl : s.level ≠ 0) (hg : s.entryGate soft gate)
    (hn : selNull (gateSel gate) = false) (hf : s.names (gateSel gate) d a) (hc : dIsCode d = true)
    (hcon : dConforming d = false) (hd : dDpl d < s.cpl) (hpr : dPresent d = true)
    (hv : s.v86 = true → dDpl d = 0 ∧ 8 ≤ dType gate ∧ s.tr.is386 = true) (hi : s.innerStackIs (dDpl d) ss sp)
    (hs : s.findsStack (dDpl d) ss ds as) (ho : (gateOffset gate).toNat ≤ (dLimit s.level d).toNat)
    (hr : (s.atInner (dDpl d) ss sp ds).roomApart (gateWidth gate) (innerItems s err) [a, as]) :
    ∃ (vs : List (BitVec (gateWidth gate))) (i1 i4 : BitVec (gateWidth gate)) (y : Trace),
      vs.length = (if s.v86 then 4 else 0) ∧
      (s.v86 = true → vs.map (·.setWidth 16) = [s.gs.sel, s.fs.sel, s.ds.sel, s.es.sel]) ∧
      i1.setWidth 16 = s.ss.sel ∧ i4.setWidth 16 = s.cs.sel ∧
      (∀ j (hj : j < (vs ++ ([i1, s.regs.esp.setWidth (gateWidth gate), img.setWidth (gateWidth gate), i4,
          ret.setWidth (gateWidth gate)] ++ errItems (gateWidth gate) err)).length),
        (s.atInner (dDpl d) ss sp ds).pushedAt (s.after y) (gateWidth gate) (j + 1) =
          (vs ++ ([i1, s.regs.esp.setWidth (gateWidth gate), img.setWidth (gateWidth gate), i4,
            ret.setWidth (gateWidth gate)] ++ errItems (gateWidth gate) err))[j]) ∧
      s.pushedAndMarked (s.atInner (dDpl d) ss sp ds) (s.after y) (gateWidth gate) (innerItems s err) [a, as] ∧
      enterGate n gate err ret img s = .ok ((), ({
        (((s.atInner (dDpl d) ss sp ds).cleared s.v86).withSp ((s.atInner (dDpl d) ss sp ds).down (gateWidth gate)
          (innerItems s err))).inCode (gateSel gate) (dDpl d) d (gateOffset gate) with
        flags := s.flags.gated gate } : State).after y) := by
  obtain ⟨room, apart⟩ := hr
  obtain ⟨found, writable⟩ := hf
  have access := finds_access found
  have stackAccess := finds_access hs.2.1.1
  have ne := code_apart_stack access stackAccess hc hs.2.2.2.1
  obtain ⟨vs, i1, i4, x, y, first, data, low1, low4, marked, st, run⟩ := innerGate_stacked (gate := gate) (err := err)
    (img := img) (ret := ret) (rest := enterHandler gate (dDpl d) d a) hl hi hs room
  have hw := gateWidth_cases gate
  have few := innerItems_le s err
  have count : (vs ++ ([i1, s.regs.esp.setWidth (gateWidth gate), img.setWidth (gateWidth gate), i4,
      ret.setWidth (gateWidth gate)] ++ errItems (gateWidth gate) err)).length = innerItems s err := by
    rw [innerItems_eq s (gateWidth gate), ← first]
    simp
    omega
  have way : s.TableWay ((((s.atInner (dDpl d) ss sp ds).cleared s.v86).withSp ((s.atInner (dDpl d) ss sp ds).down
    (gateWidth gate) (innerItems s err))).after y) := ⟨rfl, hpe, hpe, rfl⟩
  have outA : (s.atInner (dDpl d) ss sp ds).offStack (gateWidth gate) (innerItems s err) (s.tablePlace (a + 5) 0) :=
    apart a (by simp)
  have outAs : (s.atInner (dDpl d) ss sp ds).offStack (gateWidth gate) (innerItems s err) (s.tablePlace (as + 5) 0) :=
    apart as (by simp)
  have others : ∀ p, (s.atInner (dDpl d) ss sp ds).offStack (gateWidth gate) (innerItems s err) p →
      Memory.read y.mem p = Memory.read x.mem p := fun p off => st.others p (by rwa [count])
  have same : Memory.read y.mem (s.tablePlace (a + 5) 0) = dAccess d := by
    rw [others _ outA, marked.1 _ ne, access]
  obtain ⟨z, second, handler⟩ := enterHandler_after (s := (((s.atInner (dDpl d) ss sp ds).cleared s.v86).withSp
    ((s.atInner (dDpl d) ss sp ds).down (gateWidth gate) (innerItems s err))).after y) (gate := gate) (level := dDpl d)
    (by simp [State.prot]; exact ⟨hpe, rfl⟩) (way.tableOk st.wf writable) same ho
  refine ⟨vs, i1, i4, z, first, data, low1, low4, fun j hj => ?_, marked_around others marked second outA outAs ne, ?_⟩
  · exact st.items_of (fun i p one le hp => second.1 _ (outA i p one (count ▸ le) hp)) j hj
  · rw [enterGate_inner hn found hc hcon hd hpr hv, run, handler, ← gated_eq s.flags hg]
    rfl

/-! ### What it looks like from outside -/

/-- A data segment register after an interrupt to an inner level. -/
def State.closes (s : State) (g h : SegReg) : Prop := if s.v86 then h.sel = 0 ∧ h.valid = false else h = g

theorem closes_cleared (s : State) (g : SegReg) : s.closes g (if s.v86 then g.loadNull 0 else g) := by
  unfold State.closes
  split
  · exact ⟨rfl, rfl⟩
  · rfl

/-- AN INTERRUPT TO AN INNER LEVEL, seen from outside: the third part of O39. -/
theorem interrupt_inner {out : Host.Outcome State Fault Refusal} {soft rf : Bool} {o k : Nat}
    (h : s.raises out soft n err ret rf c) (hreal : s.real = false) (hlevel : 2 ≤ s.level) (hi : s.idtGives n gate)
    (hg : s.entryGate soft gate) (hn : selNull (gateSel gate) = false) (hf : s.names (gateSel gate) d a)
    (hc : dIsCode d = true) (hcon : dConforming d = false) (hd : dDpl d < s.cpl) (hpr : dPresent d = true)
    (hv : s.v86 = true → dDpl d = 0 ∧ 8 ≤ dType gate ∧ s.tr.is386 = true) (hstack : s.innerStackIs (dDpl d) ss sp)
    (hs : s.findsStack (dDpl d) ss ds as) (hoff : (gateOffset gate).toNat ≤ (dLimit s.level d).toNat)
    (hw : w = gateWidth gate) (ho : o = if s.v86 then 4 else 0) (hk : k = innerItems s err)
    (hr : (s.atInner (dDpl d) ss sp ds).roomApart w k [a, as]) :
    let u := s.atInner (dDpl d) ss sp ds
    ∃ t, out = .next t ∧ ({ c.withSegsOf t with run := .running } : State).agrees t ∧ t.run = .running ∧
      s.arrivedAt t (selWithRpl (gateSel gate) (dDpl d)) d (gateOffset gate) ∧ t.ss.shows s.level ss ds ∧
      s.closes s.ds t.ds ∧ s.closes s.es t.es ∧ s.closes s.fs t.fs ∧ s.closes s.gs t.gs ∧ t.flags = s.flags.gated gate ∧
      t.regs = (u.setSp (u.down w k)).regs ∧ s.pushedAndMarked u t w k [a, as] ∧
      (s.v86 = true → (u.pushedAt t w 1).setWidth 16 = s.gs.sel ∧ (u.pushedAt t w 2).setWidth 16 = s.fs.sel ∧
        (u.pushedAt t w 3).setWidth 16 = s.ds.sel ∧ (u.pushedAt t w 4).setWidth 16 = s.es.sel) ∧
      (u.pushedAt t w (o + 1)).setWidth 16 = s.ss.sel ∧ u.pushedAt t w (o + 2) = s.regs.esp.setWidth w ∧
      ({ s.flags with rf := rf } : Flags).seenIn s.level (u.pushedAt t w (o + 3)) ∧
      (u.pushedAt t w (o + 4)).setWidth 16 = s.cs.sel ∧ u.pushedAt t w (o + 5) = ret.setWidth w ∧
      ∀ e, err = some e → u.pushedAt t w (o + 6) = e.setWidth w := by
  subst hw ho hk
  have hl : s.level ≠ 0 := by omega
  obtain ⟨⟨cr2, dr6, dr7, rfl⟩, src, ip, sh, stl, orc, hsrc, delivers⟩ := raises_delivers h hreal hl
  have pe : s.cr0.pe = true := pe_of_not_real (by simp [hreal])
  obtain ⟨vs, i1, i4, y, count, data, low1, low4, items, marked, run⟩ := enterGate_inner_after
    (s := ({ s with cr2 := cr2, dr6 := dr6, dr7 := dr7 } : State).delivering ip sh stl orc) (n := n) (err := err) (ret := ret)
    (img := ({ s.flags with rf := rf } : Flags).image s.level) pe hl hg hn hf hc hcon hd hpr hv hstack hs hoff hr
  obtain ⟨tr, answer, -⟩ := delivers _ ((interruptProt_gate
    (s := ({ s with cr2 := cr2, dr6 := dr6, dr7 := dr7 } : State).delivering ip sh stl orc) hi hsrc hg).trans run)
  have slot := fun j hj => items (vs.length + j) (by rw [List.length_append]; exact Nat.add_lt_add_left hj _)
  simp only [List.getElem_append_right (Nat.le_add_right _ _), Nat.add_sub_cancel_left, List.length_append,
    List.length_cons, List.length_nil, errItems_length, Nat.add_assoc] at slot
  rw [← show vs.length = (if s.v86 then 4 else 0) from count]
  refine ⟨_, answer, rfl, rfl, ⟨rfl, rfl, rfl, rfl, rfl, rfl, rfl, rfl, rfl, rfl, rfl⟩,
    ⟨rfl, rfl, rfl, rfl, rfl, rfl, rfl⟩,
    closes_cleared s s.ds, closes_cleared s s.es, closes_cleared s s.fs, closes_cleared s s.gs, rfl, ?_, marked, ?_, ?_,
    ?_, ?_, ?_, ?_, ?_⟩
  · rw [setSp_eq]
    rfl
  · intro v86
    have shown := fun j (hj : j < (vs.map (BitVec.setWidth 16)).length) => (congrArg (BitVec.setWidth 16) ((items j
      (by rw [List.length_append]; simp at hj; omega)).trans (List.getElem_append_left (by simpa using hj)))).trans
        (List.getElem_map (BitVec.setWidth 16) (h := hj)).symm
    simp only [data v86, List.length_cons, List.length_nil] at shown
    exact ⟨shown 0 (by decide), shown 1 (by decide), shown 2 (by decide), shown 3 (by decide)⟩
  · exact (congrArg (BitVec.setWidth 16) (slot 0 (by omega))).trans low1
  · exact slot 1 (by omega)
  · exact (slot 2 (by omega)).symm ▸ image_seenIn { s.flags with rf := rf } s.level (gateWidth_cases gate)
  · exact (congrArg (BitVec.setWidth 16) (slot 3 (by omega))).trans low4
  · exact slot 4 (by omega)
  · rintro e rfl
    exact slot 5 (by simp)

end Sys2Proof.Machine
end

section
/-! PROOFS. Calls through a gate to an inner level: the parameters, the frame on the inner stack, and what they look like
from outside. -/
-- One declaration after the other: many proofs at once take more thread stacks than the memory limit allows.
set_option Elab.async false
namespace Sys2Proof.Machine

variable {s t u v : State} {w : Nat} {gate d ds : Descriptor} {a as : Nat} {ss : Word} {sp : Dword}

/-! ### The parameters -/

/-- The parameters on a stack. -/
def State.params (s : State) (w n i : Nat) : List Dword :=
  (List.range n).map fun j => (s.memVal w .ss (s.up w (i + j))).setWidth 32

theorem params_length (s : State) (w n i : Nat) : (s.params w n i).length = n := by
  simp [State.params]

theorem params_succ (s : State) (w n i : Nat) :
    s.params w (n + 1) i = (s.memVal w .ss (s.up w i)).setWidth 32 :: s.params w n (i + 1) := by
  unfold State.params
  rw [List.range_succ_eq_map, List.map_cons, List.map_map, Nat.add_zero]
  congr 1
  exact List.map_congr_left fun j _ => by rw [Function.comp_apply, Nat.succ_eq_one_add, Nat.add_assoc]

/-- READING the parameters. -/
theorem readParams_traced {n i : Nat}
    (h : ∀ j, j < n → s.reaches .ss .read (s.up w (i + j)) (w / 8) (w / 8) = true) (r : TrapRecord) :
    ∃ r', callInner.readParams w n i (s.traced r) = .ok (s.params w n i, s.traced r') := by
  induction n generalizing i r with
  | zero => exact ⟨r, rfl⟩
  | succ n ih =>
    obtain ⟨r1, first⟩ := peekItem_traced (dist := w / 8 * i) (h 0 (by omega)) rfl r
    obtain ⟨r2, rest⟩ := ih (i := i + 1) (fun j hj => by rw [Nat.add_assoc, Nat.add_comm 1]; exact h (j + 1) (by omega)) r1
    refine ⟨r2, ?_⟩
    unfold callInner.readParams
    refine (bind_ok (m := peekStack w (w / 8 * i)) first _).trans ((bind_ok rest _).trans ?_)
    rw [params_succ]
    rfl

/-- READING the parameters on the stack of an earlier state. -/
theorem onStackOf_readParams {s0 : State} {n i : Nat}
    (h : ∀ j, j < n → ({ u with ss := s0.ss, regs := s0.regs, cs := s0.cs } : State).reaches .ss .read
      (({ u with ss := s0.ss, regs := s0.regs, cs := s0.cs } : State).up w (i + j)) (w / 8) (w / 8) = true) :
    ∃ r, onStackOf s0 (callInner.readParams w n i) u =
      .ok (({ u with ss := s0.ss, regs := s0.regs, cs := s0.cs } : State).params w n i, u.traced r) := by
  obtain ⟨r, read⟩ := readParams_traced h u.trap
  refine ⟨r, ?_⟩
  unfold onStackOf
  rw [get_bind_apply]
  exact bind_ok read fun ps => do
    modify fun t => { t with ss := u.ss, regs := u.regs, cs := u.cs }
    return ps

/-- PUSHING the parameters. -/
theorem pushAll_stacked {vs : List (BitVec w)} {n : Nat} {m : Memory} {x : Trace} (ps : List Dword)
    (hs : u.Stacked w vs m x.mem) (hr : u.roomFor w n) (hl : u.level ≠ 0) (hw : w = 16 ∨ w = 32)
    (hv : vs.length + ps.length ≤ n) (hn : n ≤ 64) :
    ∃ y, callInner.pushAll w ps ((u.withSp (u.down w vs.length)).after x) =
        .ok ((), (u.withSp (u.down w (vs ++ ps.map (·.setWidth w)).length)).after y) ∧
      u.Stacked w (vs ++ ps.map (·.setWidth w)) m y.mem := by
  induction ps generalizing vs x with
  | nil => exact ⟨x, by rw [List.map_nil, List.append_nil]; exact ⟨rfl, hs⟩⟩
  | cons p rest ih =>
    rw [List.length_cons] at hv
    obtain ⟨x1, first, st1⟩ := push_stacked (p.setWidth w) hs hr hl hw (by omega) hn
    obtain ⟨x2, others, st2⟩ := ih st1 (by rw [List.length_append, List.length_singleton]; omega)
    refine ⟨x2, ?_, by simpa using st2⟩
    unfold callInner.pushAll
    rw [bind_ok first, others]
    simp

/-! ### The frame on the inner stack -/

/-- What a call through a gate to an inner level does on the stack it found there. -/
def callFrame (old : State) (w n : Nat) (rest : M Unit) : M Unit := do
  pushSelector w old.ss.sel
  push (old.regs.esp.setWidth w)
  let params ← onStackOf old (callInner.readParams w n 0)
  callInner.pushAll w params.reverse
  pushSelector w old.cs.sel
  push (old.eip.setWidth w)
  rest

/-- The items of a call through a gate to an inner level. -/
def callItems (s : State) (w n : Nat) (i1 i4 : BitVec w) : List (BitVec w) :=
  [i1, s.regs.esp.setWidth w] ++ (s.params w n 0).reverse.map (·.setWidth w) ++ [i4] ++ [s.eip.setWidth w]

theorem callItems_length (s : State) (w n : Nat) (i1 i4 : BitVec w) : (callItems s w n i1 i4).length = 4 + n := by
  simp [callItems, params_length]
  omega

theorem up_of_sameWay (h : s.SameWay t) (hr : t.regs = s.regs) (w i : Nat) : t.up w i = s.up w i := by
  unfold State.up State.stackOff State.sp
  rw [h.stack32, hr]

/-- READING the parameters once the inner stack is loaded. -/
theorem callParams_read {n : Nat} {level : Nat} {off : Dword} {x : Trace} (hp : s.prot = true)
    (hm : Memory.wf x.mem = true)
    (hps : ∀ j, j < n → s.reaches .ss .read (s.up w j) (w / 8) (w / 8) = true ∧ ∀ k, k < w / 8 →
      Memory.read x.mem (s.placeAt .ss (s.up w j) k) = Memory.read s.mem (s.placeAt .ss (s.up w j) k)) :
    ∃ r, onStackOf s (callInner.readParams w n 0) (((s.atInner level ss sp ds).withSp off).after x) =
      .ok (s.params w n 0, ((s.atInner level ss sp ds).withSp off).after { x with trap := r }) := by
  have vm : s.flags.vm = false := by
    have modes : s.cr0.pe = true ∧ s.flags.vm = false := by simpa [State.prot] using hp
    exact modes.2
  generalize hv : ({ ((s.atInner level ss sp ds).withSp off).after x with ss := s.ss, regs := s.regs, cs := s.cs } : State) = v
  have way : s.SameWay v := by
    subst hv
    exact ⟨rfl, rfl, rfl, fun r => by cases r <;> rfl, rfl, vm.symm, rfl⟩
  have regs : v.regs = s.regs := by rw [← hv]
  have mem : v.mem = x.mem := by rw [← hv]; rfl
  obtain ⟨r, run⟩ := onStackOf_readParams (u := ((s.atInner level ss sp ds).withSp off).after x) (s0 := s) (w := w) (n := n)
    (i := 0) fun j hj => by
      rw [hv, up_of_sameWay way regs, Nat.zero_add]
      exact way.reaches_wf (mem ▸ hm) (hps j hj).1
  refine ⟨r, run.trans ?_⟩
  have same : v.params w n 0 = s.params w n 0 := by
    refine List.map_congr_left fun j hj => congrArg (BitVec.setWidth 32) (congrArg (leValue w) ?_)
    rw [up_of_sameWay way regs, Nat.zero_add]
    refine List.map_congr_left fun k hk => ?_
    rw [way.placeAt, mem]
    exact (hps j (List.mem_range.1 hj)).2 k (List.mem_range.1 hk)
  rw [hv, same]
  rfl

theorem callItems_param {n j : Nat} {i1 i4 : BitVec w} (hw : w = 16 ∨ w = 32) (hj : j < n) :
    (callItems s w n i1 i4)[1 + n - j]'(by rw [callItems_length]; omega) = s.memVal w .ss (s.up w j) := by
  have narrow : ∀ v : BitVec w, (v.setWidth 32 : Dword).setWidth w = v := fun v => by
    rw [BitVec.setWidth_setWidth_of_le _ (by omega), BitVec.setWidth_eq]
  have len := params_length s w n 0
  have at_ : 1 + n - j - 2 = n - 1 - j := by omega
  unfold callItems
  rw [List.getElem_append_left (by simp [len]; omega), List.getElem_append_left (by simp [len]; omega),
    List.getElem_append_right (by simp; omega)]
  simp [at_, State.params, narrow, show n - 1 - (n - 1 - j) = j by omega]

theorem callItems_cs {n : Nat} {i1 i4 : BitVec w} :
    (callItems s w n i1 i4)[2 + n]'(by rw [callItems_length]; omega) = i4 := by
  have len := params_length s w n 0
  unfold callItems
  rw [List.getElem_append_left (by simp [len]; omega), List.getElem_append_right (by simp [len]; omega)]
  simp [len]

theorem callItems_ip {n : Nat} {i1 i4 : BitVec w} :
    (callItems s w n i1 i4)[3 + n]'(by rw [callItems_length]; omega) = s.eip.setWidth w := by
  have len := params_length s w n 0
  unfold callItems
  rw [List.getElem_append_right (by simp [len]; omega)]
  simp [len]

/-- PUSHING the frame: `u` is on the inner stack, the parameters lie where neither its mark nor the first two items do. -/
theorem callFrame_stacked {n : Nat} {x : Trace} (hp : s.prot = true) (hl : s.level ≠ 0) (hw : w = 16 ∨ w = 32)
    (hm : Memory.wf x.mem = true) (marked : MarkedAt s.mem x.mem (s.tablePlace (as + 5) 0)) (hn : n < 32)
    (hr : (s.atInner (dDpl d) ss sp ds).roomFor w (4 + n))
    (hps : ∀ j, j < n → s.reaches .ss .read (s.up w j) (w / 8) (w / 8) = true ∧ ∀ k, k < w / 8 →
      (s.atInner (dDpl d) ss sp ds).offStack w 2 (s.placeAt .ss (s.up w j) k) ∧
        s.placeAt .ss (s.up w j) k ≠ s.tablePlace (as + 5) 0) :
    ∃ (i1 i4 : BitVec w) (y : Trace), i1.setWidth 16 = s.ss.sel ∧ i4.setWidth 16 = s.cs.sel ∧
      (s.atInner (dDpl d) ss sp ds).Stacked w (callItems s w n i1 i4) x.mem y.mem ∧
      ∀ rest, callFrame s w n rest ((s.atInner (dDpl d) ss sp ds).after x) =
        rest (((s.atInner (dDpl d) ss sp ds).withSp ((s.atInner (dDpl d) ss sp ds).down w (4 + n))).after y) := by
  have hl' : (s.atInner (dDpl d) ss sp ds).level ≠ 0 := hl
  have read := fun (x : Trace) => callParams_read (ss := ss) (sp := sp) (ds := ds) (n := n) (level := dDpl d) (x := x)
    (off := (s.atInner (dDpl d) ss sp ds).down w 2) (w := w) hp
  generalize s.atInner (dDpl d) ss sp ds = u at *
  have start : u.after x = (u.withSp (u.down w ([] : List (BitVec w)).length)).after x := by
    rw [List.length_nil, withSp_down_zero]
  obtain ⟨i1, x1, low1, run1, st1⟩ := pushSelector_stacked (vs := []) s.ss.sel (.nil hm) hr hl' hw (by simp) (by omega)
  obtain ⟨x2, run2, st2⟩ := push_stacked (s.regs.esp.setWidth w) st1 hr hl' hw (by simp; omega) (by omega)
  obtain ⟨r, run3⟩ := read x2 st2.wf fun j hj => ⟨(hps j hj).1, fun k hk => by
    rw [st2.others _ ((hps j hj).2 k hk).1, marked.1 _ ((hps j hj).2 k hk).2]⟩
  obtain ⟨x4, run4, st4⟩ := pushAll_stacked (x := { x2 with trap := r }) (s.params w n 0).reverse st2 hr hl' hw
    (by simp [params_length]) (by omega)
  obtain ⟨i4, x5, low5, run5, st5⟩ := pushSelector_stacked s.cs.sel st4 hr hl' hw (by simp [params_length]; omega) (by omega)
  obtain ⟨x6, run6, st6⟩ := push_stacked (s.eip.setWidth w) st5 hr hl' hw (by simp [params_length]; omega) (by omega)
  refine ⟨i1, i4, x6, low1, low5, st6, fun rest => ?_⟩
  unfold callFrame
  rw [start, bind_ok run1, bind_ok run2]
  refine (bind_ok run3 _).trans ((bind_ok run4 _).trans ?_)
  rw [bind_ok run5, bind_ok run6]
  have total := callItems_length s w n i1 i4
  unfold callItems at total
  exact congrArg (fun k => rest ((u.withSp (u.down w k)).after x6)) total

/-- A CALL THROUGH A GATE TO AN INNER LEVEL: the stack of that level, and the code segment. -/
theorem callInner_after {sel : Word} (hp : s.prot = true) (hl : s.level ≠ 0) (hf : s.names sel d a) (hc : dIsCode d = true)
    (hi : s.innerStackIs (dDpl d) ss sp) (hs : s.findsStack (dDpl d) ss ds as)
    (ho : (gateOffset gate).toNat ≤ (dLimit s.level d).toNat)
    (hr : (s.atInner (dDpl d) ss sp ds).roomApart (gateWidth gate) (4 + gateCount gate) [a, as])
    (hps : ∀ j, j < gateCount gate → s.reaches .ss .read (s.up (gateWidth gate) j) (gateWidth gate / 8)
      (gateWidth gate / 8) = true ∧ ∀ k, k < gateWidth gate / 8 →
        (s.atInner (dDpl d) ss sp ds).offStack (gateWidth gate) 2 (s.placeAt .ss (s.up (gateWidth gate) j) k) ∧
          s.placeAt .ss (s.up (gateWidth gate) j) k ≠ s.tablePlace (as + 5) 0) :
    ∃ (i1 i4 : BitVec (gateWidth gate)) (y : Trace), i1.setWidth 16 = s.ss.sel ∧ i4.setWidth 16 = s.cs.sel ∧
      (∀ j (hj : j < (callItems s (gateWidth gate) (gateCount gate) i1 i4).length),
        (s.atInner (dDpl d) ss sp ds).pushedAt (s.after y) (gateWidth gate) (j + 1) =
          (callItems s (gateWidth gate) (gateCount gate) i1 i4)[j]) ∧
      s.pushedAndMarked (s.atInner (dDpl d) ss sp ds) (s.after y) (gateWidth gate) (4 + gateCount gate) [a, as] ∧
      callInner gate sel d a s = .ok ((), (((s.atInner (dDpl d) ss sp ds).withSp ((s.atInner (dDpl d) ss sp ds).down
        (gateWidth gate) (4 + gateCount gate))).inCode sel (dDpl d) d (gateOffset gate)).after y) := by
  obtain ⟨room, apart⟩ := hr
  obtain ⟨found, writable⟩ := hf
  have access := finds_access found
  have ne := code_apart_stack access (finds_access hs.2.1.1) hc hs.2.2.2.1
  have modes : s.cr0.pe = true ∧ s.flags.vm = false := by simpa [State.prot] using hp
  have few : gateCount gate < 32 := (gate.extractLsb' 32 5).isLt
  have hw := gateWidth_cases gate
  have toward : ({ s with cs := { s.cs with sel := selWithRpl s.cs.sel (dDpl d) } } : State) = s.towardInner (dDpl d) := by
    unfold State.towardInner
    rw [← modes.2]
  obtain ⟨x, toInner, wf, marked⟩ := switchToInner_after hi hs
  obtain ⟨i1, i4, y, low1, low4, st, frame⟩ := callFrame_stacked (x := x) hp hl hw wf marked few room hps
  have count := callItems_length s (gateWidth gate) (gateCount gate) i1 i4
  have outA : (s.atInner (dDpl d) ss sp ds).offStack (gateWidth gate) (4 + gateCount gate) (s.tablePlace (a + 5) 0) :=
    apart a (by simp)
  have outAs : (s.atInner (dDpl d) ss sp ds).offStack (gateWidth gate) (4 + gateCount gate) (s.tablePlace (as + 5) 0) :=
    apart as (by simp)
  have others : ∀ p, (s.atInner (dDpl d) ss sp ds).offStack (gateWidth gate) (4 + gateCount gate) p →
      Memory.read y.mem p = Memory.read x.mem p := fun p off => st.others p (by rwa [count])
  have same : Memory.read y.mem (s.tablePlace (a + 5) 0) = dAccess d := by
    rw [others _ outA, marked.1 _ ne, access]
  have way : s.TableWay (((s.atInner (dDpl d) ss sp ds).withSp ((s.atInner (dDpl d) ss sp ds).down
    (gateWidth gate) (4 + gateCount gate))).after y) := ⟨rfl, modes.1, modes.1, rfl⟩
  obtain ⟨z, -, second, enters⟩ := enterCode_after (s := ((s.atInner (dDpl d) ss sp ds).withSp
    ((s.atInner (dDpl d) ss sp ds).down (gateWidth gate) (4 + gateCount gate))).after y) (sel := sel) (cpl := dDpl d)
    (d := d) (a := a) (wide := true) (v := gateOffset gate) (by simp [State.prot]; exact ⟨modes.1, rfl⟩)
    (way.tableOk st.wf writable) same ho
  have enter := enters pure
  rw [bind_pure_id] at enter
  refine ⟨i1, i4, z, low1, low4, fun j hj => ?_, marked_around others marked second outA outAs ne, ?_⟩
  · exact st.items_of (fun i p one le hp => second.1 _ (outA i p one (count ▸ le) hp)) j hj
  · unfold callInner
    rw [get_bind_apply, modify_bind_apply, toward, bind_ok toInner]
    exact (bind_ok (checkRoom_room room hl x) _).trans ((frame _).trans enter)

/-! ### What it looks like from outside -/

theorem finishDone_agrees (h : (s.withSegsOf u).agrees u) : (s.withSegsOf (finish s u .done)).agrees (finish s u .done) := h

theorem inner_agrees (s : State) (r : TrapRecord) (level : Nat) (v : Dword) {sel : Word} {off : Dword} (x : Trace) :
    (s.withSegsOf (((((s.starting r).atInner level ss sp ds).withSp v).inCode sel level d off).after x)).agrees
      (((((s.starting r).atInner level ss sp ds).withSp v).inCode sel level d off).after x) := by
  unfold State.agrees State.withSp State.atInner
  rfl

/-- A CALL TO AN INNER LEVEL, seen from outside: the fourth part of O39. -/
theorem call_inner {i : Instr} {sel : Word} {off : Dword} {a0 n : Nat} (hl : s.lockOk false = true) (hp : s.prot = true)
    (hlevel : s.level ≠ 0) (hi : s.farForm i true sel off) (hn : selNull sel = false) (hgate : s.finds sel gate a0)
    (hg : callGate s.level gate) (hpass : max s.cpl (selRpl sel) ≤ dDpl gate) (hpresent : dPresent gate = true)
    (hn' : selNull (gateSel gate) = false) (hf : s.names (gateSel gate) d a) (hc : dIsCode d = true)
    (hcon : dConforming d = false) (hd : dDpl d < s.cpl) (hpr : dPresent d = true)
    (hstack : s.innerStackIs (dDpl d) ss sp) (hs : s.findsStack (dDpl d) ss ds as)
    (hoff : (gateOffset gate).toNat ≤ (dLimit s.level d).toNat) (hw : w = gateWidth gate) (hcount : n = gateCount gate)
    (hr : (s.atInner (dDpl d) ss sp ds).roomApart w (4 + n) [a, as])
    (hps : ∀ j, j < n → s.reaches .ss .read (s.up w j) (w / 8) (w / 8) = true ∧ ∀ k, k < w / 8 →
      (s.atInner (dDpl d) ss sp ds).offStack w 2 (s.placeAt .ss (s.up w j) k) ∧
        s.placeAt .ss (s.up w j) k ≠ s.tablePlace (as + 5) 0) :
    let u := s.atInner (dDpl d) ss sp ds
    ∃ t, exec i s = .next t ∧ (s.withSegsOf t).agrees t ∧
      s.arrivedAt t (selWithRpl (gateSel gate) (dDpl d)) d (gateOffset gate) ∧ t.ss.shows s.level ss ds ∧
      t.ds = s.ds ∧ t.es = s.es ∧ t.fs = s.fs ∧ t.gs = s.gs ∧ t.flags = s.flags.kept ∧
      t.regs = (u.setSp (u.down w (4 + n))).regs ∧ s.pushedAndMarked u t w (4 + n) [a, as] ∧
      (u.pushedAt t w 1).setWidth 16 = s.ss.sel ∧ u.pushedAt t w 2 = s.regs.esp.setWidth w ∧
      (∀ j, j < n → u.pushedAt t w (2 + n - j) = s.memVal w .ss (s.up w j)) ∧
      (u.pushedAt t w (3 + n)).setWidth 16 = s.cs.sel ∧ u.pushedAt t w (4 + n) = s.nextIp.setWidth w := by
  subst hw hcount
  have modes : s.cr0.pe = true ∧ s.flags.vm = false := by simpa [State.prot] using hp
  have hw := gateWidth_cases gate
  obtain ⟨r, goes, -⟩ := farForm_exec hi hl hp
  obtain ⟨i1, i4, y, low1, low4, items, marked, run⟩ := callInner_after (s := s.starting r) (gate := gate)
    (sel := gateSel gate) hp hlevel hf hc hstack hs hoff hr hps
  have far : farProt (farKind true) sel off (s.starting r) = .ok (.done, _) :=
    (farProt_ofCallGate (s := s.starting r) hn hgate hg).trans ((throughGate_finds (s := s.starting r) hpass hpresent hn'
      hf.1).trans ((check_bind_ok (by simp [hc]; exact Nat.le_of_lt hd) _ _ _).trans ((check_bind_ok hpr _ _ _).trans
        ((congrFun (if_pos ⟨rfl, hcon, hd⟩) _).trans (bind_ok run _)))))
  have len := callItems_length (s.starting r) (gateWidth gate) (gateCount gate) i1 i4
  refine ⟨_, goes _ _ far, finishDone_agrees (inner_agrees s r _ _ y), ⟨rfl, rfl, rfl, rfl, rfl, rfl, rfl, rfl, rfl, rfl, rfl⟩,
    ⟨rfl, rfl, rfl, rfl, rfl, rfl, rfl⟩, rfl, rfl, rfl, rfl, ?_, ?_, marked, ?_, ?_, ?_, ?_, ?_⟩
  · have same : ({ s.flags with vm := false } : Flags) = s.flags := by rw [← modes.2]
    exact congrArg Flags.kept same
  · rw [setSp_eq]
    rfl
  · exact (congrArg (BitVec.setWidth 16) (items 0 (by omega))).trans low1
  · exact items 1 (by omega)
  · intro j hj
    rw [show 2 + gateCount gate - j = 1 + gateCount gate - j + 1 by omega]
    exact (items _ (by omega)).trans (callItems_param (s := s.starting r) hw hj)
  · rw [show 3 + gateCount gate = 2 + gateCount gate + 1 by omega]
    refine (congrArg (BitVec.setWidth 16) (items (2 + gateCount gate) (by omega))).trans (Eq.trans ?_ low4)
    rw [callItems_cs]
  · rw [show 4 + gateCount gate = 3 + gateCount gate + 1 by omega]
    exact (items _ (by omega)).trans (callItems_ip (s := s.starting r))

end Sys2Proof.Machine
end

section
/-! PROOFS. A task switch in its phases, and what every switch that completes has done. -/
-- One declaration after the other: many proofs at once take more thread stacks than the memory limit allows.
set_option Elab.async false
namespace Sys2Proof.Machine

variable {α β γ : Type} {s t u : State} {kind : SwitchKind} {sel : Word} {d : Descriptor} {err : Option Word}

/-! ### The phases -/

/-- The checks of the selector and the descriptor (R755 steps 1 to 4). -/
def checkTask (kind : SwitchKind) (sel : Word) : M (Descriptor × State) := do
  let bad : Byte := match kind with
    | .iret => 10
    | .jump | .nest => 13
  check (!selNull sel && !selLocal sel) (faultSel bad sel)
  let (d, _) ← readDescriptor sel (faultSel bad sel)
  let s ← get
  check (match kind with
    | .iret => dHasType s.level d [3] [11]
    | .jump | .nest => dHasType s.level d [1] [9]) (faultSel bad sel)
  check (dPresent d) (faultSel 11 sel)
  check (decide ((if decide (8 ≤ dType d) then 103 else 43) ≤ (dLimit s.level d).toNat)) (faultSel 10 sel)
  return (d, s)

/-- The outgoing task left: its registers saved and the busy marks changed (steps 5 to 9). -/
def leaveTask (kind : SwitchKind) (old : State) (sel : Word) (d : Descriptor) : M Unit := do
  (if kind = .iret then do
    setBusy old.tr.sel false
    modify fun s => { s with flags := { s.flags with nt := false } }
  else pure ())
  saveTask
  (if kind = .jump then setBusy old.tr.sel false else pure ())
  modify fun s =>
    { s with
      tr := { sel := sel, base := dBase s.level d, limit := dLimitWord s.level d, is386 := decide (8 ≤ dType d) }
      cr0 := { s.cr0 with ts := true } }
  (if kind ≠ .iret then setBusy sel true else pure ())

/-- The general registers of the incoming task, from the fields of its TSS. -/
def loadTaskRegs (is386 : Bool) (f : Nat → Dword) : M Unit := do
  loadTaskReg is386 .eax (f 2)
  loadTaskReg is386 .ecx (f 3)
  loadTaskReg is386 .edx (f 4)
  loadTaskReg is386 .ebx (f 5)
  loadTaskReg is386 .esp (f 6)
  loadTaskReg is386 .ebp (f 7)
  loadTaskReg is386 .esi (f 8)
  loadTaskReg is386 .edi (f 9)

/-- The flags of the incoming task. -/
def taskFlags (kind : SwitchKind) (v : Dword) (level : Nat) : Flags :=
  { Flags.ofImage v level with nt := match kind with | .jump => false | .nest => true | .iret => (Flags.ofImage v level).nt }

/-- The incoming task's fields read, its registers and flags loaded (step 10). -/
def enterTask (kind : SwitchKind) (old : State) (d : Descriptor) : M (Nat → Dword) := do
  let is386 := decide (8 ≤ dType d)
  let base := (dBase old.level d).toNat
  (if is386 && old.cr0.pg then do
    let cr3 ← sysRead32 (base + 28)
    modify fun s => s.loadCr3 cr3
  else pure ())
  let size := if is386 then 4 else 2
  let bs ← sysRead (base + tssRegsAt is386) (size * (if is386 then 17 else 15))
  let f := fieldOf size bs
  modify fun s => { s with eip := f 0, flags := taskFlags kind (f 1) s.level }
  loadTaskRegs is386 f
  return f

/-- A segment register that shows the selector of a field, and nothing usable yet. -/
def SegReg.shown (g : SegReg) (v : Dword) : SegReg := { g with sel := v.setWidth 16, valid := false, realKind := false }

/-- The selectors of the incoming task shown, before the checks of their descriptors (step 13, R757 c). -/
def State.showTask (s : State) (is386 : Bool) (f : Nat → Dword) : State :=
  { s with
    ldtr := { s.ldtr with sel := (f (if is386 then 16 else 14)).setWidth 16, valid := false }
    es := s.es.shown (f 10), cs := s.cs.shown (f 11), ss := s.ss.shown (f 12), ds := s.ds.shown (f 13)
    fs := s.fs.shown (if is386 then f 14 else 0), gs := s.gs.shown (if is386 then f 15 else 0) }

/-- The back link, the local breakpoints and the selectors shown (steps 11 to 13). -/
def linkTask (kind : SwitchKind) (old : State) (d : Descriptor) (f : Nat → Dword) : M Unit := do
  let is386 := decide (8 ≤ dType d)
  (if kind = .nest then sysWrite (dBase old.level d).toNat (natBytes (if is386 then 4 else 2) old.tr.sel.toNat)
  else pure ())
  modify fun s => { s with dr7 := s.dr7 &&& ~~~(0x155 : Dword) }
  modify fun s => s.showTask is386 f

/-- LDTR and the segment registers of the incoming task (R757 d to h). -/
def loadTaskHidden (is386 : Bool) (f : Nat → Dword) : M Unit := do
  inNewTask (loadTaskLdt ((f (if is386 then 16 else 14)).setWidth 16))
  loadTaskSegs is386

/-- The check of the target, the debug trap (step 14) and the new stream of instructions. -/
def beginTask (is386 : Bool) (base : Nat) : M Unit := do
  inNewTask do
    let s ← get
    check (s.targetOk s.eip) gp0
  (if is386 then do
    let t ← sysRead (base + 100) 1
    (if (leValue 8 t).getLsbD 0 then modify fun s => { s with trap := { s.trap with taskSwitch := true } } else pure ())
  else pure ())
  modify fun s => { s with stale := [] }

/-- The error word pushed in the incoming task. -/
def pushTaskError (is386 : Bool) (err : Option Word) : M Unit :=
  match err with
  | some e => inNewTask (if is386 then push (e.setWidth 32 : BitVec 32) else push e)
  | none => pure ()

theorem optional_bind {c : Prop} [Decidable c] (m : M α) (n : M α) (rest : α → M β) :
    (if c then m >>= rest else n >>= rest) = (if c then m else n) >>= rest := by
  split <;> rfl

/-- A TASK SWITCH is its phases in turn. -/
theorem taskSwitch_phases (kind : SwitchKind) (sel : Word) (err : Option Word) :
    taskSwitch kind sel err = (checkTask kind sel >>= fun (d, old) => leaveTask kind old sel d >>= fun _ =>
      enterTask kind old d >>= fun f => linkTask kind old d f >>= fun _ => loadTaskHidden (decide (8 ≤ dType d)) f >>= fun _ =>
        pushTaskError (decide (8 ≤ dType d)) err >>= fun _ => beginTask (decide (8 ≤ dType d)) (dBase old.level d).toNat) := by
  unfold taskSwitch checkTask leaveTask enterTask loadTaskRegs linkTask loadTaskHidden pushTaskError beginTask
  cases kind <;> cases err <;> simp only [bind_assoc, pure_bind, ← optional_bind, reduceCtorEq, if_true, if_false, ne_eq,
    not_true_eq_false, not_false_eq_true] <;> rfl

/-! ### What every switch that completes has done -/

/-- A computation that completes changes a part of the state in one way. -/
def Turns (π : State → γ) (g : γ → γ) (m : M α) : Prop := ∀ s a t, m s = .ok (a, t) → π t = g (π s)

section
variable {π : State → γ} {g : γ → γ}

theorem Turns.modify {f : State → State} (hf : ∀ s, π (f s) = g (π s)) : Turns π g (modify f : M PUnit) :=
  fun s _ _ h => by cases h; exact hf s

theorem Turns.after {m : M α} {f : α → M β} (hm : Leaves π m) (hf : ∀ a, Turns π g (f a)) : Turns π g (m >>= f) :=
  fun s b t h => by
    rcases bind_cases m f s with ⟨stop, -, early⟩ | ⟨⟨a, u⟩, ok, whole⟩
    · rw [early] at h; cases h
    · rw [whole] at h
      rw [hf a u b t h, hm s a u ok]

theorem Turns.before {m : M α} {f : α → M β} (hm : Turns π g m) (hf : ∀ a, Leaves π (f a)) : Turns π g (m >>= f) :=
  fun s b t h => by
    rcases bind_cases m f s with ⟨stop, -, early⟩ | ⟨⟨a, u⟩, ok, whole⟩
    · rw [early] at h; cases h
    · rw [whole] at h
      rw [hf a u b t h, hm s a u ok]

theorem Leaves.orNot {c : Prop} [Decidable c] {m : M Unit} (hm : c → Leaves π m) : Leaves π (if c then m else Pure.pure ()) :=
  .ite hm fun _ => .pure

theorem readDescriptor_task_leaves (hπ : Apart π) {vec : Byte} : Leaves π (readDescriptor sel (faultSel vec sel)) :=
  readDescriptor_leaves hπ .raise

theorem setBusy_leaves (hπ : Apart π) {busy : Bool} : Leaves π (setBusy sel busy) :=
  .ite (fun _ => .pure) fun _ => .get fun _ => .bind (sysRead_leaves hπ) fun _ => sysWrite_leaves hπ

theorem saveTask_leaves (hπ : Apart π) : Leaves π saveTask := .get fun _ => sysWrite_leaves hπ

/-- A part of the state that loading the segment registers does not change. -/
structure SegsApart (π : State → γ) : Prop where
  apart : Apart π
  ldtr : ∀ (s : State) l, π { s with ldtr := l } = π s
  seg : ∀ (s : State) r g, π (s.setSeg r g) = π s
  segs : ∀ (s : State) es cs ss ds fs gs latch,
    π { s with es := es, cs := cs, ss := ss, ds := ds, fs := fs, gs := gs, resetLatch := latch } = π s

theorem loadDataSeg_leaves (hπ : SegsApart π) {vec : Byte} {r : SReg} : Leaves π (loadDataSeg vec r sel) :=
  .ite (fun _ => .modify fun _ => hπ.seg _ _ _) fun _ => .bind (readDescriptor_task_leaves hπ.apart) fun _ => .get fun _ =>
    .bind (.check .raise) fun _ => .bind (.check .raise) fun _ => .bind (.check .raise) fun _ =>
    .bind (markAccessed_leaves hπ.apart) fun _ => .modify fun _ => hπ.seg _ _ _

theorem loadStackSeg_leaves (hπ : SegsApart π) {vec : Byte} {cpl : Nat} : Leaves π (loadStackSeg vec cpl sel) :=
  .bind (.check .raise) fun _ => .bind (readDescriptor_task_leaves hπ.apart) fun _ =>
    .bind (.check .raise) fun _ => .bind (.check .raise) fun _ =>
    .bind (markAccessed_leaves hπ.apart) fun _ => .modify fun s => hπ.seg s .ss _

theorem loadTaskCs_leaves (hπ : SegsApart π) : Leaves π (loadTaskCs sel) :=
  .bind (.check .raise) fun _ => .bind (readDescriptor_task_leaves hπ.apart) fun _ =>
    .bind (.check .raise) fun _ => .bind (.check .raise) fun _ => .bind (.check .raise) fun _ =>
    .bind (markAccessed_leaves hπ.apart) fun _ => .modify fun s => hπ.segs s s.es _ s.ss s.ds s.fs s.gs _

theorem loadTaskHidden_leaves (hπ : SegsApart π) {is386 : Bool} {f : Nat → Dword} : Leaves π (loadTaskHidden is386 f) := by
  have ldt : Leaves π (loadTaskLdt ((f (if is386 then 16 else 14)).setWidth 16)) :=
    .ite (fun _ => .modify fun _ => hπ.ldtr _ _) fun _ => .bind (.check .raise) fun _ =>
      .bind (readDescriptor_task_leaves hπ.apart) fun _ => .bind (.check .raise) fun _ => .modify fun _ => hπ.ldtr _ _
  have data (r : SReg) (sel : Word) : Leaves π (inNewTask (loadDataSeg 10 r sel)) :=
    inNewTask_leaves (loadDataSeg_leaves hπ)
  refine .bind (inNewTask_leaves ldt) fun _ s a t h => ?_
  unfold loadTaskSegs at h
  rw [get_bind_apply] at h
  split at h
  · cases h
    exact hπ.segs s _ _ _ _ _ _ _
  · exact Leaves.bind (inNewTask_leaves (loadTaskCs_leaves hπ)) (fun _ => .bind (inNewTask_leaves (loadStackSeg_leaves hπ))
      fun _ => .bind (data _ _) fun _ => .bind (data _ _) fun _ => .ite (fun _ => .bind (data _ _) fun _ => data _ _)
      fun _ => .pure) s a t h

theorem pushTaskError_leaves (hπ : Apart π) (hs : ∀ (s : State) v, π (s.setSp v) = π s) {is386 : Bool} :
    Leaves π (pushTaskError is386 err) := by
  cases err with
  | none => exact .pure
  | some e => exact inNewTask_leaves (.ite (fun _ => push_leaves hπ hs) fun _ => push_leaves hπ hs)

theorem beginTask_leaves (hπ : Apart π) {is386 : Bool} {base : Nat} : Leaves π (beginTask is386 base) :=
  .bind (inNewTask_leaves (.get fun _ => .check .raise)) fun _ =>
    .bind (.orNot fun _ => .bind (sysRead_leaves hπ) fun _ => .orNot fun _ => .modify fun _ => hπ.same) fun _ =>
    .modify fun _ => hπ.same

theorem checkTask_leaves (hπ : Apart π) : Leaves π (checkTask kind sel) :=
  .bind (.check .raise) fun _ => .bind (readDescriptor_task_leaves hπ) fun _ => .get fun _ => .bind (.check .raise) fun _ =>
    .bind (.check .raise) fun _ => .bind (.check .raise) fun _ => .pure

/-- A part of the state that leaving a task does not change. -/
structure LeavingApart (π : State → γ) : Prop where
  apart : Apart π
  nt : ∀ s : State, π { s with flags := { s.flags with nt := false } } = π s

theorem leaveTask_turns (hπ : LeavingApart π) {old : State} (hg : ∀ s : State, π { s with
    tr := { sel := sel, base := dBase s.level d, limit := dLimitWord s.level d, is386 := decide (8 ≤ dType d) }
    cr0 := { s.cr0 with ts := true } } = g (π s)) : Turns π g (leaveTask kind old sel d) :=
  .after (.orNot fun _ => .bind (setBusy_leaves hπ.apart) fun _ => .modify hπ.nt) fun _ =>
    .after (saveTask_leaves hπ.apart) fun _ => .after (.orNot fun _ => setBusy_leaves hπ.apart) fun _ =>
    .before (.modify hg) fun _ => .orNot fun _ => setBusy_leaves hπ.apart

/-- A part of the state that the registers of a task do not change. -/
structure RegsApart (π : State → γ) : Prop where
  apart : Apart π
  cr3 : ∀ (s : State) v, π (s.loadCr3 v) = π s
  reg : ∀ (s : State) w r (v : BitVec w), π (s.setReg r v) = π s

theorem loadTaskRegs_leaves (hπ : RegsApart π) {is386 : Bool} {f : Nat → Dword} : Leaves π (loadTaskRegs is386 f) := by
  have reg (r : Reg) (v : Dword) : Leaves π (loadTaskReg is386 r v) :=
    .ite (fun _ => .modify fun _ => hπ.reg _ _ _ _) fun _ => .get fun _ =>
      .ite (fun _ => .bind (freeBits_leaves hπ.apart) fun _ => .modify fun _ => hπ.reg _ _ _ _) fun _ =>
        .modify fun _ => hπ.reg _ _ _ _
  exact .bind (reg _ _) fun _ => .bind (reg _ _) fun _ => .bind (reg _ _) fun _ => .bind (reg _ _) fun _ =>
    .bind (reg _ _) fun _ => .bind (reg _ _) fun _ => .bind (reg _ _) fun _ => reg _ _

theorem enterTask_turns (hπ : RegsApart π) {old : State} (hg : ∀ (s : State) ip v, π { s with
    eip := ip, flags := taskFlags kind v s.level } = g (π s)) : Turns π g (enterTask kind old d) :=
  .after (.orNot fun _ => .bind (sysRead_leaves hπ.apart |>.bind fun _ => .pure) fun _ => .modify fun _ => hπ.cr3 _ _) fun _ =>
    .after (sysRead_leaves hπ.apart) fun _ => .before (.modify fun _ => hg _ _ _) fun _ =>
    .bind (loadTaskRegs_leaves hπ) fun _ => .pure

theorem linkTask_turns (hπ : Apart π) {old : State} {f : Nat → Dword} (hd : ∀ s : State, π { s with
    dr7 := s.dr7 &&& ~~~(0x155 : Dword) } = g (π s)) (hs : ∀ (s : State), π (s.showTask (decide (8 ≤ dType d)) f) = π s) :
    Turns π g (linkTask kind old d f) :=
  .after (.orNot fun _ => sysWrite_leaves hπ) fun _ => .before (.modify hd) fun _ => .modify hs

end

theorem bind_ran {m : M α} {f : α → M β} {b : β} (h : (m >>= f) s = .ok (b, t)) :
    ∃ a u, m s = .ok (a, u) ∧ f a u = .ok (b, t) := by
  rcases bind_cases m f s with ⟨stop, -, early⟩ | ⟨⟨a, u⟩, ok, whole⟩
  · rw [early] at h; cases h
  · exact ⟨a, u, ok, whole.symm.trans h⟩

/-- The system registers a switch leaves alone or sets in one way. -/
def State.systemPart (s : State) : TableReg × TableReg × Dword × Dword × Fpu × Word × Cr0 × Dword :=
  (s.gdtr, s.idtr, s.cr2, s.dr6, s.fpu, s.tr.sel, s.cr0, s.dr7)

theorem systemPart_apart : Apart State.systemPart := fun _ _ _ _ _ _ _ _ _ => rfl
theorem nt_apart : Apart fun s : State => s.flags.nt := fun _ _ _ _ _ _ _ _ _ => rfl

theorem setSp_systemPart (s : State) (v : Dword) : (s.setSp v).systemPart = s.systemPart := by rw [setSp_eq]; rfl
theorem setSp_nt (s : State) (v : Dword) : (s.setSp v).flags.nt = s.flags.nt := by rw [setSp_eq]; rfl

/-- WHAT EVERY SWITCH THAT COMPLETES HAS SET: the fifth part of O39. -/
theorem taskSwitch_sets (h : taskSwitch kind sel err s = .ok ((), t)) :
    selNull sel = false ∧ selLocal sel = false ∧ t.tr.sel = sel ∧ t.cr0 = { s.cr0 with ts := true } ∧
      t.dr7 = s.dr7 &&& ~~~(0x155 : Dword) ∧ (kind = .jump → t.flags.nt = false) ∧ (kind = .nest → t.flags.nt = true) ∧
      t.gdtr = s.gdtr ∧ t.idtr = s.idtr ∧ t.cr2 = s.cr2 ∧ t.dr6 = s.dr6 ∧ t.fpu = s.fpu ∧ t.stale = [] := by
  rw [taskSwitch_phases] at h
  obtain ⟨⟨d, old⟩, s1, check, h⟩ := bind_ran h
  obtain ⟨_, s2, leave, h⟩ := bind_ran h
  obtain ⟨f, s3, enter, h⟩ := bind_ran h
  obtain ⟨_, s4, link, h⟩ := bind_ran h
  obtain ⟨_, s5, hidden, h⟩ := bind_ran h
  obtain ⟨_, s6, word, start⟩ := bind_ran h
  have segs : SegsApart State.systemPart := ⟨systemPart_apart, fun _ _ => rfl, fun s r g => by cases r <;> rfl,
    fun _ _ _ _ _ _ _ _ => rfl⟩
  have ntSegs : SegsApart fun s : State => s.flags.nt := ⟨nt_apart, fun _ _ => rfl, fun s r g => by cases r <;> rfl,
    fun _ _ _ _ _ _ _ _ => rfl⟩
  have part1 := checkTask_leaves systemPart_apart s _ _ check
  have part2 := leaveTask_turns (g := fun (a, b, c, d, e, _, cr0, h) => (a, b, c, d, e, sel, { cr0 with ts := true }, h))
    ⟨systemPart_apart, fun _ => rfl⟩ (fun _ => rfl) s1 _ _ leave
  have part3 := enterTask_turns (g := id) (π := State.systemPart) ⟨systemPart_apart, fun _ _ => rfl, fun _ _ _ _ => rfl⟩
    (fun _ _ _ => rfl) s2 _ _ enter
  have part4 := linkTask_turns (g := fun (a, b, c, d, e, f, cr0, h) => (a, b, c, d, e, f, cr0, h &&& ~~~(0x155 : Dword)))
    systemPart_apart (fun _ => rfl) (fun _ => rfl) s3 _ _ link
  have part5 := loadTaskHidden_leaves segs s4 _ _ hidden
  have part6 := pushTaskError_leaves systemPart_apart setSp_systemPart s5 _ _ word
  have part7 := beginTask_leaves systemPart_apart s6 _ _ start
  have parts : t.systemPart = (s.gdtr, s.idtr, s.cr2, s.dr6, s.fpu, sel, { s.cr0 with ts := true },
      s.dr7 &&& ~~~(0x155 : Dword)) := by
    rw [part7, part6, part5, part4, part3, part2, part1]
    rfl
  simp only [State.systemPart, Prod.mk.injEq] at parts
  obtain ⟨gdtr, idtr, cr2, dr6, fpu, tr, cr0, dr7⟩ := parts
  have nt : t.flags.nt = s3.flags.nt := calc
    t.flags.nt = s6.flags.nt := beginTask_leaves nt_apart s6 _ _ start
    _ = s5.flags.nt := pushTaskError_leaves nt_apart setSp_nt s5 _ _ word
    _ = s4.flags.nt := loadTaskHidden_leaves ntSegs s4 _ _ hidden
    _ = s3.flags.nt := linkTask_turns (g := id) nt_apart (fun _ => rfl) (fun _ => rfl) s3 _ _ link
  have nt_of (b : Bool) (hb : ∀ v level, (taskFlags kind v level).nt = b) : t.flags.nt = b :=
    nt.trans (enterTask_turns (g := fun _ => b) ⟨nt_apart, fun _ _ => rfl, fun _ _ _ _ => rfl⟩ (fun _ _ _ => hb _ _) s2 _ _
      enter)
  have named : selNull sel = false ∧ selLocal sel = false := by
    obtain ⟨_, _, ok, -⟩ := bind_ran check
    simpa using ((check_eq_ok (by simp)).1 ok).1
  have stale : t.stale = [] := by
    obtain ⟨_, _, -, start⟩ := bind_ran start
    obtain ⟨_, _, -, start⟩ := bind_ran start
    cases start
    rfl
  exact ⟨named.1, named.2, tr, cr0, dr7, fun e => nt_of false fun _ _ => by rw [e]; rfl,
    fun e => nt_of true fun _ _ => by rw [e]; rfl, gdtr, idtr, cr2, dr6, fpu, stale⟩

end Sys2Proof.Machine
end

section
/-! PROOFS. The fields of a TSS, read and written. -/
-- One declaration after the other: many proofs at once take more thread stacks than the memory limit allows.
set_option Elab.async false
namespace Sys2Proof.Machine

variable {s t u : State} {size lin n i : Nat} {is386 : Bool} {m m' : Memory}

/-! ### Reading -/

/-- Bytes of a table further on. -/
theorem tableBytes_part (s : State) (lin : Nat) {n k size : Nat} (h : k + size ≤ n) :
    ((s.tableBytes lin n).drop k).take size = s.tableBytes (lin + k) size := by
  unfold State.tableBytes
  refine List.ext_getElem (by simp; omega) fun i h1 h2 => ?_
  simp [tablePlace_add]

theorem leValue_wide (s : State) (lin : Nat) : leValue 32 (s.tableBytes lin 2) = (s.tableVal 16 lin).setWidth 32 := by
  have small : leNat (s.tableBytes lin 2) < 65536 :=
    Nat.lt_of_lt_of_le (leNat_lt _) (by simp [State.tableBytes])
  show BitVec.ofNat 32 (leNat (s.tableBytes lin 2)) = (BitVec.ofNat 16 (leNat (s.tableBytes lin 2))).setWidth 32
  apply BitVec.eq_of_toNat_eq
  simp only [BitVec.toNat_setWidth, BitVec.toNat_ofNat]
  omega

/-- The size of a field. -/
def fieldSize (is386 : Bool) : Nat := if is386 then 4 else 2

/-- A FIELD of a TSS, of the bytes read. -/
theorem fieldOf_tss (s : State) (is386 : Bool) (base : Nat) {n i : Nat} (h : fieldSize is386 * (i + 1) ≤ n) :
    fieldOf (fieldSize is386) (s.tableBytes (base + tssRegsAt is386) n) i = s.tssField is386 base i := by
  unfold fieldOf
  rw [tableBytes_part s _ (by rw [Nat.mul_succ] at h; exact h)]
  cases is386
  · exact leValue_wide s _
  · rfl

/-! ### Writing -/

theorem packFields_length (size : Nat) (vs : List Dword) : (packFields size vs).length = size * vs.length := by
  induction vs with
  | nil => rfl
  | cons v vs ih =>
    rw [packFields, List.length_append, natBytes_length, ih, List.length_cons, Nat.mul_succ, Nat.add_comm]

theorem packFields_getElem (size : Nat) (vs : List Dword) {i j : Nat} (hi : i < vs.length) (hj : j < size) :
    (packFields size vs)[size * i + j]? = (natBytes size vs[i].toNat)[j]? := by
  induction vs generalizing i with
  | nil => simp at hi
  | cons v vs ih =>
    rw [packFields]
    cases i with
    | zero => rw [List.getElem?_append_left (by simpa using hj)]; simp
    | succ i =>
      rw [List.getElem?_append_right (by rw [natBytes_length, Nat.mul_succ]; omega), natBytes_length,
        show size * (i + 1) + j - size = size * i + j by rw [Nat.mul_succ]; omega, ih (by simpa using hi)]
      rfl

/-- The bytes of a field that was written. -/
theorem State.TableWrite.field {vs : List Dword} (h : s.TableWrite lin (packFields size vs) m m') (hi : i < vs.length) :
    ({ s with mem := m' } : State).tableBytes (lin + size * i) size = natBytes size vs[i].toNat := by
  refine List.ext_getElem? fun j => ?_
  rcases Nat.lt_or_ge j size with hj | hj
  · have inside : size * i + j < (packFields size vs).length := by
      rw [packFields_length]
      calc size * i + j < size * i + size := Nat.add_lt_add_left hj _
        _ = size * (i + 1) := (Nat.mul_succ _ _).symm
        _ ≤ size * vs.length := Nat.mul_le_mul_left _ hi
    have byte := h.bytes (size * i + j) inside
    rw [← packFields_getElem size vs hi hj, List.getElem?_eq_getElem inside, ← byte]
    simp only [State.tableBytes, List.getElem?_map, List.getElem?_range hj, Option.map_some]
    exact congrArg (fun p => some (Memory.read m' p)) (tablePlace_add s lin (size * i) j)
  · rw [List.getElem?_eq_none (by simpa [State.tableBytes] using hj), List.getElem?_eq_none (by simpa using hj)]

theorem leValue_word (v : Dword) : leValue 16 (natBytes 2 v.toNat) = v.setWidth 16 := by
  unfold leValue
  rw [leNat_natBytes]
  apply BitVec.eq_of_toNat_eq
  simp

/-- A FIELD of a TSS that was written. -/
theorem State.TableWrite.tssField {base : Nat} {vs : List Dword}
    (h : s.TableWrite (base + tssRegsAt is386) (packFields (fieldSize is386) vs) m m') (hi : i < vs.length) :
    ({ s with mem := m' } : State).tssField is386 base i = taskWord is386 vs[i] := by
  have bytes := h.field hi
  cases is386
  · show (leValue 16 (({ s with mem := m' } : State).tableBytes (base + 14 + 2 * i) 2)).setWidth 32 = low16 vs[i]
    exact (congrArg (fun bs => (leValue 16 bs).setWidth 32) bytes).trans (congrArg _ (leValue_word _))
  · show leValue 32 (({ s with mem := m' } : State).tableBytes (base + 32 + 4 * i) 4) = vs[i]
    exact (congrArg (leValue 32) bytes).trans (leValue_valueBytes (w := 32) rfl vs[i])

end Sys2Proof.Machine
end

section
/-! PROOFS. Leaving a task: the busy marks and the registers saved. -/
-- One declaration after the other: many proofs at once take more thread stacks than the memory limit allows.
set_option Elab.async false
namespace Sys2Proof.Machine

variable {s t u : State} {kind : SwitchKind} {sel : Word} {d : Descriptor} {is386 : Bool} {m m' : Memory}

/-! ### The busy mark -/

/-- An access byte with the busy mark set or cleared. -/
def busyByte (busy : Bool) (v : Byte) : Byte := if busy then v ||| 2 else v &&& 0xFD

/-- WRITING a busy mark, or not. -/
theorem setBusyIf_after {c : Prop} [Decidable c] {busy : Bool} (wf : Memory.wf s.mem = true)
    (h : c → selNull sel = false ∧ s.tableOk .update (s.busyAt sel) 1 = true) :
    ∃ x, (if c then setBusy sel busy else pure ()) s = .ok ((), s.after x) ∧ Memory.wf x.mem = true ∧
      Memory.read x.mem (s.tablePlace (s.busyAt sel) 0) =
        (if c then busyByte busy (Memory.read s.mem (s.tablePlace (s.busyAt sel) 0))
          else Memory.read s.mem (s.tablePlace (s.busyAt sel) 0)) ∧
      ∀ p, p ≠ s.tablePlace (s.busyAt sel) 0 → Memory.read x.mem p = Memory.read s.mem p := by
  by_cases hc : c
  · obtain ⟨named, ok⟩ := h hc
    obtain ⟨readable, writable⟩ := tableOk_update ok
    obtain ⟨x, run, -, -, wf', bytes, others⟩ := sysWrite_after (bs := [busyByte busy (Memory.read s.mem
      (s.tablePlace (s.busyAt sel) 0))]) writable (by simp)
    have byte : leValue 8 (s.tableBytes (s.busyAt sel) 1) = Memory.read s.mem (s.tablePlace (s.busyAt sel) 0) := by
      simp [State.tableBytes, leValue, leNat]
    refine ⟨x, ?_, wf', ?_, fun p hp => others p fun i hi => ?_⟩
    · rw [if_pos hc]
      unfold setBusy
      rw [if_neg (by simp [named]), get_bind_apply]
      refine (bind_ok (sysRead_flat readable) _).trans ?_
      rw [byte]
      exact run
    · rw [if_pos hc]
      exact bytes 0 (by simp)
    · obtain rfl : i = 0 := by simpa using hi
      exact hp
  · exact ⟨s.trace, by rw [if_neg hc]; rfl, wf, by rw [if_neg hc]; rfl, fun _ _ => rfl⟩

/-! ### The registers saved -/

theorem taskFields_length (s : State) (is386 : Bool) : (s.taskFields is386).length = if is386 then 16 else 14 := by
  cases is386 <;> rfl

/-- The current TSS can be written. -/
def State.savable (s : State) : Prop :=
  if s.tr.is386 then s.tableOk .write (s.tr.base.toNat + 32) 64 = true
  else s.tableOk .write (s.tr.base.toNat + 14) 28 = true

/-- SAVING the registers. -/
theorem saveTask_after (h : s.savable) :
    ∃ x, saveTask s = .ok ((), s.after x) ∧ Memory.wf x.mem = true ∧
      (∀ i (hi : i < (s.taskFields s.tr.is386).length), (s.after x).tssField s.tr.is386 s.tr.base.toNat i =
        taskWord s.tr.is386 (s.taskFields s.tr.is386)[i]) ∧
      ∀ p, ¬s.savedAt p → Memory.read x.mem p = Memory.read s.mem p := by
  have len := packFields_length (fieldSize s.tr.is386) (s.taskFields s.tr.is386)
  rw [taskFields_length] at len
  have ok : s.tableOk .write (s.tr.base.toNat + tssRegsAt s.tr.is386)
      (packFields (fieldSize s.tr.is386) (s.taskFields s.tr.is386)).length = true := by
    rw [len]
    unfold State.savable at h
    cases hf : s.tr.is386 <;> simpa [hf, fieldSize, tssRegsAt] using h
  obtain ⟨x, run, -, -, write⟩ := sysWrite_after ok (by rw [len]; unfold fieldSize; split <;> simp)
  refine ⟨x, run, write.wf, fun i hi => write.tssField hi, fun p hp => write.others p fun i hi e => hp ?_⟩
  rw [len] at hi
  unfold State.savedAt
  cases hf : s.tr.is386 <;> simp only [hf, fieldSize, tssRegsAt] at hi e ⊢ <;> exact ⟨i, hi, e⟩

/-- A field stays where its bytes do. -/
theorem tssField_congr {base i : Nat} (h : ∀ k, k < fieldSize is386 * (i + 1) →
      Memory.read m' (s.tablePlace (base + tssRegsAt is386) k) = Memory.read m (s.tablePlace (base + tssRegsAt is386) k)) :
    ({ s with mem := m' } : State).tssField is386 base i = ({ s with mem := m } : State).tssField is386 base i := by
  have bytes : ∀ k, k < fieldSize is386 → Memory.read m' (s.tablePlace (base + tssRegsAt is386 + fieldSize is386 * i) k) =
      Memory.read m (s.tablePlace (base + tssRegsAt is386 + fieldSize is386 * i) k) := fun k hk => by
    rw [tablePlace_add]
    exact h _ (by rw [Nat.mul_succ]; omega)
  cases is386
  · exact congrArg (fun bs => (leValue 16 bs).setWidth 32) (List.map_congr_left fun k hk => bytes k (List.mem_range.1 hk))
  · exact congrArg (leValue 32) (List.map_congr_left fun k hk => bytes k (List.mem_range.1 hk))

/-- The saved fields stay where the saved bytes do. -/
theorem savedField_congr {i : Nat} (hi : i < (s.taskFields s.tr.is386).length)
    (h : ∀ p, s.savedAt p → Memory.read m' p = Memory.read m p) :
    ({ s with mem := m' } : State).tssField s.tr.is386 s.tr.base.toNat i =
      ({ s with mem := m } : State).tssField s.tr.is386 s.tr.base.toNat i := by
  refine tssField_congr fun k hk => h _ ?_
  rw [taskFields_length] at hi
  unfold State.savedAt
  cases hf : s.tr.is386 <;> simp only [hf, fieldSize, tssRegsAt] at hi hk ⊢ <;> exact ⟨k, by simp at hi hk; omega, rfl⟩

/-! ### Leaving -/

/-- The flags a task is left with. -/
def outFlags (kind : SwitchKind) (f : Flags) : Flags := if kind = .iret then { f with nt := false } else f

/-- The task as it is saved. -/
def State.outgoing (s : State) (kind : SwitchKind) : State := { s with flags := outFlags kind s.flags }

/-- The state once a task is left. -/
def State.retired (s : State) (kind : SwitchKind) (sel : Word) (d : Descriptor) : State :=
  { s.outgoing kind with
    tr := { sel := sel, base := dBase s.level d, limit := dLimitWord s.level d, is386 := decide (8 ≤ dType d) }
    cr0 := { s.cr0 with ts := true } }

/-- What a switch can write of the tasks: the current TSS and the two busy marks, all apart. -/
structure State.Leavable (s : State) (sel : Word) : Prop where
  pe : s.cr0.pe = true
  current : selNull s.tr.sel = false
  named : selNull sel = false
  save : s.savable
  mark : s.tableOk .update (s.busyAt s.tr.sel) 1 = true
  mark' : s.tableOk .update (s.busyAt sel) 1 = true
  apart : s.tablePlace (s.busyAt s.tr.sel) 0 ≠ s.tablePlace (s.busyAt sel) 0
  saved : ∀ p, s.savedAt p → p ≠ s.tablePlace (s.busyAt s.tr.sel) 0 ∧ p ≠ s.tablePlace (s.busyAt sel) 0

/-- Memory once a task is left. -/
structure State.LeftMem (s : State) (kind : SwitchKind) (sel : Word) (m : Memory) : Prop where
  wf : Memory.wf m = true
  fields : ∀ i (hi : i < ((s.outgoing kind).taskFields s.tr.is386).length),
    ({ s with mem := m } : State).tssField s.tr.is386 s.tr.base.toNat i =
      taskWord s.tr.is386 ((s.outgoing kind).taskFields s.tr.is386)[i]
  mark : Memory.read m (s.tablePlace (s.busyAt s.tr.sel) 0) =
    if kind = .nest then Memory.read s.mem (s.tablePlace (s.busyAt s.tr.sel) 0)
    else Memory.read s.mem (s.tablePlace (s.busyAt s.tr.sel) 0) &&& 0xFD
  mark' : Memory.read m (s.tablePlace (s.busyAt sel) 0) =
    if kind = .iret then Memory.read s.mem (s.tablePlace (s.busyAt sel) 0)
    else Memory.read s.mem (s.tablePlace (s.busyAt sel) 0) ||| 2
  others : ∀ p, p ≠ s.tablePlace (s.busyAt s.tr.sel) 0 → p ≠ s.tablePlace (s.busyAt sel) 0 → ¬s.savedAt p →
    Memory.read m p = Memory.read s.mem p

/-- LEAVING a task. -/
theorem leaveTask_after (h : s.Leavable sel) :
    ∃ x, leaveTask kind s sel d s = .ok ((), (s.retired kind sel d).after x) ∧ s.LeftMem kind sel x.mem := by
  have wf := (tableOk_iff.1 h.mark).2.2.1
  obtain ⟨x1, run1, wf1, at1, off1⟩ := setBusyIf_after (sel := s.tr.sel) (c := kind = .iret) (busy := false) wf
    fun _ => ⟨h.current, h.mark⟩
  have first : (if kind = .iret then (setBusy s.tr.sel false >>= fun _ =>
      modify fun s : State => { s with flags := { s.flags with nt := false } }) else pure ()) s =
      .ok ((), (s.outgoing kind).after x1) := by
    unfold State.outgoing outFlags
    split
    · rename_i iret
      rw [if_pos iret] at run1
      exact bind_ok run1 _
    · rename_i other
      rw [if_neg other] at run1
      exact run1
  have way1 : s.TableWay ((s.outgoing kind).after x1) := ⟨rfl, h.pe, h.pe, rfl⟩
  have savable : ((s.outgoing kind).after x1).savable := by
    have save := h.save
    unfold State.savable at save ⊢
    show if s.tr.is386 = true then _ else _
    split
    · rename_i new
      exact way1.tableOk wf1 ((if_pos new).mp save)
    · rename_i new
      exact way1.tableOk wf1 ((if_neg new).mp save)
  obtain ⟨x2, run2, wf2, fields, off2⟩ := saveTask_after savable
  have way2 : s.TableWay ((s.outgoing kind).after x2) := ⟨rfl, h.pe, h.pe, rfl⟩
  obtain ⟨x3, run3, wf3, at3, off3⟩ := setBusyIf_after (s := (s.outgoing kind).after x2) (sel := s.tr.sel)
    (c := kind = .jump) (busy := false) wf2 fun _ => ⟨h.current, way2.tableOk wf2 h.mark⟩
  have way3 : s.TableWay ((s.retired kind sel d).after x3) := ⟨rfl, h.pe, h.pe, rfl⟩
  obtain ⟨x4, run4, wf4, at4, off4⟩ := setBusyIf_after (s := (s.retired kind sel d).after x3) (sel := sel)
    (c := kind ≠ .iret) (busy := true) wf3 fun _ => ⟨h.named, way3.tableOk wf3 h.mark'⟩
  rw [way2.tablePlace] at at3 off3
  rw [way3.tablePlace] at at4 off4
  have savedAt : ∀ p, ((s.outgoing kind).after x1).savedAt p ↔ s.savedAt p := fun p => by
    unfold State.savedAt
    simp only [way1.tablePlace]
    rfl
  have mark3 : Memory.read x3.mem (s.tablePlace (s.busyAt s.tr.sel) 0) =
      (if kind = .jump then busyByte false (Memory.read x2.mem (s.tablePlace (s.busyAt s.tr.sel) 0))
        else Memory.read x2.mem (s.tablePlace (s.busyAt s.tr.sel) 0)) := at3
  have mark4 : Memory.read x4.mem (s.tablePlace (s.busyAt sel) 0) =
      (if kind ≠ .iret then busyByte true (Memory.read x3.mem (s.tablePlace (s.busyAt sel) 0))
        else Memory.read x3.mem (s.tablePlace (s.busyAt sel) 0)) := at4
  have read4 : ∀ p, p ≠ s.tablePlace (s.busyAt sel) 0 → Memory.read x4.mem p = Memory.read x3.mem p := off4
  have read3 : ∀ p, p ≠ s.tablePlace (s.busyAt s.tr.sel) 0 → Memory.read x3.mem p = Memory.read x2.mem p := off3
  have read2 : ∀ p, ¬s.savedAt p → Memory.read x2.mem p = Memory.read x1.mem p :=
    fun p hp => off2 p fun e => hp ((savedAt p).1 e)
  refine ⟨x4, ?_, wf4, fun i hi => ?_, ?_, ?_, fun p hp1 hp2 hs => ?_⟩
  · unfold leaveTask
    rw [bind_ok first, bind_ok run2]
    exact (bind_ok run3 _).trans run4
  · have keep : ∀ p, s.savedAt p → Memory.read x4.mem p = Memory.read x2.mem p := fun p hp => by
      rw [read4 p (h.saved p hp).2, read3 p (h.saved p hp).1]
    have later := savedField_congr (s := s) (i := i) hi keep
    have now : ({ s with mem := x2.mem } : State).tssField s.tr.is386 s.tr.base.toNat i =
        ((s.outgoing kind).after x2).tssField s.tr.is386 s.tr.base.toNat i := by
      unfold State.tssField State.tableVal
      simp only [way2.tablePlace]
      rfl
    rw [later, now]
    exact fields i hi
  · rw [read4 _ h.apart, mark3, read2 _ fun e => (h.saved _ e).1 rfl, at1]
    cases kind <;> rfl
  · rw [mark4, read3 _ h.apart.symm, read2 _ fun e => (h.saved _ e).2 rfl, off1 _ h.apart.symm]
    cases kind <;> rfl
  · rw [read4 p hp2, read3 p hp1, read2 p hs, off1 p hp1]

end Sys2Proof.Machine
end

section
/-! PROOFS. Entering a task: its fields read, the general registers and flags loaded, the back link written. -/
-- One declaration after the other: many proofs at once take more thread stacks than the memory limit allows.
set_option Elab.async false
namespace Sys2Proof.Machine

variable {s t u : State} {kind : SwitchKind} {sel : Word} {d : Descriptor} {is386 : Bool} {m m' : Memory}

/-! ### The general registers -/

theorem taskWord_mergeLow (old : Dword) (v : Dword) : low16 (mergeLow old (v.setWidth 16 : Word)) = low16 v := by
  unfold low16
  rw [mergeLow_low]

/-- LOADING a general register from a field. -/
theorem loadTaskReg_after (is386 : Bool) (r : Reg) (v : Dword) (s : State) :
    ∃ v' o, taskWord is386 v' = taskWord is386 v ∧
      loadTaskReg is386 r v s = .ok ((), { s with regs := s.regs.set r v', oracle := o }) := by
  unfold loadTaskReg
  cases is386 with
  | true => exact ⟨mergeLow (s.regs.get r) v, s.oracle, mergeLow_all _ _, rfl⟩
  | false =>
    by_cases wide : 3 ≤ s.level
    · refine ⟨_, s.oracle + 1, ?_, (congrFun (if_pos wide) s).trans rfl⟩
      show low16 (mergeLow _ _) = low16 v
      rw [mergeLow_all]
      exact congrArg (BitVec.setWidth 32) (slot_low _ (v.setWidth 16))
    · exact ⟨_, s.oracle, taskWord_mergeLow (s.regs.get r) v, (congrFun (if_neg wide) s).trans rfl⟩

/-- LOADING the general registers. -/
theorem loadTaskRegs_after (is386 : Bool) (f : Nat → Dword) (s : State) :
    ∃ g o, (∀ i, i < 8 → taskWord is386 (Gpr.get g (([.eax, .ecx, .edx, .ebx, .esp, .ebp, .esi, .edi] : List Reg).getD i .eax)) =
        taskWord is386 (f (i + 2))) ∧
      loadTaskRegs is386 f s = .ok ((), { s with regs := g, oracle := o }) := by
  choose v o low run using fun r v s => loadTaskReg_after is386 r v s
  refine ⟨_, _, ?_, (bind_ok (run _ _ _) _).trans ((bind_ok (run _ _ _) _).trans ((bind_ok (run _ _ _) _).trans
    ((bind_ok (run _ _ _) _).trans ((bind_ok (run _ _ _) _).trans ((bind_ok (run _ _ _) _).trans
    ((bind_ok (run _ _ _) _).trans (run _ _ _)))))))⟩
  intro i hi
  interval_cases i
  all_goals exact low _ _ _

/-! ### The fields -/

/-- The number of fields a TSS has from its instruction pointer to its LDTR. -/
def fieldCount (is386 : Bool) : Nat := if is386 then 17 else 15

/-- The fields of a TSS can be read. -/
def State.tssReadable (s : State) (is386 : Bool) (base : Nat) : Prop :=
  if is386 then s.tableOk .read (base + 32) 72 = true else s.tableOk .read (base + 14) 30 = true

/-- Memory `m` holds this TSS as the state does. -/
def State.tssKept (s : State) (is386 : Bool) (base : Nat) (m : Memory) : Prop :=
  ∀ k, k < (if is386 then 104 else 44) → Memory.read m (s.tablePlace base k) = Memory.read s.mem (s.tablePlace base k)

theorem State.tssReadable.fields {base : Nat} (h : s.tssReadable is386 base) :
    s.tableOk .read (base + tssRegsAt is386) (fieldSize is386 * fieldCount is386) = true := by
  unfold State.tssReadable at h
  cases is386
  · exact h
  · exact tableOk_part (i := 0) h (by decide)

/-- READING the fields of a TSS. -/
theorem readFields {base : Nat} (way : s.TableWay t) (wf : Memory.wf t.mem = true) (h : s.tssReadable is386 base)
    (hm : s.tssKept is386 base t.mem) :
    ∃ bs, sysRead (base + tssRegsAt is386) (fieldSize is386 * fieldCount is386) t = .ok (bs, t) ∧
      ∀ i, i < fieldCount is386 → fieldOf (fieldSize is386) bs i = s.tssField is386 base i := by
  refine ⟨_, sysRead_flat (way.tableOk wf h.fields), fun i hi => ?_⟩
  have inside : fieldSize is386 * (i + 1) ≤ fieldSize is386 * fieldCount is386 := Nat.mul_le_mul_left _ hi
  rw [← fieldOf_tss s is386 base inside, way.tableBytes fun k hk => ?_]
  rw [tablePlace_add]
  refine hm _ ?_
  cases is386 <;> simp [tssRegsAt, fieldSize, fieldCount] at hk ⊢ <;> omega

theorem taskWord_tssField (s : State) (is386 : Bool) (base i : Nat) :
    taskWord is386 (s.tssField is386 base i) = s.tssField is386 base i := by
  cases is386
  · show low16 ((s.tableVal 16 (base + 14 + 2 * i)).setWidth 32) = (s.tableVal 16 (base + 14 + 2 * i)).setWidth 32
    have narrow : ((s.tableVal 16 (base + 14 + 2 * i)).setWidth 32 : Dword).setWidth 16 = s.tableVal 16 (base + 14 + 2 * i) := by
      rw [BitVec.setWidth_setWidth_of_le _ (by decide), BitVec.setWidth_eq]
    exact congrArg (BitVec.setWidth 32) narrow
  · rfl

/-- ENTERING a task: its registers and flags. -/
theorem enterTask_after (way : s.TableWay t) (wf : Memory.wf t.mem = true) (hpg : s.cr0.pg = false)
    (h : s.tssReadable (decide (8 ≤ dType d)) (dBase s.level d).toNat)
    (hm : s.tssKept (decide (8 ≤ dType d)) (dBase s.level d).toNat t.mem) :
    ∃ f g o, (∀ i, i < fieldCount (decide (8 ≤ dType d)) → f i = s.tssField (decide (8 ≤ dType d)) (dBase s.level d).toNat i) ∧
      s.tssHolds (decide (8 ≤ dType d)) (dBase s.level d).toNat g ∧
      enterTask kind s d t = .ok (f, { t with eip := f 0, flags := taskFlags kind (f 1) s.level, regs := g, oracle := o }) := by
  obtain ⟨bs, read, fields⟩ := readFields way wf h hm
  have level := way.level
  obtain ⟨g, o, regs, run⟩ := loadTaskRegs_after (decide (8 ≤ dType d)) (fieldOf (fieldSize (decide (8 ≤ dType d))) bs)
    { t with
      eip := fieldOf (fieldSize (decide (8 ≤ dType d))) bs 0
      flags := taskFlags kind (fieldOf (fieldSize (decide (8 ≤ dType d))) bs 1) t.level }
  refine ⟨_, g, o, fields, fun i hi => ?_, ?_⟩
  · rw [regs i hi, fields (i + 2) (by unfold fieldCount; split <;> omega), taskWord_tssField]
  · unfold enterTask
    refine (bind_ok (m := ite _ _ _) (congrFun (if_neg (by simp [hpg])) t) _).trans ((bind_ok read _).trans ?_)
    refine (modify_bind_apply _ _ _).trans ?_
    rw [← level]
    exact bind_ok run fun _ => pure (fieldOf (fieldSize (decide (8 ≤ dType d))) bs)

/-! ### The back link -/

/-- Bytes that were written. -/
theorem State.TableWrite.tableBytes {lin : Nat} {bs : List Byte} (h : s.TableWrite lin bs m m') :
    ({ s with mem := m' } : State).tableBytes lin bs.length = bs := by
  refine List.ext_getElem (by simp [State.tableBytes]) fun i h1 h2 => ?_
  simp only [State.tableBytes, List.getElem_map, List.getElem_range]
  exact h.bytes i h2

/-- The back link of a TSS names a task. -/
def State.linked (s : State) (is386 : Bool) (base : Nat) (sel : Word) : Prop :=
  if is386 then s.tableVal 32 base = sel.setWidth 32 else s.tableVal 16 base = sel

/-- The bytes of the back link. -/
def State.linkAt (s : State) (kind : SwitchKind) (is386 : Bool) (base p : Nat) : Prop :=
  kind = .nest ∧ ∃ k, k < (if is386 then 4 else 2) ∧ p = s.tablePlace base k

/-- WRITING the back link of a nested task, and showing the selectors of the new task. -/
theorem linkTask_after {f : Nat → Dword} (way : s.TableWay t) (wf : Memory.wf t.mem = true)
    (h : kind = .nest → s.tableOk .write (dBase s.level d).toNat (if decide (8 ≤ dType d) then 4 else 2) = true) :
    ∃ x, linkTask kind s d f t = .ok ((), (({ t with dr7 := t.dr7 &&& ~~~(0x155 : Dword) } : State).showTask
        (decide (8 ≤ dType d)) f).after x) ∧ Memory.wf x.mem = true ∧
      (kind = .nest → ({ s with mem := x.mem } : State).linked (decide (8 ≤ dType d)) (dBase s.level d).toNat s.tr.sel) ∧
      ∀ p, ¬s.linkAt kind (decide (8 ≤ dType d)) (dBase s.level d).toNat p → Memory.read x.mem p = Memory.read t.mem p := by
  unfold State.linkAt linkTask
  generalize (dBase s.level d).toNat = base at *
  generalize decide (8 ≤ dType d) = is386 at *
  by_cases nest : kind = .nest
  · have len := natBytes_length (if is386 then 4 else 2) s.tr.sel.toNat
    obtain ⟨x, run, -, -, write⟩ := sysWrite_after (bs := natBytes (if is386 then 4 else 2) s.tr.sel.toNat)
      (by rw [len]; exact way.tableOk wf (h nest)) (by rw [len]; split <;> simp)
    refine ⟨x, ?_, write.wf, fun _ => ?_, fun p hp => write.others p fun k hk e => hp ⟨nest, k, len ▸ hk, ?_⟩⟩
    · rw [if_pos nest]
      exact (bind_ok run _).trans rfl
    · have bytes := write.tableBytes
      have same : ({ s with mem := x.mem } : State).tableBytes base (if is386 then 4 else 2) =
          ({ t with mem := x.mem } : State).tableBytes base (if is386 then 4 else 2) :=
        List.map_congr_left fun k _ => by
          show Memory.read x.mem (s.tablePlace base k) = Memory.read x.mem (t.tablePlace base k)
          rw [way.tablePlace]
      rw [len, ← same] at bytes
      unfold State.linked
      cases is386
      · exact (congrArg (leValue 16) bytes).trans (leValue_valueBytes (w := 16) rfl s.tr.sel)
      · have wide : natBytes 4 s.tr.sel.toNat = valueBytes (s.tr.sel.setWidth 32) := by
          unfold valueBytes
          rw [BitVec.toNat_setWidth, Nat.mod_eq_of_lt (Nat.lt_of_lt_of_le s.tr.sel.isLt (by decide))]
        exact (congrArg (leValue 32) (bytes.trans wide)).trans (leValue_valueBytes (w := 32) rfl _)
    · rw [e, way.tablePlace]
  · refine ⟨t.trace, ?_, wf, fun e => absurd e nest, fun _ _ => rfl⟩
    rw [if_neg nest]
    rfl

end Sys2Proof.Machine
end

section
/-! PROOFS. Descriptors that may have been marked accessed meanwhile: what they give is the same. -/
-- One declaration after the other: many proofs at once take more thread stacks than the memory limit allows.
set_option Elab.async false
namespace Sys2Proof.Machine

variable {s t u : State} {d d' : Descriptor} {a : Nat} {as : List Nat} {m m' : Memory}

/-! ### Descriptors but for the A bit -/

/-- Two descriptors are the same but for the A bit. -/
def SameSegment (d d' : Descriptor) : Prop := ∀ i, i ≠ 40 → d'.getLsbD i = d.getLsbD i

namespace SameSegment
variable (h : SameSegment d d')
include h

theorem part {i n : Nat} (hi : 40 < i ∨ i + n ≤ 40) : d'.extractLsb' i n = d.extractLsb' i n := by
  ext j hj
  simp only [BitVec.getElem_extractLsb']
  exact h _ (by omega)

theorem accessBit {j : Nat} (hj : j ≠ 0) : (dAccess d').getLsbD j = (dAccess d).getLsbD j := by
  simp only [dAccess, BitVec.getLsbD_extractLsb']
  rw [h _ (by omega)]

theorem access : dAccess d' ||| 1 = dAccess d ||| 1 := by
  ext j hj
  rw [BitVec.getElem_or, BitVec.getElem_or]
  by_cases zero : j = 0
  · subst zero
    simp
  · have bit := h.accessBit zero
    rw [BitVec.getLsbD_eq_getElem hj, BitVec.getLsbD_eq_getElem hj] at bit
    rw [bit]

theorem dpl : dDpl d' = dDpl d := by
  unfold dDpl accDpl
  congr 1
  ext j hj
  simp only [BitVec.getElem_extractLsb']
  exact h.accessBit (by omega)

theorem present : dPresent d' = dPresent d := h.accessBit (by decide)

theorem code : dIsCode d' = dIsCode d := by
  unfold dIsCode accIsCode
  rw [h.accessBit (by decide), h.accessBit (by decide)]

theorem conforming : dConforming d' = dConforming d := by
  unfold dConforming accBit2
  rw [h.code, h.accessBit (by decide)]

theorem readable : dIsReadable d' = dIsReadable d := by
  unfold dIsReadable accIsCode accIsData accBit1
  rw [h.accessBit (j := 4) (by decide), h.accessBit (j := 3) (by decide), h.accessBit (j := 1) (by decide)]

theorem writableData : dIsWritableData d' = dIsWritableData d := by
  unfold dIsWritableData accIsData accBit1
  rw [h.accessBit (j := 4) (by decide), h.accessBit (j := 3) (by decide), h.accessBit (j := 1) (by decide)]

theorem base (level : Nat) : dBase level d' = dBase level d := by
  unfold dBase
  rw [h.part (by omega), h.part (by omega)]

theorem gran (level : Nat) : dGran level d' = dGran level d := by
  unfold dGran
  rw [h 55 (by decide)]

theorem limit (level : Nat) : dLimit level d' = dLimit level d := by
  unfold dLimit
  rw [h.gran, h.part (by omega), h.part (by omega)]

/-- THE HIDDEN PART of a segment register does not depend on the A bit. -/
theorem hidden (level : Nat) (sel : Word) : SegReg.ofDescriptor level sel d' = SegReg.ofDescriptor level sel d := by
  unfold SegReg.ofDescriptor
  rw [h.base, h.limit, h.access, h.gran]
  unfold dBig dAvl
  rw [h 54 (by decide), h 52 (by decide)]

end SameSegment

/-! ### Tables some of whose descriptors were marked -/

/-- A bit of a value in a table. -/
theorem tableVal_bit (s : State) (a : Nat) {i : Nat} (hi : i < 64) :
    (s.tableVal 64 a).getLsbD i = (Memory.read s.mem (s.tablePlace a (i / 8))).getLsbD (i % 8) := by
  have byte := leValue_byte (w := 64) (s.tableBytes a 8) (i / 8) (by simp [State.tableBytes]; omega)
    (by simp [State.tableBytes])
  have bit := congrArg (fun b : Byte => b.getLsbD (i % 8)) byte
  simp only [BitVec.getLsbD_extractLsb'] at bit
  rw [Nat.div_add_mod] at bit
  simp only [State.tableBytes, List.getElem_map, List.getElem_range] at bit
  rw [← bit]
  simp [Nat.mod_lt]
  rfl

/-- Memory holds the descriptors at these addresses, some of them marked accessed. -/
def State.keepsTables (s : State) (as : List Nat) (m : Memory) : Prop :=
  ∀ a, a ∈ as → ∀ k, k < 8 → Memory.read m (s.tablePlace a k) = Memory.read s.mem (s.tablePlace a k) ∨
    k = 5 ∧ Memory.read m (s.tablePlace a k) = Memory.read s.mem (s.tablePlace a k) ||| 1

/-- Marking one of these descriptors touches no byte of another but its access byte. -/
def State.marksApart (s : State) (as : List Nat) : Prop :=
  ∀ a, a ∈ as → ∀ a', a' ∈ as → ∀ k, k < 8 → s.tablePlace a' k = s.tablePlace (a + 5) 0 → k = 5

/-- A descriptor read from such memory. -/
theorem State.keepsTables.descriptor (h : s.keepsTables as m) (ha : a ∈ as) :
    SameSegment (s.tableVal 64 a) (({ s with mem := m } : State).tableVal 64 a) := by
  intro i hi
  by_cases inside : i < 64
  · rw [tableVal_bit _ a inside, tableVal_bit _ a inside]
    show (Memory.read m (s.tablePlace a (i / 8))).getLsbD (i % 8) = _
    obtain old | ⟨five, old⟩ := h a ha (i / 8) (by omega)
    · rw [old]
    · have one : (1 : Byte).getLsbD (i % 8) = false := by
        have low : i % 8 ≠ 0 := by omega
        simp [low]
      rw [old, BitVec.getLsbD_or, one, Bool.or_false]
  · rw [BitVec.getLsbD_of_ge _ _ (by omega), BitVec.getLsbD_of_ge _ _ (by omega)]

end Sys2Proof.Machine
end

section
/-! PROOFS. LDTR and the segment registers of the incoming task. -/
-- One declaration after the other: many proofs at once take more thread stacks than the memory limit allows.
set_option Elab.async false
namespace Sys2Proof.Machine

variable {s t u v : State} {l : LdtReg} {d : Descriptor} {a : Nat} {as ps qs : List Nat} {m m' m'' : Memory} {sel : Word}

/-! ### Marking several descriptors -/

/-- Memory `m'` is `m` with the accessed bit set in the bytes at these addresses. -/
structure MarkedAll (ps : List Nat) (m m' : Memory) : Prop where
  others : ∀ x, x ∉ ps → Memory.read m' x = Memory.read m x
  marks : ∀ p, p ∈ ps → Memory.read m' p = Memory.read m p ||| 1

theorem MarkedAll.nil (m : Memory) : MarkedAll [] m m := ⟨fun _ _ => rfl, fun _ h => absurd h (by simp)⟩

theorem MarkedAt.all {p : Nat} (h : MarkedAt m m' p) : MarkedAll [p] m m' :=
  ⟨fun x hx => h.1 x (by simpa using hx), fun q hq => by rw [List.mem_singleton.1 hq]; exact h.2⟩

theorem MarkedAll.trans (h : MarkedAll ps m m') (k : MarkedAll qs m' m'') : MarkedAll (ps ++ qs) m m'' := by
  refine ⟨fun x hx => ?_, fun p hp => ?_⟩
  · rw [List.mem_append, not_or] at hx
    rw [k.others x hx.2, h.others x hx.1]
  · by_cases second : p ∈ qs
    · rw [k.marks p second]
      by_cases first : p ∈ ps
      · rw [h.marks p first, BitVec.or_assoc, BitVec.or_self]
      · rw [h.others p first]
    · rw [k.others p second]
      exact h.marks p ((List.mem_append.1 hp).resolve_right second)

/-- Addresses of access bytes of these descriptors. -/
def State.accessBytes (s : State) (as ps : List Nat) : Prop := ∀ p, p ∈ ps → ∃ a, a ∈ as ∧ p = s.tablePlace (a + 5) 0

theorem State.keepsTables.markAll (h : s.keepsTables as m) (apart : s.marksApart as) (hp : s.accessBytes as ps)
    (marked : MarkedAll ps m m') : s.keepsTables as m' := by
  intro a' ha' k hk
  by_cases same : s.tablePlace a' k ∈ ps
  · obtain ⟨a, ha, at_⟩ := hp _ same
    obtain rfl := apart a ha a' ha' k hk at_
    refine .inr ⟨rfl, ?_⟩
    rw [marked.marks _ same]
    obtain old | ⟨-, old⟩ := h a' ha' 5 hk
    · rw [old]
    · rw [old, BitVec.or_assoc, BitVec.or_self]
  · rw [marked.others _ same]
    exact h a' ha' k hk

/-! ### The state in which a task is loaded -/

/-- State `t` sees the tables of `s`, with LDTR `l`, but for descriptors marked accessed. -/
structure State.Sees (s : State) (l : LdtReg) (as : List Nat) (t : State) : Prop where
  way : s.TableWay t
  wf : Memory.wf t.mem = true
  gdtr : t.gdtr = s.gdtr
  ldtr : t.ldtr = l
  tables : s.keepsTables as t.mem

/-- From `t` to `u` segment registers were loaded, and the descriptors at `ps` marked. -/
structure Loaded (s : State) (as ps : List Nat) (t u : State) : Prop where
  same : u = (t.withSegsOf u).after u.trace
  wf : Memory.wf u.mem = true
  marked : MarkedAll ps t.mem u.mem
  access : s.accessBytes as ps

theorem Loaded.refl (wf : Memory.wf t.mem = true) : Loaded s as [] t t := ⟨rfl, wf, .nil _, fun _ h => absurd h (by simp)⟩

theorem Loaded.trans (h : Loaded s as ps t u) (k : Loaded s as qs u v) : Loaded s as (ps ++ qs) t v := by
  refine ⟨?_, k.wf, h.marked.trans k.marked, fun p hp => (List.mem_append.1 hp).elim (h.access p) (k.access p)⟩
  have last := k.same
  rw [h.same] at last
  exact last

theorem State.Sees.loaded (h : s.Sees l as t) (apart : s.marksApart as) (k : Loaded s as ps t u) : s.Sees l as u := by
  have same := k.same
  refine ⟨⟨?_, h.way.pe, ?_, ?_⟩, k.wf, ?_, ?_, h.tables.markAll apart k.access k.marked⟩
  · exact (congrArg State.cfg same).trans h.way.cfg
  · exact (congrArg (fun s : State => s.cr0.pe) same).trans h.way.pe'
  · exact (congrArg (fun s : State => s.cr0.pg) same).trans h.way.pg
  · exact (congrArg State.gdtr same).trans h.gdtr
  · exact (congrArg State.ldtr same).trans h.ldtr

/-- FINDING a descriptor of the task. -/
theorem State.Sees.finds (h : s.Sees l as t) (hn : ({ s with ldtr := l } : State).names sel d a) (ha : a ∈ as) :
    ∃ d', t.finds sel d' a ∧ SameSegment d d' ∧ t.tableOk .write (a + 5) 1 = true := by
  obtain ⟨⟨addr, readable, val⟩, writable⟩ := hn
  have addr' : t.descAddr sel = ({ s with ldtr := l } : State).descAddr sel := by
    unfold State.descAddr
    rw [h.gdtr, h.ldtr]
  have old : s.tableVal 64 a = d := val
  have readable' : s.tableOk .read a 8 = true := readable
  have writable' : s.tableOk .write (a + 5) 1 = true := writable
  have seen : SameSegment (s.tableVal 64 a) (t.tableVal 64 a) := by
    have bytes : ({ s with mem := t.mem } : State).tableVal 64 a = t.tableVal 64 a :=
      (TableWay.tableVal (s := { s with mem := t.mem }) ⟨h.way.cfg, h.way.pe, h.way.pe', h.way.pg⟩ fun _ _ => rfl).symm
    rw [← bytes]
    exact h.tables.descriptor ha
  rw [old] at seen
  exact ⟨_, ⟨addr'.trans addr, h.way.tableOk h.wf readable', rfl⟩, seen, h.way.tableOk h.wf writable'⟩

/-! ### Single registers -/

theorem inNewTask_ok {m : M Unit} (h : m t = .ok ((), u)) : inNewTask m t = .ok ((), u) := by
  unfold inNewTask
  rw [h]

/-- One descriptor marked. -/
theorem Loaded.of_mark {x : Trace} (same : u = (t.withSegsOf u).after u.trace) (hu : u.mem = x.mem)
    (wf : Memory.wf x.mem = true) (ha : a ∈ as) (marked : MarkedAt t.mem x.mem (s.tablePlace (a + 5) 0)) :
    Loaded s as [s.tablePlace (a + 5) 0] t u :=
  ⟨same, hu ▸ wf, hu ▸ marked.all, fun _ hp => ⟨a, ha, List.mem_singleton.1 hp⟩⟩

/-- The descriptor of a selector that is marked when it is loaded. -/
def State.markOf (s : State) (sel : Word) (a : Nat) : List Nat := if selNull sel then [] else [s.tablePlace (a + 5) 0]

/-- A data segment register loaded from a selector and its descriptor. -/
def SegReg.loaded (g : SegReg) (level : Nat) (sel : Word) (d : Descriptor) : SegReg :=
  if selNull sel then g.loadNull sel else SegReg.ofDescriptor level sel d

theorem setSeg_withSegsOf (t : State) (r : SReg) (g : SegReg) (x : Trace) :
    (t.setSeg r g).after x = (t.withSegsOf ((t.setSeg r g).after x)).after ((t.setSeg r g).after x).trace := by
  cases r <;> rfl

/-- LOADING a data segment register. -/
theorem loadDataSeg_task {r : SReg} {level : Nat} (h : s.Sees l as t) (hc : t.cpl = level)
    (hs : selNull sel = true ∨ (({ s with ldtr := l } : State).names sel d a ∧ dIsReadable d = true ∧ dPresent d = true ∧
      (dConforming d = true ∨ max level (selRpl sel) ≤ dDpl d))) (ha : selNull sel = false → a ∈ as) :
    ∃ x, inNewTask (loadDataSeg 10 r sel) t = .ok ((), (t.setSeg r ((t.seg r).loaded s.level sel d)).after x) ∧
      Loaded s as (s.markOf sel a) t ((t.setSeg r ((t.seg r).loaded s.level sel d)).after x) := by
  unfold SegReg.loaded State.markOf
  by_cases null : selNull sel = true
  · rw [if_pos null, if_pos null]
    refine ⟨t.trace, inNewTask_ok ?_, setSeg_withSegsOf _ _ _ _, h.wf, .nil _, fun _ hp => absurd hp (by simp)⟩
    unfold loadDataSeg
    rw [if_pos null]
    cases r <;> rfl
  · rw [if_neg null, if_neg null]
    obtain ⟨named, readable, present, level_⟩ := hs.resolve_left null
    obtain ⟨d', found, seen, writable⟩ := h.finds named (ha (by simpa using null))
    obtain ⟨x, mark, -, -, wf, marked⟩ := markAccessed_after writable (finds_access found)
    rw [h.way.tablePlace] at marked
    refine ⟨x, inNewTask_ok ?_, .of_mark (setSeg_withSegsOf _ _ _ _) rfl wf (ha (by simpa using null)) marked⟩
    have allowed : (dConforming d' || decide (max t.cpl (selRpl sel) ≤ dDpl d')) = true := by
      rw [seen.conforming, seen.dpl, hc]
      simpa using level_
    unfold loadDataSeg
    rw [if_neg null, bind_ok (readDescriptor_finds found _)]
    refine (get_bind_apply _ _).trans ((check_bind_ok (seen.readable.trans readable) _ _ _).trans
      ((check_bind_ok allowed _ _ _).trans ((check_bind_ok (seen.present.trans present) _ _ _).trans ?_)))
    rw [bind_ok mark, ← h.way.level, ← seen.hidden]
    cases r <;> rfl

/-- LOADING SS. -/
theorem loadStackSeg_task {level : Nat} (h : s.Sees l as t)
    (hs : ({ s with ldtr := l } : State).findsStack level sel d a) (ha : a ∈ as) :
    ∃ x, inNewTask (loadStackSeg 10 level sel) t =
        .ok ((), ({ t with ss := SegReg.ofDescriptor s.level sel d } : State).after x) ∧
      Loaded s as [s.tablePlace (a + 5) 0] t (({ t with ss := SegReg.ofDescriptor s.level sel d } : State).after x) := by
  obtain ⟨null, named, rpl, data, dpl, present⟩ := hs
  obtain ⟨d', found, seen, writable⟩ := h.finds named ha
  obtain ⟨x, run, -, wf, marked⟩ := loadStackSeg_after (s := t) (vec := 10) (cpl := level) (ds := d')
    ⟨null, ⟨found, writable⟩, rpl, seen.writableData.trans data, seen.dpl.trans dpl, seen.present.trans present⟩
  rw [h.way.tablePlace] at marked
  refine ⟨x, inNewTask_ok (run.trans ?_), .of_mark rfl rfl wf ha marked⟩
  unfold State.onStack
  rw [seen.hidden, h.way.level]

/-- LOADING CS. -/
theorem loadTaskCs_task (h : s.Sees l as t) (hs : ({ s with ldtr := l } : State).taskSeg .cs (selRpl sel) sel d a)
    (ha : a ∈ as) :
    ∃ x, inNewTask (loadTaskCs sel) t =
        .ok ((), ({ t with cs := SegReg.ofDescriptor s.level sel d, resetLatch := false } : State).after x) ∧
      Loaded s as [s.tablePlace (a + 5) 0] t
        (({ t with cs := SegReg.ofDescriptor s.level sel d, resetLatch := false } : State).after x) := by
  obtain ⟨null, named, code, present, level⟩ := hs
  obtain ⟨d', found, seen, writable⟩ := h.finds named ha
  obtain ⟨x, run, -, wf, marked⟩ := loadCs_after (sel := sel) (cpl := selRpl sel) writable (finds_access found)
  rw [h.way.tablePlace] at marked
  refine ⟨x, inNewTask_ok ?_, .of_mark rfl rfl wf ha marked⟩
  have allowed : (if dConforming d' then decide (dDpl d' ≤ selRpl sel) else decide (dDpl d' = selRpl sel)) = true := by
    rw [seen.conforming, seen.dpl]
    split at level <;> simp_all
  unfold loadTaskCs
  rw [check_bind_ok (by simp [null]), bind_ok (readDescriptor_finds found _)]
  refine (check_bind_ok (seen.code.trans code) _ _ _).trans ((check_bind_ok allowed _ _ _).trans
    ((check_bind_ok (seen.present.trans present) _ _ _).trans (run.trans ?_)))
  unfold State.inCode
  rw [selWithRpl_self, seen.hidden, h.way.level]

/-! ### All registers -/

theorem loaded_inTask (g : SegReg) (level : Nat) (sel : Word) (d : Descriptor) :
    (g.loaded level sel d).inTask level false sel d := by
  unfold SegReg.loaded SegReg.inTask
  rw [if_neg Bool.false_ne_true]
  split
  · exact ⟨rfl, rfl⟩
  · exact ⟨rfl, rfl, rfl, rfl, rfl, rfl, rfl⟩

theorem ofDescriptor_inTask (level : Nat) {sel : Word} (h : selNull sel = false) (d : Descriptor) :
    (SegReg.ofDescriptor level sel d).inTask level false sel d := by
  unfold SegReg.inTask
  rw [if_neg Bool.false_ne_true, if_neg (by simp [h])]
  exact ⟨rfl, rfl, rfl, rfl, rfl, rfl, rfl⟩

theorem v86_inTask (level : Nat) (sel : Word) (d : Descriptor) : (SegReg.v86 sel).inTask level true sel d := by
  unfold SegReg.inTask
  rw [if_pos rfl]
  exact ⟨rfl, rfl, v86_base sel, rfl⟩

theorem mem_markOf {p : Nat} : p ∈ s.markOf sel a ↔ selNull sel = false ∧ p = s.tablePlace (a + 5) 0 := by
  unfold State.markOf
  split <;> simp_all

theorem markOf_named (h : selNull sel = false) : s.markOf sel a = [s.tablePlace (a + 5) 0] := by
  unfold State.markOf
  rw [if_neg (by simp [h])]

/-- The descriptors of a task's segments are marked. -/
def State.taskMarks (s : State) (sels : SReg → Word) (segs : SReg → Descriptor × Nat) : List Nat :=
  s.markOf (sels .cs) (segs .cs).2 ++ (s.markOf (sels .ss) (segs .ss).2 ++ (s.markOf (sels .ds) (segs .ds).2 ++
    (s.markOf (sels .es) (segs .es).2 ++ (s.markOf (sels .fs) (segs .fs).2 ++ s.markOf (sels .gs) (segs .gs).2))))

theorem mem_taskMarks {sels : SReg → Word} {segs : SReg → Descriptor × Nat} {p : Nat} : p ∈ s.taskMarks sels segs ↔
    ∃ g, selNull (sels g) = false ∧ p = s.tablePlace ((segs g).2 + 5) 0 := by
  unfold State.taskMarks
  simp only [List.mem_append, mem_markOf]
  constructor
  · rintro (h | h | h | h | h | h)
    all_goals exact ⟨_, h⟩
  · rintro ⟨g, h⟩
    cases g <;> simp [h]

theorem cpl_of_cs {level : Nat} (hpe : t.cr0.pe = true) (hvm : t.flags.vm = false)
    (hcs : t.cs = SegReg.ofDescriptor level sel d) : t.cpl = selRpl sel := by
  have rpl := selWithRpl_level sel (selRpl_lt sel)
  rw [selWithRpl_self] at rpl
  unfold State.cpl
  rw [hpe, hvm, hcs]
  exact rpl

section
variable {sels : SReg → Word} {segs : SReg → Descriptor × Nat} {is386 : Bool} (apart : s.marksApart as)
  (at_ : ∀ g, selNull (sels g) = false → (segs g).2 ∈ as)
  (fits : ∀ g, ({ s with ldtr := l } : State).taskSeg g (selRpl (sels .cs)) (sels g) (segs g).1 (segs g).2)
include apart at_ fits

/-- LOADING FS and GS, which an 80286 TSS does not hold. -/
theorem loadExtraSegs_after (h : s.Sees l as t) (hc : t.cpl = selRpl (sels .cs))
    (old : is386 = false → (sels .fs = 0 ∧ t.fs.sel = 0 ∧ t.fs.valid = false) ∧ sels .gs = 0 ∧ t.gs.sel = 0 ∧ t.gs.valid = false) :
    ∃ u, (if is386 then inNewTask (loadDataSeg 10 .fs (sels .fs)) >>= fun _ => inNewTask (loadDataSeg 10 .gs (sels .gs))
        else pure ()) t = .ok ((), u) ∧
      Loaded s as (s.markOf (sels .fs) (segs .fs).2 ++ s.markOf (sels .gs) (segs .gs).2) t u ∧
      u = ({ t with fs := u.fs, gs := u.gs } : State).after u.trace ∧
      u.fs.inTask s.level false (sels .fs) (segs .fs).1 ∧ u.gs.inTask s.level false (sels .gs) (segs .gs).1 := by
  cases is386 with
  | true =>
    obtain ⟨x, run1, load1⟩ := loadDataSeg_task (r := .fs) h hc (fits .fs) (at_ .fs)
    have h1 := h.loaded apart load1
    obtain ⟨y, run2, load2⟩ := loadDataSeg_task (r := .gs) h1 hc (fits .gs) (at_ .gs)
    exact ⟨_, (congrFun (if_pos rfl) _).trans ((bind_ok run1 _).trans run2), load1.trans load2, rfl, loaded_inTask _ _ _ _,
      loaded_inTask _ _ _ _⟩
  | false =>
    obtain ⟨⟨fs, fsel, fvalid⟩, gs, gsel, gvalid⟩ := old rfl
    have null : selNull 0#16 = true := by decide
    have none : s.markOf (sels .fs) (segs .fs).2 ++ s.markOf (sels .gs) (segs .gs).2 = [] := by
      simp [State.markOf, fs, gs, null]
    refine ⟨t, rfl, none ▸ .refl h.wf, rfl, ?_, ?_⟩
    all_goals
      unfold SegReg.inTask
      simp [fs, gs, null, fsel, fvalid, gsel, gvalid]

/-- LOADING the segment registers of a task in protected mode. -/
theorem loadTaskSegs_prot (h : s.Sees l as t) (hvm : t.flags.vm = false) (hsel : ∀ g, (t.seg g).sel = sels g)
    (old : is386 = false → (sels .fs = 0 ∧ t.fs.valid = false) ∧ sels .gs = 0 ∧ t.gs.valid = false) :
    ∃ u, loadTaskSegs is386 t = .ok ((), u) ∧ Loaded s as (s.taskMarks sels segs) t u ∧ u.resetLatch = false ∧
      ∀ g, (u.seg g).inTask s.level false (sels g) (segs g).1 := by
  obtain ⟨csNamed, -⟩ := id (fits .cs)
  obtain ⟨ssNamed, -⟩ := id (fits .ss)
  obtain ⟨x1, run1, load1⟩ := loadTaskCs_task h (fits .cs) (at_ .cs csNamed)
  have h1 := h.loaded apart load1
  obtain ⟨x2, run2, load2⟩ := loadStackSeg_task h1 (fits .ss) (at_ .ss ssNamed)
  have h2 := h1.loaded apart load2
  have cpl2 := cpl_of_cs (t := ({ (({ t with cs := SegReg.ofDescriptor s.level (sels .cs) (segs .cs).1, resetLatch := false } :
    State).after x1) with ss := SegReg.ofDescriptor s.level (sels .ss) (segs .ss).1 } : State).after x2) h2.way.pe' hvm rfl
  obtain ⟨x3, run3, load3⟩ := loadDataSeg_task (r := .ds) h2 cpl2 (fits .ds) (at_ .ds)
  have h3 := h2.loaded apart load3
  obtain ⟨x4, run4, load4⟩ := loadDataSeg_task (r := .es) h3 cpl2 (fits .es) (at_ .es)
  have h4 := h3.loaded apart load4
  obtain ⟨u, run5, load5, same, fs, gs⟩ := loadExtraSegs_after (is386 := is386) apart at_ fits h4 cpl2 fun e => by
    obtain ⟨⟨fs, fvalid⟩, gs, gvalid⟩ := old e
    exact ⟨⟨fs, (hsel .fs).trans fs, fvalid⟩, gs, (hsel .gs).trans gs, gvalid⟩
  have ds := loaded_inTask t.ds s.level (sels .ds) (segs .ds).1
  have es := loaded_inTask t.es s.level (sels .es) (segs .es).1
  refine ⟨u, ?_, ?_, ?_, fun g => ?_⟩
  · unfold loadTaskSegs
    rw [get_bind_apply, if_neg (by simp [hvm])]
    rw [show t.cs.sel = sels .cs from hsel .cs, show t.ss.sel = sels .ss from hsel .ss,
      show t.ds.sel = sels .ds from hsel .ds, show t.es.sel = sels .es from hsel .es,
      show t.fs.sel = sels .fs from hsel .fs, show t.gs.sel = sels .gs from hsel .gs]
    exact (bind_ok run1 _).trans ((bind_ok run2 _).trans ((bind_ok run3 _).trans ((bind_ok run4 _).trans run5)))
  · have all := load1.trans (load2.trans (load3.trans (load4.trans load5)))
    unfold State.taskMarks
    rw [markOf_named csNamed, markOf_named ssNamed]
    exact all
  · rw [same]
    rfl
  · cases g with
    | fs => exact fs
    | gs => exact gs
    | es => rw [same]; exact es
    | cs => rw [same]; exact ofDescriptor_inTask _ csNamed _
    | ss => rw [same]; exact ofDescriptor_inTask _ ssNamed _
    | ds => rw [same]; exact ds

end

end Sys2Proof.Machine
end

section
/-! PROOFS. LDTR of the incoming task, and a whole switch. -/
-- One declaration after the other: many proofs at once take more thread stacks than the memory limit allows.
set_option Elab.async false
namespace Sys2Proof.Machine

variable {s t u v : State} {kind : SwitchKind} {l : LdtReg} {d : Descriptor} {a : Nat} {as ps : List Nat} {m : Memory}
  {sel : Word} {is386 : Bool} {sels : SReg → Word} {segs : SReg → Descriptor × Nat}

/-! ### LDTR -/

/-- Memory holds the descriptors at these addresses unchanged. -/
def State.sameTables (s : State) (as : List Nat) (m : Memory) : Prop :=
  ∀ a, a ∈ as → ∀ k, k < 8 → Memory.read m (s.tablePlace a k) = Memory.read s.mem (s.tablePlace a k)

/-- LOADING LDTR. -/
theorem loadTaskLdt_after (way : s.TableWay t) (wf : Memory.wf t.mem = true) (hg : t.gdtr = s.gdtr)
    (hl : t.ldtr = { s.ldtr with sel := sel, valid := false }) (h : s.taskLdt sel l as) (hm : s.sameTables as t.mem) :
    loadTaskLdt sel t = .ok ((), { t with ldtr := l }) := by
  unfold State.taskLdt at h
  unfold loadTaskLdt
  by_cases null : selNull sel = true
  · rw [if_pos null] at h
    rw [if_pos null, h]
    show Except.ok ((), { t with ldtr := { t.ldtr with sel := sel, valid := false } }) = _
    rw [hl]
  · rw [if_neg null] at h
    obtain ⟨d, a, ha, shared, found, sys, type, present, rfl⟩ := h
    have addr : t.descAddr sel = s.descAddr sel := by
      unfold State.descAddr
      rw [shared, hg]
      rfl
    rw [if_neg null, check_bind_ok (by simp [shared]), bind_ok (readDescriptor_finds (way.finds found addr wf (hm a ha)) _)]
    refine (check_bind_ok (by simp [sys, type, present]) _ _ _).trans ?_
    rw [← way.level]
    rfl

/-- The selectors the fields give are those of the TSS. -/
theorem loadTaskHidden_after {f : Nat → Dword} (apart : s.marksApart as) (way : s.TableWay t)
    (wf : Memory.wf t.mem = true) (hg : t.gdtr = s.gdtr) (hf : (f (if is386 then 16 else 14)).setWidth 16 = sel)
    (hl : t.ldtr = { s.ldtr with sel := sel, valid := false }) (h : s.taskLdt sel l as) (hm : s.sameTables as t.mem)
    (hsel : ∀ g, (t.seg g).sel = sels g)
    (old : is386 = false → (sels .fs = 0 ∧ t.fs.valid = false) ∧ sels .gs = 0 ∧ t.gs.valid = false)
    (hs : t.flags.vm = false → ∀ g, (selNull (sels g) = false → (segs g).2 ∈ as) ∧
      ({ s with ldtr := l } : State).taskSeg g (selRpl (sels .cs)) (sels g) (segs g).1 (segs g).2) :
    ∃ u ps, loadTaskHidden is386 f t = .ok ((), u) ∧ Loaded s as ps { t with ldtr := l } u ∧ u.resetLatch = false ∧
      (∀ g, (u.seg g).inTask s.level t.flags.vm (sels g) (segs g).1) ∧
      ∀ p, p ∈ ps ↔ ∃ g, t.flags.vm = false ∧ selNull (sels g) = false ∧ p = s.tablePlace ((segs g).2 + 5) 0 := by
  have ldt := inNewTask_ok (loadTaskLdt_after way wf hg hl h hm)
  have sees : s.Sees l as { t with ldtr := l } := ⟨⟨way.cfg, way.pe, way.pe', way.pg⟩, wf, hg, rfl,
    fun a ha k hk => .inl (hm a ha k hk)⟩
  unfold loadTaskHidden
  rw [hf, bind_ok ldt]
  cases vm : t.flags.vm with
  | true =>
    refine ⟨{ t with
      ldtr := l, es := SegReg.v86 (sels .es), cs := SegReg.v86 (sels .cs), ss := SegReg.v86 (sels .ss)
      ds := SegReg.v86 (sels .ds), fs := SegReg.v86 (sels .fs), gs := SegReg.v86 (sels .gs), resetLatch := false }, [], ?_,
      ⟨rfl, wf, .nil _, fun _ hp => absurd hp (by simp)⟩, rfl, fun g => by cases g <;> exact v86_inTask _ _ _, by simp⟩
    unfold loadTaskSegs
    rw [get_bind_apply, if_pos (show ({ t with ldtr := l } : State).flags.vm = true from vm), ← hsel .es, ← hsel .cs,
      ← hsel .ss, ← hsel .ds, ← hsel .fs, ← hsel .gs]
    rfl
  | false =>
    obtain ⟨u, run, load, latch, shown⟩ := loadTaskSegs_prot (is386 := is386) apart (fun g => (hs vm g).1) (fun g => (hs vm g).2)
      sees vm hsel old
    exact ⟨u, _, run, load, latch, shown, fun p => mem_taskMarks.trans (by simp)⟩

end Sys2Proof.Machine
end

section
/-! PROOFS. The start of the incoming task: the error word pushed, the target checked, the debug trap. -/
-- One declaration after the other: many proofs at once take more thread stacks than the memory limit allows.
set_option Elab.async false
namespace Sys2Proof.Machine

variable {s t u v : State} {w base : Nat} {is386 : Bool}

/-! ### One push -/

theorem touch_taskSwitch (s : State) (r : SReg) (k : AccessKind) (off : Dword) (n : Nat) :
    (s.touch r k off n).trap.taskSwitch = s.trap.taskSwitch := by
  unfold State.touch State.recordMatches
  split <;> rfl

/-- PUSHING a value, by what it leaves behind. -/
theorem push_after (v : BitVec w) (hw : w = 16 ∨ w = 32) (h : t.canPush w = true) :
    ∃ x, push v t = .ok ((), (t.withSp (t.pushAt w)).after x) ∧ x.trap.taskSwitch = t.trap.taskSwitch ∧
      Memory.wf x.mem = true ∧ t.stores (t.after x) .ss (t.pushAt w) v := by
  have wf := reaches_memoryOk h
  have run := pushItem_flat v h
  have trap := touch_taskSwitch t .ss .write (t.pushAt w) (w / 8)
  have same := (touch_same t .ss .write (t.pushAt w) (w / 8)).trans
    (put_same (t.touch .ss .write (t.pushAt w) (w / 8)) .ss (t.pushAt w) v)
  have w8 : w % 8 = 0 ∧ w / 8 ≤ 65536 := by rcases hw with rfl | rfl <;> decide
  have stored := put_stores w8.1 w8.2 .ss (t.pushAt w) v (touch_same t .ss .write (t.pushAt w) (w / 8)).way
    (touch_mem t .ss .write (t.pushAt w) (w / 8)) wf
  have kept : ((t.touch .ss .write (t.pushAt w) (w / 8)).put .ss (t.pushAt w) v).trap.taskSwitch = t.trap.taskSwitch := by
    rw [← trap]
    exact congrArg TrapRecord.taskSwitch (storeBytes_trap _ _ _)
  refine ⟨{ ((t.touch .ss .write (t.pushAt w) (w / 8)).put .ss (t.pushAt w) v).trace with oracle := t.oracle },
    run.trans ?_, kept, put_wf _ _ _ (by rw [touch_mem]; exact wf), stored⟩
  rw [setSp_eq]
  exact congrArg (fun u : State => Except.ok ((), u.withSp (t.pushAt w))) same.after

/-! ### The start -/

/-- The debug trap bit of a TSS. -/
def State.trapBit (s : State) (is386 : Bool) (base : Nat) : Bool :=
  is386 && (Memory.read s.mem (s.tablePlace (base + 100) 0)).getLsbD 0

/-- A task that runs. -/
def State.started (s : State) (is386 : Bool) (base : Nat) : State :=
  { s with trap := if s.trapBit is386 base then { s.trap with taskSwitch := true } else s.trap, stale := [] }

/-- BEGINNING a task, once its error word is pushed. -/
theorem beginTask_after (ok : t.targetOk t.eip = true) (h : is386 = true → t.tableOk .read (base + 100) 1 = true) :
    beginTask is386 base t = .ok ((), t.started is386 base) := by
  have target : inNewTask (get >>= fun s => check (s.targetOk s.eip) gp0) t = .ok ((), t) := by
    refine inNewTask_ok ?_
    rw [get_bind_apply, ok]
    rfl
  have bit : (if is386 then do
      let bs ← sysRead (base + 100) 1
      (if (leValue 8 bs).getLsbD 0 then modify fun s => { s with trap := { s.trap with taskSwitch := true } } else pure ())
      else pure () : M Unit) t = .ok ((), { t with
        trap := if t.trapBit is386 base then { t.trap with taskSwitch := true } else t.trap }) := by
    cases is386 with
    | false => rfl
    | true =>
      have byte : leValue 8 (t.tableBytes (base + 100) 1) = Memory.read t.mem (t.tablePlace (base + 100) 0) := by
        simp [State.tableBytes, leValue, leNat]
      unfold State.trapBit
      rw [if_pos rfl, bind_ok (sysRead_flat (h rfl)), byte, Bool.true_and]
      split <;> rfl
  exact (bind_ok target _).trans (bind_ok bit _)

/-- PUSHING the error word. -/
theorem pushTaskError_after (e : Word) (h : t.canPush (if is386 then 32 else 16) = true) :
    ∃ x, pushTaskError is386 (some e) t = .ok ((), (t.withSp (t.pushAt (if is386 then 32 else 16))).after x) ∧
      x.trap.taskSwitch = t.trap.taskSwitch ∧
      Memory.wf x.mem = true ∧ t.stores (t.after x) .ss (t.pushAt (if is386 then 32 else 16)) (e.setWidth (if is386 then 32 else 16)) := by
  cases is386 with
  | true =>
    obtain ⟨x, run, rest⟩ := push_after (e.setWidth 32 : BitVec 32) (.inr rfl) h
    exact ⟨x, inNewTask_ok run, rest⟩
  | false =>
    obtain ⟨x, run, rest⟩ := push_after (e.setWidth 16) (.inl rfl) h
    rw [BitVec.setWidth_eq] at run
    exact ⟨x, inNewTask_ok run, rest⟩

end Sys2Proof.Machine
end

section
/-! PROOFS. A whole task switch: what it needs, what it leaves in memory, what the incoming task starts as. -/
-- One declaration after the other: many proofs at once take more thread stacks than the memory limit allows.
set_option Elab.async false
namespace Sys2Proof.Machine

variable {s t u v : State} {kind : SwitchKind} {l : LdtReg} {d : Descriptor} {a : Nat} {as ps : List Nat} {m m1 m2 m3 : Memory}
  {sel : Word} {is386 : Bool} {segs : SReg → Descriptor × Nat}

/-! ### What a switch needs -/

/-- The bytes a switch reads of a TSS, or leaves alone. -/
def State.taken (s : State) (is386 : Bool) (base p : Nat) : Prop :=
  ∃ k, k < (if is386 then 104 else 44) ∧ p = s.tablePlace base k

/-- What a switch touches lies apart. -/
structure State.RoomApart (s : State) (kind : SwitchKind) (sel : Word) (is386 : Bool) (base : Nat) (as : List Nat) : Prop where
  link : kind = .nest → s.tableOk .write base (if is386 then 4 else 2) = true
  saved : ∀ p, s.savedAt p → ¬s.taken is386 base p
  mark : ¬s.taken is386 base (s.tablePlace (s.busyAt s.tr.sel) 0)
  mark' : ¬s.taken is386 base (s.tablePlace (s.busyAt sel) 0)
  tables : ∀ a, a ∈ as → ∀ k, k < 8 → s.tablePlace a k ≠ s.tablePlace (s.busyAt s.tr.sel) 0 ∧
    s.tablePlace a k ≠ s.tablePlace (s.busyAt sel) 0 ∧ ¬s.savedAt (s.tablePlace a k) ∧ ¬s.taken is386 base (s.tablePlace a k)
  marks : s.marksApart as

theorem switchRoom_split (hpe : s.cr0.pe = true) (hn : selNull sel = false) (h : s.switchRoom kind sel d as) :
    s.Leavable sel ∧ s.RoomApart kind sel (decide (8 ≤ dType d)) (dBase s.level d).toNat as := by
  obtain ⟨current, save, mark, mark', link, ne, saved, off, off', tables⟩ := h
  refine ⟨⟨hpe, current, hn, save, mark, mark', ne, fun p hp => ⟨(saved p hp).1, (saved p hp).2.1⟩⟩,
    ⟨fun nest => ?_, fun p hp => (saved p hp).2.2, off, off', fun a ha => (tables a ha).1, fun a ha => (tables a ha).2⟩⟩
  exact link nest

/-- CHECKING the selector and descriptor of a task. -/
theorem checkTask_after (h : s.taskFits kind sel d l segs as) : checkTask kind sel s = .ok ((d, s), s) := by
  obtain ⟨named, shared, ⟨a, found⟩, sys, type, level, present, long, -⟩ := h
  have usable : (match (generalizing := false) kind with
      | .iret => dHasType s.level d [3] [11]
      | .jump | .nest => dHasType s.level d [1] [9]) = true := by
    have new : 8 ≤ dType d → 3 ≤ s.level := fun h => level (decide_eq_true h)
    cases kind <;> refine dHasType_iff.2 ⟨sys, ?_⟩ <;> simp at type ⊢ <;> omega
  unfold checkTask
  rw [check_bind_ok (by simp [named, shared]), bind_ok (readDescriptor_finds found _)]
  exact (get_bind_apply _ _).trans <| (check_bind_ok usable _ _ _).trans ((check_bind_ok present _ _ _).trans ((check_bind_ok
    (decide_eq_true long) _ _ _).trans rfl))

/-! ### Memory -/

/-- Memory after a switch up to the marks of the new segments. -/
structure State.SwitchMem (s : State) (kind : SwitchKind) (sel : Word) (is386 : Bool) (base : Nat) (m1 m2 : Memory) : Prop where
  left : s.LeftMem kind sel m1
  linked : kind = .nest → ({ s with mem := m2 } : State).linked is386 base s.tr.sel
  others : ∀ p, ¬s.linkAt kind is386 base p → Memory.read m2 p = Memory.read m1 p

theorem taken_of_linkAt {base p : Nat} (h : s.linkAt kind is386 base p) : s.taken is386 base p := by
  obtain ⟨-, k, hk, at_⟩ := h
  refine ⟨k, ?_, at_⟩
  split at hk <;> simp_all <;> omega

theorem State.SwitchMem.outside {base p : Nat} (h : s.SwitchMem kind sel is386 base m1 m2)
    (ne : p ≠ s.tablePlace (s.busyAt s.tr.sel) 0) (ne' : p ≠ s.tablePlace (s.busyAt sel) 0) (saved : ¬s.savedAt p)
    (link : ¬s.linkAt kind is386 base p) : Memory.read m2 p = Memory.read s.mem p := by
  rw [h.others p link, h.left.others p ne ne' saved]

theorem State.SwitchMem.tables {base : Nat} (h : s.SwitchMem kind sel is386 base m1 m2)
    (room : s.RoomApart kind sel is386 base as) : s.sameTables as m2 := fun a ha k hk => by
  obtain ⟨ne, ne', saved, taken⟩ := room.tables a ha k hk
  exact h.outside ne ne' saved fun link => taken (taken_of_linkAt link)

theorem State.LeftMem.tss {base : Nat} (h : s.LeftMem kind sel m) (room : s.RoomApart kind sel is386 base as) :
    s.tssKept is386 base m := fun k hk => by
  have taken : s.taken is386 base (s.tablePlace base k) := ⟨k, hk, rfl⟩
  exact h.others _ (fun e => room.mark (e ▸ taken)) (fun e => room.mark' (e ▸ taken)) fun e => room.saved _ e taken

theorem access_apart {base p : Nat} (room : s.RoomApart kind sel is386 base as) (access : s.accessBytes as ps) (hp : p ∈ ps) :
    p ≠ s.tablePlace (s.busyAt s.tr.sel) 0 ∧ p ≠ s.tablePlace (s.busyAt sel) 0 ∧ ¬s.savedAt p ∧ ¬s.taken is386 base p := by
  obtain ⟨a, ha, rfl⟩ := access p hp
  rw [tablePlace_add]
  exact room.tables a ha 5 (by decide)

/-- A value of the saved registers, in a field. -/
theorem taskWord_selector (is386 : Bool) (v : Word) : taskWord is386 (v.setWidth 32) = v.setWidth 32 := by
  cases is386
  · show low16 (v.setWidth 32) = v.setWidth 32
    unfold low16
    rw [show ((v.setWidth 32 : Dword).setWidth 16) = v by
      rw [BitVec.setWidth_setWidth_of_le _ (by decide), BitVec.setWidth_eq]]
  · rfl

/-- The fields saved, as the old TSS shows them. -/
theorem State.LeftMem.shown (h : s.LeftMem kind sel m) (hm : ∀ p, s.savedAt p → Memory.read m2 p = Memory.read m p) (i : Nat)
    (hi : i < ((s.outgoing kind).taskFields s.tr.is386).length) :
    ({ s with mem := m2 } : State).tssField s.tr.is386 s.tr.base.toNat i =
      taskWord s.tr.is386 ((s.outgoing kind).taskFields s.tr.is386)[i] :=
  (savedField_congr (s := s) (m := m) (m' := m2) hi hm).trans (h.fields i hi)

theorem taskFields_reg (s : State) (is386 : Bool) {i : Nat} (hi : i < 8) :
    (s.taskFields is386)[i + 2]'(by rw [taskFields_length]; split <;> omega) =
      s.regs.get (([.eax, .ecx, .edx, .ebx, .esp, .ebp, .esi, .edi] : List Reg).getD i .eax) := by
  interval_cases i
  all_goals rfl

theorem taskFields_sel (s : State) (is386 : Bool) {i : Nat} (hi : i < if is386 then 6 else 4) :
    (s.taskFields is386)[10 + i]'(by rw [taskFields_length]; cases is386 <;> simp at hi ⊢ <;> omega) =
      (([s.es.sel, s.cs.sel, s.ss.sel, s.ds.sel, s.fs.sel, s.gs.sel] : List Word).getD i 0).setWidth 32 := by
  cases is386 <;> simp only [if_true, if_false, Bool.false_eq_true] at hi <;> interval_cases i
  all_goals rfl

theorem linked_congr {base : Nat} {sel : Word} (h : ∀ k, k < (if is386 then 4 else 2) →
      Memory.read m1 (s.tablePlace base k) = Memory.read m2 (s.tablePlace base k)) :
    ({ s with mem := m1 } : State).linked is386 base sel ↔ ({ s with mem := m2 } : State).linked is386 base sel := by
  have bytes : ({ s with mem := m1 } : State).tableBytes base (if is386 then 4 else 2) =
      ({ s with mem := m2 } : State).tableBytes base (if is386 then 4 else 2) :=
    List.map_congr_left fun k hk => h k (List.mem_range.1 hk)
  cases is386
  · exact (congrArg (fun bs => leValue 16 bs = sel) bytes).to_iff
  · exact (congrArg (fun bs => leValue 32 bs = sel.setWidth 32) bytes).to_iff

/-- WHAT A SWITCH LEAVES IN MEMORY. -/
theorem switchedMem_of (h : s.SwitchMem kind sel (decide (8 ≤ dType d)) (dBase s.level d).toNat m1 m2)
    (room : s.RoomApart kind sel (decide (8 ≤ dType d)) (dBase s.level d).toNat as) (marked : MarkedAll ps m2 u.mem)
    (access : s.accessBytes as ps)
    (hps : ∀ p, p ∈ ps ↔ ∃ g, s.tssVm (decide (8 ≤ dType d)) (dBase s.level d).toNat = false ∧
      selNull (s.tssSel (decide (8 ≤ dType d)) (dBase s.level d).toNat g) = false ∧ p = s.tablePlace ((segs g).2 + 5) 0) :
    s.switchedMem u kind sel d segs s.eip := by
  have kept : ∀ p, p ∉ ps → Memory.read u.mem p = Memory.read m2 p := marked.others
  have outside := fun p (hp : p ∈ ps) => access_apart room access hp
  have saved : ∀ p, s.savedAt p → Memory.read u.mem p = Memory.read m1 p := fun p hp => by
    rw [kept p fun e => (outside p e).2.2.1 hp, h.others p fun e => room.saved p hp (taken_of_linkAt e)]
  have field := h.left.shown saved
  have len := taskFields_length (s.outgoing kind) s.tr.is386
  have at1 : Memory.read u.mem (s.tablePlace (s.busyAt s.tr.sel) 0) = Memory.read m1 (s.tablePlace (s.busyAt s.tr.sel) 0) := by
    rw [kept _ fun e => (outside _ e).1 rfl, h.others _ fun e => room.mark (taken_of_linkAt e)]
  have at2 : Memory.read u.mem (s.tablePlace (s.busyAt sel) 0) = Memory.read m1 (s.tablePlace (s.busyAt sel) 0) := by
    rw [kept _ fun e => (outside _ e).2.1 rfl, h.others _ fun e => room.mark' (taken_of_linkAt e)]
  refine ⟨field 0 (by rw [len]; split <;> decide), ?_, fun i hi => ?_, fun i hi => ?_, at1.trans h.left.mark,
    at2.trans h.left.mark', fun nest => ?_, fun g hg => ?_, fun x ne ne' hs hlink hmark => ?_⟩
  · have image := field 1 (by rw [len]; split <;> decide)
    split
    · rename_i new
      have whole : ({ s with mem := u.mem } : State).tssField s.tr.is386 s.tr.base.toNat 1 =
          (outFlags kind s.flags).image s.level := image.trans (if_pos new)
      intro k hk
      exact (congrArg (fun v : Dword => v.getLsbD k) whole).trans (image_bit _ _ hk)
    · rename_i old
      have low : ({ s with mem := u.mem } : State).tssField s.tr.is386 s.tr.base.toNat 1 =
          low16 ((outFlags kind s.flags).image s.level) := image.trans (if_neg old)
      have word : (({ s with mem := u.mem } : State).tssField s.tr.is386 s.tr.base.toNat 1).setWidth 16 =
          ((outFlags kind s.flags).image s.level).setWidth 16 := by
        rw [low]
        unfold low16
        rw [BitVec.setWidth_setWidth_of_le _ (by decide), BitVec.setWidth_eq]
      exact word ▸ image_seenIn (outFlags kind s.flags) s.level (.inl rfl)
  · have bound : i + 2 < ((s.outgoing kind).taskFields s.tr.is386).length := by rw [len]; split <;> omega
    exact (field (i + 2) bound).trans (congrArg _ (taskFields_reg _ _ hi))
  · have bound : 10 + i < ((s.outgoing kind).taskFields s.tr.is386).length := by rw [len]; split at hi <;> simp_all <;> omega
    exact (field (10 + i) bound).trans ((congrArg _ (taskFields_sel _ _ hi)).trans (taskWord_selector _ _))
  · refine (linked_congr fun k hk => ?_).2 (h.linked nest)
    exact kept _ fun e => (outside _ e).2.2.2 (taken_of_linkAt ⟨nest, k, hk, rfl⟩)
  · have mem : s.tablePlace ((segs g).2 + 5) 0 ∈ ps := (hps _).2 ⟨g, hg.1, hg.2, rfl⟩
    obtain ⟨ne, ne', hs, link⟩ := outside _ mem
    rw [marked.marks _ mem, h.outside ne ne' hs fun e => link (taken_of_linkAt e)]
  · have unmarked : x ∉ ps := fun e => by
      obtain ⟨g, vm, named, at_⟩ := (hps x).1 e
      exact hmark g ⟨vm, named⟩ at_
    rw [kept x unmarked]
    exact h.outside ne ne' hs fun ⟨nest, k, hk, at_⟩ => hlink nest k hk at_

end Sys2Proof.Machine
end

section
/-! PROOFS. A whole task switch: the incoming task as it starts. -/
-- One declaration after the other: many proofs at once take more thread stacks than the memory limit allows.
set_option Elab.async false
namespace Sys2Proof.Machine

variable {s t u v : State} {kind : SwitchKind} {l : LdtReg} {d : Descriptor} {a : Nat} {as ps : List Nat} {m m1 m2 m3 : Memory}
  {sel : Word} {is386 : Bool} {segs : SReg → Descriptor × Nat}

/-! ### The flags -/

/-- VM is that of the TSS: an 80286 TSS has none, and only an 80286 takes no other. -/
theorem taskFlags_vm {base : Nat} (h : is386 = true → 3 ≤ s.level) :
    (taskFlags kind (s.tssField is386 base 1) s.level).vm = s.tssVm is386 base := by
  show (decide (3 ≤ s.level) && (s.tssField is386 base 1).getLsbD 17) = (s.tssField is386 base 1).getLsbD 17
  cases is386 with
  | true => simp [h rfl]
  | false =>
    have narrow : (s.tssField false base 1).getLsbD 17 = false := by
      unfold State.tssField
      simp
    rw [narrow, Bool.and_false]

/-! ### The incoming task -/

/-- State `u` is that of the incoming task, before it begins: no error word was pushed, the target is not yet checked. -/
structure State.TaskEntered (s : State) (kind : SwitchKind) (sel : Word) (d : Descriptor) (l : LdtReg)
    (segs : SReg → Descriptor × Nat) (u : State) : Prop where
  rest : ({ s.withSegsOf u with
    cr0 := { s.cr0 with ts := true }, dr7 := s.dr7 &&& ~~~(0x155 : Dword), ldtr := l
    tr := { sel := sel, base := dBase s.level d, limit := dLimitWord s.level d, is386 := decide (8 ≤ dType d) } } :
      State).agrees u
  shadow : u.shadow = s.shadow
  eip : u.eip = s.tssField (decide (8 ≤ dType d)) (dBase s.level d).toNat 0
  latch : u.resetLatch = false
  regs : s.tssHolds (decide (8 ≤ dType d)) (dBase s.level d).toNat u.regs
  flags : u.flags = taskFlags kind (s.tssField (decide (8 ≤ dType d)) (dBase s.level d).toNat 1) s.level
  shown : ∀ g, (u.seg g).inTask s.level (s.tssVm (decide (8 ≤ dType d)) (dBase s.level d).toNat)
    (s.tssSel (decide (8 ≤ dType d)) (dBase s.level d).toNat g) (segs g).1
  mem : s.switchedMem u kind sel d segs s.eip
  target : u.targetOk u.eip = true
  readable : decide (8 ≤ dType d) = true → u.tableOk .read ((dBase s.level d).toNat + 100) 1 = true
  trap : u.trapBit (decide (8 ≤ dType d)) (dBase s.level d).toNat = s.trapBit (decide (8 ≤ dType d)) (dBase s.level d).toNat
  testAt : ∀ k, u.tablePlace ((dBase s.level d).toNat + 100) k = s.tablePlace ((dBase s.level d).toNat + 100) k

/-- The selectors the new task shows are those of its TSS. -/
theorem showTask_sel {f : Nat → Dword} {base : Nat} (hf : ∀ i, i < fieldCount is386 → f i = s.tssField is386 base i) (g : SReg) :
    ((t.showTask is386 f).seg g).sel = s.tssSel is386 base g := by
  have field : ∀ i, i < 14 → f i = s.tssField is386 base i := fun i hi => hf i (by unfold fieldCount; split <;> omega)
  cases g with
  | es => exact congrArg (BitVec.setWidth 16) (field 10 (by decide))
  | cs => exact congrArg (BitVec.setWidth 16) (field 11 (by decide))
  | ss => exact congrArg (BitVec.setWidth 16) (field 12 (by decide))
  | ds => exact congrArg (BitVec.setWidth 16) (field 13 (by decide))
  | fs =>
    cases is386 with
    | false => rfl
    | true => exact congrArg (BitVec.setWidth 16) (hf 14 (by decide))
  | gs =>
    cases is386 with
    | false => rfl
    | true => exact congrArg (BitVec.setWidth 16) (hf 15 (by decide))

/-- The state in which the selectors of the incoming task are shown. -/
def State.shownTask (s : State) (kind : SwitchKind) (sel : Word) (d : Descriptor) (f : Nat → Dword) (g : Gpr) : State :=
  ({ s.retired kind sel d with
    eip := f 0, flags := taskFlags kind (f 1) s.level, regs := g, dr7 := s.dr7 &&& ~~~(0x155 : Dword) } : State).showTask
      (decide (8 ≤ dType d)) f

/-- The target of a task lies in its code segment. -/
theorem task_target (hpe : u.cr0.pe = true) {vm : Bool} {eip : Dword} {cs : Word} (hvm : u.flags.vm = vm)
    (hcs : u.cs.inTask s.level vm cs d) (hn : vm = false → selNull cs = false)
    (h : if vm then eip.toNat ≤ 0xFFFF else eip.toNat ≤ (dLimit s.level d).toNat) : u.targetOk eip = true := by
  unfold State.targetOk State.prot
  rw [hpe, hvm]
  unfold SegReg.inTask at hcs
  cases vm with
  | true =>
    simp only [if_true] at h
    simp [h]
  | false =>
    rw [if_neg Bool.false_ne_true, if_neg (by simp [hn rfl])] at hcs
    obtain ⟨-, -, -, -, limit, -, -⟩ := hcs
    rw [if_neg Bool.false_ne_true] at h
    simp [limit, h]

/-- The debug trap bit is what the TSS has. -/
theorem task_trap {base : Nat} (h : s.SwitchMem kind sel is386 base m1 m2) (room : s.RoomApart kind sel is386 base as)
    (marked : MarkedAll ps m2 u.mem) (access : s.accessBytes as ps)
    (at_ : u.tablePlace (base + 100) 0 = s.tablePlace (base + 100) 0) : u.trapBit is386 base = s.trapBit is386 base := by
  unfold State.trapBit
  cases is386 with
  | false => rfl
  | true =>
    have taken : s.taken true base (s.tablePlace base 100) := ⟨100, by decide, rfl⟩
    have apart : ¬s.linkAt kind true base (s.tablePlace base 100) := fun ⟨_, k, hk, e⟩ => by
      simp only [if_true] at hk
      have := tablePlace_inj s base (by decide) (by omega) e
      omega
    rw [at_, tablePlace_add, marked.others _ fun e => (access_apart room access e).2.2.2 taken, h.others _ apart,
      h.left.tss room 100 (by decide)]

/-- A TASK SWITCH up to the error word. -/
theorem taskSwitch_enters (hpe : s.cr0.pe = true) (fits : s.taskFits kind sel d l segs as)
    (room : s.switchRoom kind sel d as) :
    ∃ u, s.TaskEntered kind sel d l segs u ∧ ∀ err, taskSwitch kind sel err s =
      (pushTaskError (decide (8 ≤ dType d)) err >>= fun _ => beginTask (decide (8 ≤ dType d)) (dBase s.level d).toNat) u := by
  have check := checkTask_after fits
  obtain ⟨named, shared, ⟨a, found⟩, sys, type, level, present, long, readable, ldt, run⟩ := fits
  obtain ⟨leavable, apart⟩ := switchRoom_split hpe named room
  have readable : s.tssReadable (decide (8 ≤ dType d)) (dBase s.level d).toNat := readable
  have pg : s.cr0.pg = false := (tableOk_iff.1 leavable.mark).2.1
  obtain ⟨x1, leave, left⟩ := leaveTask_after (kind := kind) (d := d) leavable
  have way1 : s.TableWay ((s.retired kind sel d).after x1) := ⟨rfl, hpe, hpe, rfl⟩
  obtain ⟨f, g, o, fields, regs, enter⟩ := enterTask_after (kind := kind) way1 left.wf pg readable (left.tss apart)
  have way2 : s.TableWay { (s.retired kind sel d).after x1 with
    eip := f 0, flags := taskFlags kind (f 1) s.level, regs := g, oracle := o } := ⟨rfl, hpe, hpe, rfl⟩
  obtain ⟨x2, link, wf2, linked, others⟩ := linkTask_after (f := f) (kind := kind) way2 left.wf apart.link
  have switched : s.SwitchMem kind sel (decide (8 ≤ dType d)) (dBase s.level d).toNat x1.mem x2.mem :=
    ⟨left, linked, others⟩
  have link : linkTask kind s d f { (s.retired kind sel d).after x1 with
    eip := f 0, flags := taskFlags kind (f 1) s.level, regs := g, oracle := o } =
      .ok ((), (s.shownTask kind sel d f g).after x2) := link
  have way3 : s.TableWay ((s.shownTask kind sel d f g).after x2) := ⟨rfl, hpe, hpe, rfl⟩
  have vm : ((s.shownTask kind sel d f g).after x2).flags.vm = s.tssVm (decide (8 ≤ dType d)) (dBase s.level d).toNat := by
    rw [← taskFlags_vm (kind := kind) level, ← fields 1 (by unfold fieldCount; split <;> omega)]
    rfl
  have ldtSel : (f (if decide (8 ≤ dType d) then 16 else 14)).setWidth 16 =
      s.tssLdt (decide (8 ≤ dType d)) (dBase s.level d).toNat := by
    unfold State.tssLdt
    rw [fields _ (by unfold fieldCount; split <;> omega)]
  obtain ⟨u, ps, hidden, load, latch, shown, marks⟩ := loadTaskHidden_after (s := s) (segs := segs)
    (sels := s.tssSel (decide (8 ≤ dType d)) (dBase s.level d).toNat) apart.marks way3 wf2 rfl ldtSel
    (by rw [← ldtSel]; rfl) ldt (switched.tables apart) (showTask_sel fields)
    (fun e => by rw [e]; exact ⟨⟨rfl, rfl⟩, rfl, rfl⟩) (fun e => by
      rw [vm] at e
      rw [if_neg (by simp [e])] at run
      exact run.2)
  rw [vm] at shown marks
  have same := load.same
  have way : s.TableWay u := ⟨(congrArg State.cfg same).trans rfl, hpe, (congrArg (fun t : State => t.cr0.pe) same).trans hpe,
    (congrArg (fun t : State => t.cr0.pg) same).trans rfl⟩
  have eip : u.eip = s.tssField (decide (8 ≤ dType d)) (dBase s.level d).toNat 0 :=
    (congrArg State.eip same).trans (fields 0 (by unfold fieldCount; split <;> omega))
  have flags : u.flags = taskFlags kind (s.tssField (decide (8 ≤ dType d)) (dBase s.level d).toNat 1) s.level :=
    (congrArg State.flags same).trans (congrArg (fun v => taskFlags kind v s.level)
      (fields 1 (by unfold fieldCount; split <;> omega)))
  have target : u.targetOk u.eip = true := by
    rw [eip]
    refine task_target way.pe' ((congrArg Flags.vm flags).trans (taskFlags_vm level)) (shown .cs) (fun e => ?_) ?_
    · rw [if_neg (by simp [e])] at run
      exact (run.2 .cs).2.1
    · split at run
      · rename_i vm86
        rw [if_pos vm86]
        exact run
      · rename_i vm86
        rw [if_neg vm86]
        exact run.1
  have test : decide (8 ≤ dType d) = true → u.tableOk .read ((dBase s.level d).toNat + 100) 1 = true := fun new => by
    unfold State.tssReadable at readable
    rw [if_pos new] at readable
    exact way.tableOk load.wf (tableOk_part (i := 68) (m := 1) readable (by decide))
  have mem := switchedMem_of switched apart load.marked load.access marks
  have trap := task_trap switched apart load.marked load.access (way.tablePlace _ _)
  refine ⟨u, ⟨?_, (congrArg State.shadow same).trans rfl, eip, latch,
    fun i hi => (regs i hi).trans (congrArg (fun g : Gpr => taskWord _ (g.get _)) ((congrArg State.regs same).trans rfl).symm),
    flags, shown, mem, target, test, trap, fun _ => way.tablePlace _ _⟩, fun err => ?_⟩
  · unfold State.agrees
    rw [same]
    rfl
  · rw [taskSwitch_phases, bind_ok check]
    exact (bind_ok leave _).trans ((bind_ok enter _).trans ((bind_ok link _).trans (bind_ok hidden _)))

end Sys2Proof.Machine
end

section
/-! PROOFS. A task switch seen from outside. -/
-- One declaration after the other: many proofs at once take more thread stacks than the memory limit allows.
set_option Elab.async false
namespace Sys2Proof.Machine

variable {s t u v c : State} {kind : SwitchKind} {l : LdtReg} {d : Descriptor} {sel : Word} {is386 : Bool}
  {segs : SReg → Descriptor × Nat} {tr : TrapRecord} {run : RunState} {nmi : Bool}

/-! ### The flags -/

theorem level_two (h : s.level ≠ 0) : 2 ≤ s.level := by
  unfold State.level at h ⊢
  cases hc : s.cfg.cpu <;> simp_all [Cpu.level]

/-- The flags of an image have its bits, those the processor has; an 80286 has 16. -/
theorem ofImage_bits (v : Dword) {level k : Nat} (hl : 2 ≤ level) (hv : ¬3 ≤ level → v.getLsbD 16 = false ∧ v.getLsbD 17 = false)
    (hk : k ∈ [0, 2, 4, 6, 7, 8, 9, 10, 11, 12, 13, 14, 16, 17] ∨ k = 18 ∧ level = 4) :
    (Flags.ofImage v level).bit level k = v.getLsbD k := by
  by_cases three : 3 ≤ level
  · exact ofImage_bit v level three hk
  · obtain ⟨v16, v17⟩ := hv three
    rcases hk with low | ⟨rfl, rfl⟩
    · simp only [List.mem_cons, List.not_mem_nil, or_false] at low
      rcases low with rfl | rfl | rfl | rfl | rfl | rfl | rfl | rfl | rfl | rfl | rfl | rfl | rfl | rfl
      all_goals simp_all [Flags.ofImage, Flags.loadNine, Flags.bit]
    · omega

/-- THE FLAGS of the incoming task but for NT. -/
theorem taskFlags_bit {base k : Nat} (hl : s.level ≠ 0) (new : is386 = true → 3 ≤ s.level)
    (hk : k ∈ [0, 2, 4, 6, 7, 8, 9, 10, 11, 12, 13, 16, 17] ∨ k = 18 ∧ s.level = 4) :
    (taskFlags kind (s.tssField is386 base 1) s.level).bit s.level k = (s.tssField is386 base 1).getLsbD k := by
  have narrow : ¬3 ≤ s.level → (s.tssField is386 base 1).getLsbD 16 = false ∧ (s.tssField is386 base 1).getLsbD 17 = false :=
    fun old => by
      cases is386 with
      | true => exact absurd (new rfl) old
      | false => unfold State.tssField; simp
  rw [← ofImage_bits (s.tssField is386 base 1) (level_two hl) narrow (by
    simp only [List.mem_cons, List.not_mem_nil, or_false] at hk ⊢; omega)]
  simp only [List.mem_cons, List.not_mem_nil, or_false] at hk
  rcases hk with (rfl | rfl | rfl | rfl | rfl | rfl | rfl | rfl | rfl | rfl | rfl | rfl | rfl) | ⟨rfl, -⟩
  all_goals rfl

/-! ### The end of the instruction or delivery -/

/-- The state at the end of what switched tasks. -/
def State.ending (t : State) (tr : TrapRecord) (run : RunState) (nmi : Bool) : State :=
  { t with cur := .start, shadow := .none, repeating := none, trap := tr, run := run, nmiBlocked := nmi }

/-- The state a switch is compared with: the one it began in, but for what an instruction leaves behind. -/
def State.besides (c s : State) (run : RunState) (nmi : Bool) : Prop :=
  ∃ eip cur repeating shadow trap stale oracle, c = { s with
    eip := eip, cur := cur, repeating := repeating, shadow := shadow, trap := trap, stale := stale, oracle := oracle
    run := run, nmiBlocked := nmi }

theorem started_taskSwitch {base : Nat} (h : u.trapBit is386 base = true) : (u.started is386 base).trap.taskSwitch = true := by
  unfold State.started
  rw [if_pos h]

/-- WHAT THE INCOMING TASK STARTS AS. -/
theorem startsTask_of (hl : s.level ≠ 0) (new : decide (8 ≤ dType d) = true → 3 ≤ s.level)
    (h : s.TaskEntered kind sel d l segs u) (hc : c.besides s run nmi)
    (htr : tr.taskSwitch = (u.started (decide (8 ≤ dType d)) (dBase s.level d).toNat).trap.taskSwitch) :
    s.startsTask c ((u.started (decide (8 ≤ dType d)) (dBase s.level d).toNat).ending tr run nmi) kind sel d l segs := by
  obtain ⟨eip, cur, repeating, shadow, trap, stale, oracle, rfl⟩ := hc
  have image := h.flags
  refine ⟨?_, h.eip, rfl, rfl, h.latch, h.regs, fun k hk => ?_, ?_, h.shown, fun f bit => ?_⟩
  · exact congrArg (fun t : State => { t with
      eip := eip, cur := cur, repeating := repeating, shadow := shadow, trap := trap, stale := stale, oracle := oracle
      run := run, nmiBlocked := nmi }) h.rest
  · exact (congrArg (fun f : Flags => f.bit s.level k) image).trans (taskFlags_bit hl new hk)
  · refine (congrArg Flags.nt image).trans ?_
    cases kind with
    | jump => rfl
    | nest => rfl
    | iret => exact (congrArg (· && _) (decide_eq_true (level_two hl))).trans (Bool.true_and _)
  · refine htr.trans (started_taskSwitch (h.trap.trans ?_))
    have byte : s.tableVal 8 ((dBase s.level d).toNat + 100) =
        Memory.read s.mem (s.tablePlace ((dBase s.level d).toNat + 100) 0) := by
      simp [State.tableVal, leValue, leNat]
    unfold State.trapBit
    rw [f, ← byte, bit]
    rfl

/-! ### The error word -/

theorem started_taskSwitch_eq {base : Nat} (bit : t.trapBit is386 base = u.trapBit is386 base)
    (h : t.trap.taskSwitch = u.trap.taskSwitch) :
    (t.started is386 base).trap.taskSwitch = (u.started is386 base).trap.taskSwitch := by
  unfold State.started
  rw [bit]
  split
  · rfl
  · exact h

/-- THE INCOMING TASK with an error word pushed. -/
theorem taskError_after {w : Nat} (e : Word) (hpe : s.cr0.pe = true) (h : s.TaskEntered kind sel d l segs u)
    (hw : w = if decide (8 ≤ dType d) then 32 else 16) (hp : u.canPush w = true)
    (hk : ∀ k, k < w / 8 → u.placeAt .ss (u.pushAt w) k ≠ s.tablePlace ((dBase s.level d).toNat + 100) 0) :
    ∃ x, (pushTaskError (decide (8 ≤ dType d)) (some e) >>= fun _ =>
        beginTask (decide (8 ≤ dType d)) (dBase s.level d).toNat) u =
          .ok ((), ((u.withSp (u.pushAt w)).after x).started (decide (8 ≤ dType d)) (dBase s.level d).toNat) ∧
      (((u.withSp (u.pushAt w)).after x).started (decide (8 ≤ dType d)) (dBase s.level d).toNat).trap.taskSwitch =
        (u.started (decide (8 ≤ dType d)) (dBase s.level d).toNat).trap.taskSwitch ∧
      u.stores (u.after x) .ss (u.pushAt w) (e.setWidth w) := by
  subst hw
  obtain ⟨x, push, trap, wf, stored⟩ := pushTaskError_after e hp
  have pe : u.cr0.pe = true := (congrArg (fun t : State => t.cr0.pe) h.rest).trans hpe
  have begun := beginTask_after (t := (u.withSp (u.pushAt (if decide (8 ≤ dType d) then 32 else 16))).after x)
    (is386 := decide (8 ≤ dType d)) (base := (dBase s.level d).toNat) h.target fun new =>
      State.TableWay.tableOk (s := u) (t := (u.withSp (u.pushAt (if decide (8 ≤ dType d) then 32 else 16))).after x)
        ⟨rfl, pe, pe, rfl⟩ wf (h.readable new)
  refine ⟨x, (bind_ok push _).trans begun, started_taskSwitch_eq ?_ trap, stored⟩
  have test : Memory.read x.mem (s.tablePlace ((dBase s.level d).toNat + 100) 0) =
      Memory.read u.mem (s.tablePlace ((dBase s.level d).toNat + 100) 0) := stored.1 _ hk
  rw [← h.testAt] at test
  exact congrArg (fun b : Byte => decide (8 ≤ dType d) && b.getLsbD 0) test

theorem pushAt_of_sameWay (h : u.SameWay v) (hr : v.regs = u.regs) (w : Nat) : v.pushAt w = u.pushAt w := by
  unfold State.pushAt State.stackOff State.sp
  rw [h.stack32, hr]

/-- A value stored, as a state with the same memory and stack sees it. -/
theorem stores_of_sameWay {w : Nat} {t' : State} {val : BitVec w} (way : u.SameWay v) (hm : v.mem = u.mem)
    (hr : v.regs = u.regs) (ht : t.mem = t'.mem) (h : u.stores t' .ss (u.pushAt w) val) :
    v.stores t .ss (v.pushAt w) val := by
  obtain ⟨others, value⟩ := h
  rw [pushAt_of_sameWay way hr]
  refine ⟨fun p hp => ?_, ?_⟩
  · rw [ht, hm]
    exact others p fun i hi => way.placeAt _ _ _ ▸ hp i hi
  · rw [← value, ht]
    exact State.SameWay.memVal (s := { u with mem := t'.mem }) (t := { v with mem := t'.mem })
      ⟨way.cfg, way.cr0, way.cr3, fun r => (by cases r <;> rfl : _ = v.seg r).trans ((way.seg r).trans (by cases r <;> rfl)),
        way.ac, way.vm, way.latch⟩ rfl _ _ _

theorem canPush_of_sameWay (way : u.SameWay v) (hm : v.mem = u.mem) (hr : v.regs = u.regs) (w : Nat) :
    v.canPush w = u.canPush w := by
  unfold State.canPush
  rw [pushAt_of_sameWay way hr]
  exact way.reaches (congrArg Memory.wf hm) _ _ _ _ _

theorem ending_way (u : State) (base : Nat) :
    u.SameWay ((u.started is386 base).ending tr run nmi) :=
  ⟨rfl, rfl, rfl, fun r => by cases r <;> rfl, rfl, rfl, rfl⟩

/-! ### The switch -/

/-- A TASK SWITCH from a state, ended as an instruction or a delivery ends. -/
theorem switches_of {err : Option Word} {out : Host.Outcome State Fault Refusal} (hpe : s.cr0.pe = true) (hl : s.level ≠ 0)
    (hc : c.besides s run nmi) (hfin : ∀ t, t.shadow = s.shadow → t.run = s.run → t.nmiBlocked = s.nmiBlocked →
      taskSwitch kind sel err s = .ok ((), t) → ∃ tr, out = .next (t.ending tr run nmi) ∧ tr.taskSwitch = t.trap.taskSwitch) :
    s.switches c out kind sel s.eip err := by
  intro d l segs as fits room
  obtain ⟨-, -, -, -, -, new, -⟩ := id fits
  obtain ⟨u, entered, run_⟩ := taskSwitch_enters hpe fits room
  have sameRun := congrArg State.run entered.rest
  have sameNmi := congrArg State.nmiBlocked entered.rest
  have begun := beginTask_after entered.target entered.readable
  cases err with
  | none =>
    obtain ⟨tr, end_, trap⟩ := hfin (u.started (decide (8 ≤ dType d)) (dBase s.level d).toNat) entered.shadow sameRun sameNmi
      ((run_ none).trans begun)
    exact ⟨_, startsTask_of hl new entered hc trap, entered.mem, end_⟩
  | some e =>
    refine ⟨_, startsTask_of hl new entered hc rfl, entered.mem, fun hp hk => ?_⟩
    rw [canPush_of_sameWay (ending_way u _) rfl rfl] at hp
    simp only [pushAt_of_sameWay (ending_way u _) rfl, (ending_way u _).placeAt] at hk
    obtain ⟨x, word, taskSwitch_, stored⟩ := taskError_after e hpe entered (by simp) hp hk
    obtain ⟨tr, end_, trap⟩ := hfin (((u.withSp (u.pushAt (if 8 ≤ dType d then 32 else 16))).after x).started
      (decide (8 ≤ dType d)) (dBase s.level d).toNat) entered.shadow sameRun sameNmi ((run_ (some e)).trans word)
    refine ⟨_, end_, ⟨rfl, rfl, rfl, rfl⟩, rfl, trap.trans taskSwitch_, ?_, stores_of_sameWay
      (ending_way _ _) rfl rfl rfl stored⟩
    rw [setSp_eq]
    rfl

end Sys2Proof.Machine
end

section
/-! PROOFS. What switches tasks: far JMP and CALL, IRET with NT set, interrupts through a task gate. -/
-- One declaration after the other: many proofs at once take more thread stacks than the memory limit allows.
set_option Elab.async false
namespace Sys2Proof.Machine

variable {s t u v c : State} {kind : SwitchKind} {l : LdtReg} {d : Descriptor} {a : Nat} {sel named : Word} {off : Dword}
  {call : Bool} {i : Instr} {gate : Descriptor} {n : Byte} {err : Option Word} {ret : Dword}

/-- An instruction that ends where a task switch ended. -/
theorem finish_ending (s : State) (h : t.shadow = .none) :
    ∃ tr, finish s t .loadedRf = t.ending tr t.run t.nmiBlocked ∧ tr.taskSwitch = t.trap.taskSwitch := by
  refine ⟨(finish s t .loadedRf).trap, ?_, settleTrap_taskSwitch _ _ _ _⟩
  unfold State.ending
  rw [← h]
  rfl

/-! ### Far JMP and CALL -/

/-- The kind of switch of a far transfer. -/
def farSwitch (call : Bool) : SwitchKind := if call then .nest else .jump

/-- A far transfer that comes down to a switch. -/
theorem far_switches (hl : s.lockOk false = true) (hp : s.prot = true) (hlevel : s.level ≠ 0) (hi : s.farForm i call named off)
    (h : ∀ r, farProt (farKind call) named off (s.starting r) =
      (taskSwitch (farSwitch call) sel none >>= fun _ => pure .loadedRf) (s.starting r)) :
    s.switches s (exec i s) (farSwitch call) sel s.nextIp none := by
  obtain ⟨r, goes, -⟩ := farForm_exec hi hl hp
  have switch : (s.starting r).switches s (exec i s) (farSwitch call) sel (s.starting r).eip none :=
    switches_of (run := s.run) (nmi := s.nmiBlocked) (pe_of_prot hp) hlevel
      ⟨s.eip, s.cur, s.repeating, s.shadow, s.trap, s.stale, s.oracle, rfl⟩ fun t shadow run nmi switched => by
        obtain ⟨tr, end_, trap⟩ := finish_ending s (t := t) shadow
        refine ⟨tr, (goes .loadedRf t ((h r).trans (bind_ok switched _))).trans ?_, trap⟩
        rw [end_, run, nmi]
        rfl
  exact switch

/-- A FAR JMP OR CALL to a TSS, or through a task gate. -/
theorem far_switchesTask (hl : s.lockOk false = true) (hp : s.prot = true) (hlevel : s.level ≠ 0)
    (hi : s.farForm i call named off) (hn : selNull named = false) (hf : s.finds named d a) (hsys : dIsSystem d = true)
    (hpass : max s.cpl (selRpl named) ≤ dDpl d)
    (h : (dType d ∈ [1, 9] ∧ named = sel) ∨ (dType d = 5 ∧ dPresent d = true ∧ gateSel d = sel)) :
    s.switches s (exec i s) (farSwitch call) sel s.nextIp none := by
  have kinds : (if farKind call = .call then SwitchKind.nest else .jump) = farSwitch call := by cases call <;> rfl
  rcases h with ⟨type, rfl⟩ | ⟨type, present, rfl⟩
  · intro d' l segs as fits
    obtain ⟨-, -, ⟨a', addr, -, val⟩, -, -, new, -⟩ := id fits
    obtain ⟨addr', -, val'⟩ := id hf
    obtain rfl : d' = d := by
      obtain rfl := Option.some.inj (addr.symm.trans addr')
      rw [← val, ← val']
    have tss : taskSegment s.level d' := by
      refine ⟨hsys, ?_⟩
      have wide : 8 ≤ dType d' → 3 ≤ s.level := fun h => new (decide_eq_true h)
      simp only [List.mem_cons, List.not_mem_nil, or_false] at type ⊢
      omega
    refine far_switches hl hp hlevel hi (fun r => ?_) d' l segs as fits
    rw [← kinds]
    exact (farProt_ofTss (s := s.starting r) hn hf tss).trans (check_bind_ok (decide_eq_true hpass) _ _ _)
  · refine far_switches hl hp hlevel hi fun r => ?_
    rw [← kinds]
    exact (farProt_ofTaskGate (s := s.starting r) hn hf ⟨hsys, type⟩).trans ((check_bind_ok (decide_eq_true hpass) _ _ _).trans
      (check_bind_ok present _ _ _))

/-! ### IRET -/

/-- IRET with NT set. -/
theorem iret_switches (hl : s.lockOk false = true) (hp : s.prot = true) (hlevel : s.level ≠ 0) (hnt : s.flags.nt = true)
    (hlink : s.tableOk .read s.tr.base.toNat 2 = true) (hsel : s.tableVal 16 s.tr.base.toNat = sel) :
    s.switches { s with nmiBlocked := false } (exec .iret s) .iret sel s.nextIp none := by
  have switch : s.begin.switches { s with nmiBlocked := false } (exec .iret s) .iret sel s.begin.eip none :=
    switches_of (run := s.run) (nmi := false) (pe_of_prot hp) hlevel
      ⟨s.eip, s.cur, s.repeating, s.shadow, s.trap, s.stale, s.oracle, rfl⟩ fun t shadow run nmi switched => by
        have back : iretProt s.begin = .ok ((), t) := by
          unfold iretProt returnToTask
          rw [get_bind_apply, if_pos (show s.begin.flags.nt = true from hnt), get_bind_apply]
          refine (bind_ok (sysRead16_flat (s := s.begin) hlink) _).trans ?_
          show taskSwitch .iret (s.tableVal 16 s.tr.base.toNat) none s.begin = _
          rw [hsel]
          exact switched
        have body : iretAny s.begin = .ok (.loadedRf, { t with nmiBlocked := false }) := by
          unfold iretAny
          rw [get_bind_apply, if_pos (show s.begin.prot = true from hp), bind_ok back,
            show s.begin.prot = true from hp, show s.begin.flags.nt = true from hnt, Bool.and_self, Bool.or_true]
          rfl
        obtain ⟨tr, end_, trap⟩ := finish_ending s (t := { t with nmiBlocked := false }) shadow
        refine ⟨tr, (runEnding_ok (body := iretAny) hl body).trans ?_, trap⟩
        rw [end_]
        show Host.Outcome.next (State.ending _ _ t.run _) = _
        rw [run]
        rfl
  exact switch

/-! ### Interrupts -/

/-- AN INTERRUPT THROUGH A TASK GATE. -/
theorem interrupt_switches {out : Host.Outcome State Fault Refusal} {soft rf : Bool}
    (h : s.raises out soft n err ret rf c) (hreal : s.real = false) (hlevel : s.level ≠ 0) (hi : s.idtGives n gate)
    (hsys : dIsSystem gate = true) (ht : dType gate = 5) (hpr : dPresent gate = true)
    (hpl : soft = true → s.cpl ≤ dDpl gate) :
    s.switches { c with run := .running } out .nest (gateSel gate) ret err := by
  have pe : s.cr0.pe = true := pe_of_not_real (by simp [hreal])
  obtain ⟨⟨cr2, dr6, dr7, rfl⟩, src, ip, sh, stl, orc, hsrc, delivers⟩ := raises_delivers h hreal hlevel
  have switch : ({ ({ s with cr2 := cr2, dr6 := dr6, dr7 := dr7 } : State).delivering ip sh stl orc with eip := ret } :
      State).switches { ({ s with cr2 := cr2, dr6 := dr6, dr7 := dr7 } : State) with run := .running } out .nest
        (gateSel gate) ret err :=
    switches_of (run := .running) (nmi := s.nmiBlocked) (err := err) pe hlevel
      ⟨s.eip, s.cur, s.repeating, s.shadow, s.trap, s.stale, s.oracle, rfl⟩ fun t _ _ nmi switched => by
        obtain ⟨tr, end_, trap⟩ := delivers t ((interruptProt_taskGate
          (s := ({ s with cr2 := cr2, dr6 := dr6, dr7 := dr7 } : State).delivering ip sh stl orc) hi hsrc hsys ht hpr hpl).trans
            switched)
        refine ⟨tr, end_.trans ?_, trap⟩
        unfold State.ending
        rw [← show t.nmiBlocked = s.nmiBlocked from nmi]
        rfl
  exact switch

end Sys2Proof.Machine
end

section
/-! PROOFS. Changes of privilege level and of task: all parts together. -/
-- One declaration after the other: many proofs at once take more thread stacks than the memory limit allows.
set_option Elab.async false
namespace Sys2Proof.Machine

variable {s : State}

/-- IRET TO V86 MODE, seen from outside: the second part of O39. -/
theorem iret_entersV86 (hl : s.lockOk false = true) (hp : s.prot = true) (hc : s.cpl = 0) (hnt : s.flags.nt = false)
    (ho : s.op32 = true) (hh : s.holds 32 9) (hv : (s.iretItem 2).getLsbD 17 = true) :
    let held (g : SegReg) (i : Nat) : Prop :=
      g.sel = (s.iretItem i).setWidth 16 ∧ g.valid = true ∧ g.base.toNat = 16 * g.sel.toNat ∧ g.limit = 0xFFFF
    ∃ t, exec .iret s = .next t ∧ ({ s.withSegsOf t with nmiBlocked := false } : State).agrees t ∧ t.eip = s.iretItem 0 ∧
      t.cur = .start ∧ t.shadow = .none ∧ t.mem = s.mem ∧ t.regs = { s.regs with esp := s.iretItem 3 } ∧
      held t.cs 1 ∧ held t.ss 4 ∧ held t.es 5 ∧ held t.ds 6 ∧ held t.fs 7 ∧ held t.gs 8 ∧
      ∀ k, k ∈ [0, 2, 4, 6, 7, 8, 9, 10, 11, 12, 13, 14, 16, 17] ∨ k = 18 ∧ s.level = 4 →
        t.flags.bit s.level k = (s.iretItem 2).getLsbD k := by
  obtain ⟨x, mem, run⟩ := iret_toV86 hl hp hc hnt ho hh hv
  have held : ∀ sel : Word, (SegReg.v86 sel).sel = sel ∧ (SegReg.v86 sel).valid = true ∧
      (SegReg.v86 sel).base.toNat = 16 * (SegReg.v86 sel).sel.toNat ∧ (SegReg.v86 sel).limit = 0xFFFF :=
    fun sel => ⟨rfl, rfl, v86_base sel, rfl⟩
  exact ⟨_, run, rfl, rfl, rfl, rfl, mem, rfl, held _, held _, held _, held _, held _, held _,
    fun k hk => ofImage_bit _ _ (op32_level ho) hk⟩

/-- Settles O39, by one lemma for each part: `return_outer`, `iret_entersV86`, `interrupt_inner`, `call_inner`,
`taskSwitch_sets`, `far_switchesTask` with `iret_switches`, and `interrupt_switches`. -/
theorem levelChangesAndTaskSwitches : Obligations.LevelChangesAndTaskSwitches := by
  refine ⟨?_, ?_, ?_, ?_, ?_, ?_, ?_⟩
  · intro s i n sel d ds a as hl hp _ hi hs w dist off1 off2 v sp ss null hc hn code level present hv h1 h2 hf
    exact return_outer hl hp hi hs null hc hn ⟨code, level⟩ present hv ⟨h1, h2, rfl, rfl⟩ hf
  · intro s hl hp hc hnt ho hh item hv
    exact iret_entersV86 hl hp hc hnt ho hh hv
  · intro s c out soft n err ret rf gate d ds a as ss sp h hreal hlevel hi hg hn hf hc hcon hd hpr hv hstack hs hoff w u o k
      closed hr
    refine interrupt_inner h hreal hlevel hi hg hn hf hc hcon hd hpr hv hstack hs hoff ?_ rfl ?_ hr
    · simp only [w, gateWidth, gateIs386, decide_eq_true_eq]
    · simp only [k, o, innerItems]
      omega
  · intro s i sel off gate d ds a0 a as ss sp hl hp hlevel hi hn hgate hsys htype hpass hpresent hn' hf hc hcon hd hpr hstack hs
      hoff w u n hr hps
    refine call_inner hl hp hlevel hi hn hgate ⟨hsys, htype⟩ hpass hpresent hn' hf hc hcon hd hpr hstack hs hoff ?_ rfl hr hps
    rcases htype with four | ⟨-, twelve⟩ <;> simp_all [w, gateWidth, gateIs386]
  · intro kind sel err s t h
    exact taskSwitch_sets h
  · intro s sel hp hlevel hl
    exact ⟨fun i call named off d a hi hn hf hsys hpass h => far_switchesTask hl hp hlevel hi hn hf hsys hpass h,
      fun hnt hlink hsel => iret_switches hl hp hlevel hnt hlink hsel⟩
  · intro s c out soft n err ret rf gate h hreal hlevel hi hsys ht hpr hpl
    exact interrupt_switches h hreal hlevel hi hsys ht hpr hpl

end Sys2Proof.Machine
end

section
/-! PROOFS. The internal cache: the way that holds a line, the way a new line goes to, and what reads and writes through
the cache do. -/
-- One declaration after the other: many proofs at once take more thread stacks than the memory limit allows.
set_option Elab.async false
namespace Sys2Proof.Machine

variable {s t u : State} {a : Nat} {k : Fin 4} {v : Byte} {pcd : Bool}

/-! ### Ways and decision bits -/

/-- The search of the four ways is the library's search of a list. -/
theorem findWay_eq_find? (p : Fin 4 → Bool) : findWay p = [0, 1, 2, 3].find? p := by
  unfold findWay
  simp only [List.find?_cons, List.find?_nil]
  grind

theorem findWay_some {p : Fin 4 → Bool} (h : findWay p = some k) : p k = true :=
  List.find?_some (findWay_eq_find? p ▸ h)

/-- No way is found exactly when no way passes the test. -/
theorem findWay_eq_none {p : Fin 4 → Bool} : findWay p = none ↔ ∀ j, p j = false := by
  rw [findWay_eq_find?, List.find?_eq_none]
  simp [Fin.forall_fin_succ]

/-- The only way that passes the test is found. -/
theorem findWay_alone {p : Fin 4 → Bool} (hk : p k = true) (others : ∀ j, j ≠ k → p j = false) : findWay p = some k := by
  cases found : findWay p with
  | none => rw [findWay_eq_none.1 found k] at hk; cases hk
  | some j =>
    by_contra other
    have := others j fun e => other (congrArg some e)
    rw [findWay_some found] at this
    cases this

/-- The decision bits after a use are those of R219. -/
theorem Lru.usedFor_touch (l : Lru) (way : Fin 4) : l.usedFor (l.touch way) way.val := by
  match way with
  | 0 => rfl
  | 1 => rfl
  | 2 => rfl
  | 3 => rfl

/-- The way R220 evicts. -/
theorem Lru.victim_val (l : Lru) :
    l.victim.val = if l.r0 then (if l.r2 then 3 else 2) else if l.r1 then 1 else 0 := by
  obtain ⟨r0, r1, r2⟩ := l
  cases r0
  · cases r1 <;> rfl
  · cases r2 <;> rfl

theorem ways_set_same {α : Type} (ways : Vector α 4) (k : Fin 4) (x : α) : (ways.set k x)[k] = x := by simp

theorem ways_set_other {α : Type} (ways : Vector α 4) {j k : Fin 4} (x : α) (h : j ≠ k) : (ways.set k x)[j] = ways[j] :=
  Vector.getElem_set_ne k.isLt j.isLt fun e => h (Fin.ext e.symm)

/-! ### Sets and lines -/

/-- The set of a physical address replaced. -/
def State.putSet (s : State) (a : Nat) (c : CacheSet) : State := { s with cache := cachePut s.cache (cacheSetOf a) c }

/-- The set of a physical address. -/
def State.setOf (s : State) (a : Nat) : CacheSet := cacheGet s.cache (cacheSetOf a)

theorem setOf_putSet (s : State) (a : Nat) (c : CacheSet) : (s.putSet a c).setOf a = c := by
  unfold State.setOf State.putSet
  rw [cacheGet_cachePut, if_pos rfl]

/-- A set whose way `k` alone changed, with its decision bits, replaces the set of an address. -/
theorem usedWay_putSet {c : CacheSet} (cache : u.cache = s.cache) (others : ∀ j, j ≠ k → c.ways[j] = (s.setOf a).ways[j])
    (bits : c.lru = (s.setOf a).lru.touch k) : s.usedWay (u.putSet a c) a k := by
  have put : ∀ n, cacheGet (u.putSet a c).cache n = if n = cacheSetOf a then c else cacheGet s.cache n := fun n => by
    unfold State.putSet
    rw [cacheGet_cachePut, cache]
  have new : cacheGet (u.putSet a c).cache (a / 16 % 128) = c := (put _).trans (if_pos rfl)
  refine ⟨fun n other => (put n).trans (if_neg other), fun j hj => ?_, ?_⟩
  · rw [new]
    exact others j hj
  · rw [new, bits]
    exact Lru.usedFor_touch _ k

theorem caches_iff : s.caches a k ↔ ((s.setOf a).ways[k].valid && ((s.setOf a).ways[k].tag == cacheTagOf a)) = true := by
  rw [Bool.and_eq_true, beq_iff_eq]
  rfl

theorem find_eq_some (hk : s.caches a k) (others : ∀ j, j ≠ k → ¬s.caches a j) : (s.setOf a).find a = some k :=
  findWay_alone (caches_iff.1 hk) fun j hj => Bool.eq_false_iff.2 fun held => others j hj (caches_iff.2 held)

theorem find_eq_none (h : ∀ j, ¬s.caches a j) : (s.setOf a).find a = none :=
  findWay_eq_none.2 fun j => Bool.eq_false_iff.2 fun held => h j (caches_iff.2 held)

theorem CacheLine.byte_eq_at (l : CacheLine) (a : Nat) : l.byte a = l.at (a % 16) := by
  unfold CacheLine.byte CacheLine.at
  ext i hi
  simp

/-- The bits of the mask of one byte. -/
theorem byteMask_getLsbD (n : Nat) : (0xFF : BitVec 128).getLsbD n = decide (n < 8) := by
  rw [show (0xFF : BitVec 128) = (BitVec.allOnes 8).setWidth 128 from rfl, BitVec.getLsbD_setWidth, BitVec.getLsbD_allOnes]
  grind

/-- The bytes of a line after one is replaced. -/
theorem CacheLine.setByte_at (l : CacheLine) (a : Nat) (v : Byte) {i : Nat} (hi : i < 16) :
    (l.setByte a v).at i = if i = a % 16 then v else l.at i := by
  unfold CacheLine.setByte CacheLine.at
  ext j hj
  have inside : 8 * i + j < 128 := by omega
  simp only [BitVec.getElem_extractLsb', BitVec.getLsbD_or, BitVec.getLsbD_and, BitVec.getLsbD_not,
    BitVec.getLsbD_shiftLeft, BitVec.getLsbD_setWidth, byteMask_getLsbD, inside, decide_true, Bool.true_and]
  rcases Nat.lt_trichotomy i (a % 16) with below | same | above
  · simp [below.ne, show 8 * i + j < 8 * (a % 16) by omega]
  · subst same
    simp [hj, show j < 128 by omega]
  · have past : ¬8 * i + j - 8 * (a % 16) < 8 := by omega
    simp [above.ne', past, BitVec.getLsbD_of_ge v (8 * i + j - 8 * (a % 16)) (by omega)]

/-- WHERE A NEW LINE GOES (R218, R220): one way changes, a way with V = 0 if there is one, else the pseudo-LRU one. -/
theorem CacheSet.fill_way (c : CacheSet) (l : CacheLine) :
    ∃ k : Fin 4, c.fill l = { ways := c.ways.set k l, lru := c.lru.touch k } ∧
      if ∃ q : Fin 4, c.ways[q].valid = false then c.ways[k].valid = false
      else k.val = if c.lru.r0 then (if c.lru.r2 then 3 else 2) else if c.lru.r1 then 1 else 0 := by
  refine ⟨_, rfl, ?_⟩
  cases found : findWay fun w => !c.ways[w].valid with
  | some w =>
    have empty : c.ways[w].valid = false := by simpa using findWay_some found
    rw [if_pos ⟨w, empty⟩]
    exact empty
  | none =>
    have full : ¬∃ q : Fin 4, c.ways[q].valid = false := fun ⟨q, empty⟩ => by
      have := findWay_eq_none.1 found q
      rw [empty] at this
      cases this
    rw [if_neg full]
    exact c.lru.victim_val

/-! ### Reads -/

theorem readMemory_present (h : s.cfg.regionKind a ≠ .absent) : readMemory a s = .ok (Memory.read s.mem a, s) := by
  unfold readMemory
  rw [get_bind_apply]
  cases kind : s.cfg.regionKind a with
  | absent => exact absurd kind h
  | ram => rfl
  | rom => rfl

theorem readBlock_present (n a : Nat) (h : ∀ i, i < n → s.cfg.regionKind (a + i) ≠ .absent) :
    readBlock n a s = .ok ((List.range n).map fun i => Memory.read s.mem (a + i), s) := by
  induction n generalizing a with
  | zero => rfl
  | succ n ih =>
    have rest : readBlock n (a + 1) s = _ := ih (a + 1) fun i hi => by
      rw [Nat.add_assoc, Nat.add_comm 1]; exact h (i + 1) (by omega)
    unfold readBlock
    rw [bind_ok (readMemory_present (a := a) (h 0 (by omega))), bind_ok rest, pure_apply, List.range_succ_eq_map]
    simp [Function.comp_def, Nat.add_comm, Nat.add_left_comm]

/-- A line as memory holds it. -/
def State.memLine (s : State) (a : Nat) : CacheLine :=
  { valid := true, tag := cacheTagOf a
    data := leValue 128 ((List.range 16).map fun i => Memory.read s.mem (a / 16 * 16 + i)) }

theorem memLine_at (s : State) (a : Nat) {i : Nat} (hi : i < 16) :
    (s.memLine a).at i = Memory.read s.mem (a / 16 * 16 + i) := by
  refine (leValue_byte _ i (by simpa using hi) (by simp)).trans ?_
  simp

/-- A read of a line that is held. -/
theorem readPhys_hit (hc : s.cacheOn = true) (found : (s.setOf a).find a = some k) :
    readPhys pcd a s =
      .ok ((s.setOf a).ways[k].at (a % 16), s.putSet a { s.setOf a with lru := (s.setOf a).lru.touch k }) := by
  unfold State.setOf at found
  unfold readPhys
  simp only [get_bind_apply, hc, Bool.not_true, Bool.false_eq_true, if_false, found, set_bind_apply, pure_apply,
    CacheLine.byte_eq_at]
  rfl

/-- A line not held is filled where CD, KEN and PCD allow it (R217, R218). -/
def State.fillsLine (s : State) (pcd : Bool) : Bool := !s.cr0.cd && s.pins.ken && !pcd

/-- A read that fills a line. -/
theorem readPhys_fill (hc : s.cacheOn = true) (missing : (s.setOf a).find a = none) (fills : s.fillsLine pcd = true)
    (present : ∀ i, i < 16 → s.cfg.regionKind (a / 16 * 16 + i) ≠ .absent) :
    readPhys pcd a s = .ok (Memory.read s.mem a, s.putSet a ((s.setOf a).fill (s.memLine a))) := by
  have byte : (s.memLine a).byte a = Memory.read s.mem a := by
    rw [CacheLine.byte_eq_at, memLine_at s a (Nat.mod_lt _ (by decide)), Nat.div_add_mod']
  unfold State.setOf at missing
  unfold State.fillsLine at fills
  unfold readPhys
  simp only [get_bind_apply, hc, Bool.not_true, Bool.false_eq_true, if_false, missing, fills, if_true,
    bind_ok (readBlock_present 16 (a / 16 * 16) present), modify_bind_apply, pure_apply]
  exact congrArg (fun b => Except.ok (b, s.putSet a ((s.setOf a).fill (s.memLine a)))) byte

/-- A read that fills none. -/
theorem readPhys_past (hc : s.cacheOn = true) (missing : (s.setOf a).find a = none) (fills : s.fillsLine pcd = false)
    (present : s.cfg.regionKind a ≠ .absent) : readPhys pcd a s = .ok (Memory.read s.mem a, s) := by
  unfold State.setOf at missing
  unfold State.fillsLine at fills
  unfold readPhys
  simp only [get_bind_apply, hc, Bool.not_true, Bool.false_eq_true, if_false, missing, fills, readMemory_present present]

/-! ### Writes -/

@[simp] theorem storeByte_cache (s : State) (a : Nat) (v : Byte) : (s.storeByte a v).cache = s.cache :=
  noteStore_cache s a v

theorem storeByte_setOf (s : State) (a : Nat) (v : Byte) : (s.storeByte a v).setOf a = s.setOf a := by
  unfold State.setOf
  rw [storeByte_cache]

theorem writeMemory_ram (hr : s.cfg.regionKind a = .ram) : writeMemory a v s = .ok ((), s.storeByte a v) := by
  unfold writeMemory State.storeByte
  simp only [modify_apply, hr, noteStore_mem]

/-- The line in a way after a byte of it is written. -/
def CacheSet.writeByte (c : CacheSet) (k : Fin 4) (a : Nat) (v : Byte) : CacheSet :=
  { ways := c.ways.set k (c.ways[k].setByte a v), lru := c.lru.touch k }

/-- A write of a byte that a line holds goes to the line too, unless CD = NW = 1. -/
theorem writePhys_hit (hc : s.cacheOn = true) (hr : s.cfg.regionKind a = .ram) (through : (s.cr0.cd && s.cr0.nw) = false)
    (found : (s.setOf a).find a = some k) :
    writePhys a v s = .ok ((), (s.storeByte a v).putSet a ((s.setOf a).writeByte k a v)) := by
  have way := (storeByte_same s a v).way
  have on : (s.storeByte a v).cacheOn = true := way.cacheOn.trans hc
  have wanted : ((s.storeByte a v).cr0.cd && (s.storeByte a v).cr0.nw) = false := by rw [way.cr0, through]
  rw [← storeByte_setOf s a v] at found ⊢
  unfold State.setOf at found
  unfold writePhys
  rw [bind_ok (writeMemory_ram hr)]
  simp only [modify_apply, on, wanted, found, Bool.not_false, Bool.and_self, if_true]
  rfl

/-- Any other write leaves the cache. -/
theorem writePhys_past (hr : s.cfg.regionKind a = .ram)
    (past : (s.setOf a).find a = none ∨ (s.cr0.cd && s.cr0.nw) = true) :
    writePhys a v s = .ok ((), s.storeByte a v) := by
  have way := (storeByte_same s a v).way
  unfold writePhys
  rw [bind_ok (writeMemory_ram hr)]
  rcases past with missing | around
  · unfold State.setOf at missing
    simp only [modify_apply, storeByte_cache, missing, ite_self]
  · simp only [modify_apply, way.cr0, around, Bool.not_true, Bool.and_false, Bool.false_eq_true, if_false]

/-! ### What they look like from outside -/

/-- A read of a byte that one line holds: the first cache clause of O52. -/
theorem readPhys_alone (hc : s.cacheOn = true) (hk : s.caches a k) (others : ∀ j, j ≠ k → ¬s.caches a j) :
    ∃ t, readPhys pcd a s = .ok ((s.setOf a).ways[k].at (a % 16), t) ∧ { t with cache := s.cache } = s ∧
      s.usedWay t a k ∧ (t.setOf a).ways[k] = (s.setOf a).ways[k] := by
  refine ⟨_, readPhys_hit hc (find_eq_some hk others), rfl, usedWay_putSet rfl (fun _ _ => rfl) rfl, ?_⟩
  rw [setOf_putSet]

/-- A read that fills a line, into the way R218 and R220 name. -/
theorem readPhys_fills (hc : s.cacheOn = true) (missing : ∀ j, ¬s.caches a j) (fills : s.fillsLine pcd = true)
    (present : ∀ i, i < 16 → s.cfg.regionKind (a / 16 * 16 + i) ≠ .absent) :
    ∃ t k, readPhys pcd a s = .ok (Memory.read s.mem a, t) ∧ { t with cache := s.cache } = s ∧ s.usedWay t a k ∧
      t.caches a k ∧ (∀ i, i < 16 → (t.setOf a).ways[k].at i = Memory.read s.mem (a / 16 * 16 + i)) ∧
      if ∃ q : Fin 4, (s.setOf a).ways[q].valid = false then (s.setOf a).ways[k].valid = false
      else k.val = if (s.setOf a).lru.r0 then (if (s.setOf a).lru.r2 then 3 else 2)
        else if (s.setOf a).lru.r1 then 1 else 0 := by
  obtain ⟨k, filled, which⟩ := (s.setOf a).fill_way (s.memLine a)
  have run := readPhys_fill hc (find_eq_none missing) fills present
  rw [filled] at run
  have line : ((s.putSet a { ways := (s.setOf a).ways.set k (s.memLine a), lru := (s.setOf a).lru.touch k }).setOf
      a).ways[k] = s.memLine a := by rw [setOf_putSet]; exact ways_set_same ..
  refine ⟨_, k, run, rfl, usedWay_putSet rfl (fun _ other => ways_set_other _ _ other) rfl, ?_, fun i hi => ?_, which⟩
  · rw [caches_iff, line]
    simp [State.memLine]
  · rw [line]
    exact memLine_at s a hi

/-- Besides the cache a write to RAM changes memory and the prefetch queue's old bytes only. -/
theorem storeByte_frame (s : State) (a : Nat) (v : Byte) :
    { s.storeByte a v with mem := s.mem, cache := s.cache, stale := s.stale } = s := by
  unfold State.storeByte State.noteStore
  dsimp only
  split <;> rfl

/-- A write to RAM, through the cache. -/
theorem writePhys_cases (hc : s.cacheOn = true) (hm : s.memoryOk = true) (hr : s.cfg.regionKind a = .ram) :
    ∃ t, writePhys a v s = .ok ((), t) ∧ { t with mem := s.mem, cache := s.cache, stale := s.stale } = s ∧
      Memory.read t.mem a = v ∧ (∀ x, x ≠ a → Memory.read t.mem x = Memory.read s.mem x) ∧
      ((∀ k, ¬s.caches a k) ∨ s.cr0.cd = true ∧ s.cr0.nw = true → t.cache = s.cache) ∧
      ∀ k, (s.caches a k ∧ ∀ j, j ≠ k → ¬s.caches a j) → ¬(s.cr0.cd = true ∧ s.cr0.nw = true) →
        s.usedWay t a k ∧ t.caches a k ∧
        ∀ i, i < 16 → (t.setOf a).ways[k].at i = if i = a % 16 then v else (s.setOf a).ways[k].at i := by
  have same : Memory.read (s.storeByte a v).mem a = v := Memory.read_write_same hm a v
  have other : ∀ x, x ≠ a → Memory.read (s.storeByte a v).mem x = Memory.read s.mem x :=
    fun x hx => Memory.read_write_other _ _ hx
  by_cases hit : ∃ k, (s.setOf a).find a = some k ∧ (s.cr0.cd && s.cr0.nw) = false
  · obtain ⟨k, found, through⟩ := hit
    have held : s.caches a k := caches_iff.2 (findWay_some found)
    refine ⟨_, writePhys_hit hc hr through found, storeByte_frame s a v, same, other, ?_, ?_⟩
    · rintro (missing | around)
      · exact absurd held (missing k)
      · simp [around] at through
    · rintro j ⟨hj, others⟩ -
      obtain rfl : k = j := by
        by_contra e
        exact others k e held
      have line : (((s.storeByte a v).putSet a ((s.setOf a).writeByte k a v)).setOf a).ways[k] =
          (s.setOf a).ways[k].setByte a v := by rw [setOf_putSet]; exact ways_set_same ..
      refine ⟨usedWay_putSet (storeByte_cache s a v) (fun _ other => ways_set_other _ _ other) rfl, ?_, ?_⟩
      · rw [caches_iff, line]
        exact caches_iff.1 held
      · intro i hi
        rw [line]
        exact CacheLine.setByte_at _ _ _ hi
  · have past : (s.setOf a).find a = none ∨ (s.cr0.cd && s.cr0.nw) = true := by
      cases found : (s.setOf a).find a with
      | none => exact .inl rfl
      | some k => exact .inr (by by_contra through; exact hit ⟨k, found, by simpa using through⟩)
    refine ⟨_, writePhys_past hr past, storeByte_frame s a v, same, other, fun _ => storeByte_cache s a v, ?_⟩
    rintro k ⟨hk, others⟩ through
    rcases past with missing | around
    · rw [find_eq_some hk others] at missing
      cases missing
    · exact absurd (by simpa using around) through

end Sys2Proof.Machine
end

section
/-! PROOFS. Translation of a page: the walk of the tables where no cache is modelled, and a TLB entry that answers. -/
-- One declaration after the other: many proofs at once take more thread stacks than the memory limit allows.
set_option Elab.async false
namespace Sys2Proof.Machine

variable {s t u : State} {lin a : Nat} {write user : Bool} {e : PageEntry}

/-! ### Protection -/

/-- Bits U and W of an entry as a number (R195). -/
theorem peUW_eq (e : PageEntry) : peUW e = e.toNat / 2 % 4 := by
  unfold peUW peUser peWrite
  simp only [BitVec.getLsbD, Nat.testBit_eq_decide_div_mod_eq]
  have bit : ∀ n, (decide (n % 2 = 1)).toNat = n % 2 := fun n => by
    rcases Nat.mod_two_eq_zero_or_one n with zero | one
    · simp [zero]
    · simp [one]
  rw [bit, bit]
  omega

/-- What a pair of U and W allows (R195, R197). -/
theorem pageAllows_iff {u w : Bool} : pageAllows s.wpOn user write (u, w) = true ↔
    if user then u = true ∧ (write = true → w = true)
      else write = true → s.level = 4 → s.cr0.wp = true → w = true := by
  simp only [pageAllows, State.wpOn]
  cases user
  · cases write
    · simp
    · by_cases level : s.level = 4
      · cases s.cr0.wp <;> simp [level]
      · simp [level]
  · cases write <;> simp

/-- What the lower of two protections allows. -/
theorem pageAllows_combineUW (pde pte : PageEntry) : pageAllows s.wpOn user write (combineUW pde pte) = true ↔
    let low := min (pde.toNat / 2 % 4) (pte.toNat / 2 % 4)
    if user then 2 ≤ low ∧ (write = true → low % 2 = 1)
      else write = true → s.level = 4 → s.cr0.wp = true → low % 2 = 1 := by
  unfold combineUW
  simp only [pageAllows_iff, peUW_eq, decide_eq_true_eq]

/-! ### What a walk changes -/

/-- From `s` to `t` only memory, the TLB, the prefetch queue's old bytes and the count of free values changed. -/
def State.walkedTo (s t : State) : Prop :=
  t = { s with mem := t.mem, tlb := t.tlb, stale := t.stale, oracle := t.oracle }

theorem State.walkedTo.refl (s : State) : s.walkedTo s := rfl

theorem State.walkedTo.trans (h : s.walkedTo t) (k : t.walkedTo u) : s.walkedTo u := by
  unfold State.walkedTo at *
  rw [k, h]

theorem State.walkedTo.way (h : s.walkedTo t) : s.SameWay t := by
  unfold State.walkedTo at h
  rw [h]
  exact ⟨rfl, rfl, rfl, fun r => by cases r <;> rfl, rfl, rfl, rfl⟩

theorem State.walkedTo.frame (h : s.walkedTo t) :
    { t with mem := s.mem, tlb := s.tlb, stale := s.stale, oracle := s.oracle } = s := by
  unfold State.walkedTo at h
  rw [h]

theorem storeByte_walkedTo (s : State) (a : Nat) (v : Byte) : s.walkedTo (s.storeByte a v) := by
  unfold State.walkedTo State.storeByte State.noteStore
  dsimp only
  split <;> rfl

/-! ### Entries in memory -/

/-- The entry of a directory or table at an address. -/
def State.entryAt (s : State) (a : Nat) : PageEntry :=
  leValue 32 ((List.range 4).map fun i => Memory.read s.mem (s.physical (a + i)))

theorem readEntry_flat (hc : s.cacheOn = false) (pcd : Bool)
    (ram : ∀ i, i < 4 → s.cfg.regionKind (s.physical (a + i)) = .ram) : readEntry pcd a s = .ok (s.entryAt a, s) := by
  have read : readPlaces (((List.range 4).map fun i => s.physical (a + i)).map fun x => { addr := x, pcd := pcd }) s = _ :=
    readPlaces_flat hc pcd _ fun x hx => by
      obtain ⟨i, hi, rfl⟩ := List.mem_map.1 hx
      unfold State.mapped
      rw [ram i (List.mem_range.1 hi)]
  rw [List.map_map, List.map_map] at read
  unfold readEntry
  rw [get_bind_apply, ← Function.comp_def (fun x => ({ addr := x, pcd := pcd } : Place)) fun i => s.physical (a + i),
    bind_ok read]
  rfl

/-- The byte of an entry that holds A and D. -/
theorem entryAt_byte (s : State) (a : Nat) : (s.entryAt a).setWidth 8 = Memory.read s.mem (s.physical a) := by
  have low := leValue_byte (w := 32) ((List.range 4).map fun i => Memory.read s.mem (s.physical (a + i))) 0 (by simp)
    (by simp)
  have narrow : (s.entryAt a).setWidth 8 = (s.entryAt a).extractLsb' (8 * 0) 8 := by ext i hi; simp
  exact (narrow.trans low).trans (by simp)

/-- A byte that is not blank reads back, whatever the form of the memory. -/
theorem Memory.read_write_visible (m : Memory) (a : Nat) {v : Byte} (h : v ≠ Memory.blank) :
    Memory.read (Memory.write m a v) a = v := by
  induction m with
  | nil => simp [Memory.write, Memory.read, h]
  | cons c rest ih =>
    obtain ⟨k, w⟩ := c
    simp only [Memory.write, if_neg h]
    split
    · simp [Memory.read]
    · split
      · simp [Memory.read]
      · rename_i other
        simp only [Memory.read, if_neg (Ne.symm other), ih]

/-- The bits a walk sets in an entry: A, and D for a write (R198). -/
def markBits (dirty : Bool) : Byte := if dirty then 0x60 else 0x20

theorem or_markBits_ne_blank (b : Byte) (dirty : Bool) : b ||| markBits dirty ≠ Memory.blank := by
  cases dirty
  · revert b; decide
  · revert b; decide

/-- An entry whose A, and D where it is wanted, are set already. -/
theorem or_markBits_of_marked (e : PageEntry) {dirty : Bool} (h : (!peAccessed e || (dirty && !peDirty e)) = false) :
    e.setWidth 8 ||| markBits dirty = e.setWidth 8 := by
  simp only [Bool.or_eq_false_iff, Bool.not_eq_false', peAccessed, peDirty] at h
  obtain ⟨accessed, isDirty⟩ := h
  ext i hi
  cases dirty with
  | false => interval_cases i <;> simp [markBits, accessed]
  | true =>
    have marked : e.getLsbD 6 = true := by simpa using isDirty
    interval_cases i <;> simp [markBits, accessed, marked]

/-- Marking an entry, whose byte memory may hold no longer: only that byte changes. -/
theorem markEntry_flat (hc : s.cacheOn = false) (ram : s.cfg.regionKind (s.physical a) = .ram) (dirty : Bool) :
    ∃ t, markEntry a e dirty s = .ok ((), t) ∧ s.walkedTo t ∧
      (∀ x, x ≠ s.physical a → Memory.read t.mem x = Memory.read s.mem x) ∧
      (Memory.read s.mem (s.physical a) = e.setWidth 8 →
        Memory.read t.mem (s.physical a) = Memory.read s.mem (s.physical a) ||| markBits dirty) := by
  unfold markEntry
  cases needed : !peAccessed e || (dirty && !peDirty e) with
  | false =>
    refine ⟨s, rfl, .refl s, fun _ _ => rfl, fun held => ?_⟩
    rw [held, or_markBits_of_marked e needed]
  | true =>
    refine ⟨s.storeByte (s.physical a) (e.setWidth 8 ||| markBits dirty),
      writePhys_flat hc (by unfold State.mapped; rw [ram]) _, storeByte_walkedTo .., fun x hx => ?_, fun held => ?_⟩
    · exact Memory.read_write_other _ _ hx
    · rw [storeByte_mem, Memory.read_write_visible _ _ (or_markBits_ne_blank _ dirty), held]

/-! ### The TLB -/

theorem chooseWay_walkedTo (set : TlbSet) (s : State) :
    ∃ w t, chooseWay set s = .ok (w, t) ∧ s.walkedTo t ∧ t.mem = s.mem := by
  unfold chooseWay
  cases findWay fun w => !set.ways[w].valid with
  | some w => exact ⟨w, s, rfl, .refl s, rfl⟩
  | none =>
    dsimp only
    rw [get_bind_apply]
    split
    · exact ⟨_, s, rfl, .refl s, rfl⟩
    · exact ⟨_, _, rfl, rfl, rfl⟩

theorem tlbInsert_walkedTo (lin : Nat) (entry : TlbEntry) (s : State) :
    ∃ t, tlbInsert lin entry s = .ok ((), t) ∧ s.walkedTo t ∧ t.mem = s.mem := by
  obtain ⟨w, t, chosen, walked, mem⟩ := chooseWay_walkedTo s.tlb[tlbSetOf lin] s
  unfold tlbInsert
  simp only [get_bind_apply, bind_ok chosen, modify_apply]
  exact ⟨_, rfl, walked.trans rfl, mem⟩

/-! ### The walk -/

/-- The directory entry and the table entry of a page (R192). -/
def State.pdeOf (s : State) (lin : Nat) : PageEntry := s.entryAt (pdeAddr s.cr3 lin)
def State.pteOf (s : State) (lin : Nat) : PageEntry := s.entryAt (pteAddr (s.pdeOf lin) lin)

/-- Both entries lie in RAM, and no cache is modelled. -/
structure State.tablesReach (s : State) (lin : Nat) : Prop where
  cacheOff : s.cacheOn = false
  pdeRam : ∀ i, i < 4 → s.cfg.regionKind (s.physical (pdeAddr s.cr3 lin + i)) = .ram
  pteRam : ∀ i, i < 4 → s.cfg.regionKind (s.physical (pteAddr (s.pdeOf lin) lin + i)) = .ram

theorem State.tablesReach.readPde (h : s.tablesReach lin) :
    readEntry (s.pcdOf s.cr3) (pdeAddr s.cr3 lin) s = .ok (s.pdeOf lin, s) := readEntry_flat h.cacheOff _ h.pdeRam

theorem State.tablesReach.readPte (h : s.tablesReach lin) :
    readEntry (s.pcdOf (s.pdeOf lin)) (pteAddr (s.pdeOf lin) lin) s = .ok (s.pteOf lin, s) :=
  readEntry_flat h.cacheOff _ h.pteRam

/-- The low byte of an entry is the one that holds A and D. -/
theorem pdeOf_byte (s : State) (lin : Nat) :
    Memory.read s.mem (s.physical (pdeAddr s.cr3 lin)) = (s.pdeOf lin).setWidth 8 := (entryAt_byte s _).symm

theorem pteOf_byte (s : State) (lin : Nat) :
    Memory.read s.mem (s.physical (pteAddr (s.pdeOf lin) lin)) = (s.pteOf lin).setWidth 8 := (entryAt_byte s _).symm

theorem State.tablesReach.pdeByte (h : s.tablesReach lin) :
    s.cfg.regionKind (s.physical (pdeAddr s.cr3 lin)) = .ram := by
  have zeroth := h.pdeRam 0 (by decide)
  rwa [Nat.add_zero] at zeroth

theorem State.tablesReach.pteByte (h : s.tablesReach lin) :
    s.cfg.regionKind (s.physical (pteAddr (s.pdeOf lin) lin)) = .ram := by
  have zeroth := h.pteRam 0 (by decide)
  rwa [Nat.add_zero] at zeroth

/-- An entry that is not present: a page fault that says so. -/
theorem walk_absent (h : s.tablesReach lin) (absent : pePresent (s.pdeOf lin) = false ∨ pePresent (s.pteOf lin) = false) :
    walk lin write user s = pageFault lin false write user s := by
  unfold walk
  rw [get_bind_apply, bind_ok h.readPde]
  cases pde : pePresent (s.pdeOf lin) with
  | false => exact check_bind_bad rfl _ rfl
  | true =>
    have pte : pePresent (s.pteOf lin) = false := by simpa [pde] using absent
    rw [check_bind_ok rfl, bind_ok h.readPte]
    exact check_bind_bad pte _ rfl

/-- Both present, and the protection does not allow the access: a page fault that says so. -/
theorem walk_denied (h : s.tablesReach lin) (pde : pePresent (s.pdeOf lin) = true) (pte : pePresent (s.pteOf lin) = true)
    (denied : pageAllows s.wpOn user write (combineUW (s.pdeOf lin) (s.pteOf lin)) = false) :
    walk lin write user s = pageFault lin true write user s := by
  unfold walk
  rw [get_bind_apply, bind_ok h.readPde, check_bind_ok pde, bind_ok h.readPte, check_bind_ok pte]
  exact check_bind_bad denied _ rfl

/-- A WALK THAT COMPLETES: the frame of the table entry, and what it marks in the two entries. -/
theorem walk_completes (h : s.tablesReach lin) (pde : pePresent (s.pdeOf lin) = true) (pte : pePresent (s.pteOf lin) = true)
    (allowed : pageAllows s.wpOn user write (combineUW (s.pdeOf lin) (s.pteOf lin)) = true) :
    let da := s.physical (pdeAddr s.cr3 lin)
    let ta := s.physical (pteAddr (s.pdeOf lin) lin)
    ∃ p t, walk lin write user s = .ok (p, t) ∧ p.addr = peFrame (s.pteOf lin) + lin % 4096 ∧ s.walkedTo t ∧
      (∀ x, x ≠ da → x ≠ ta → Memory.read t.mem x = Memory.read s.mem x) ∧
      (da ≠ ta → Memory.read t.mem da = Memory.read s.mem da ||| markBits false ∧
        Memory.read t.mem ta = Memory.read s.mem ta ||| markBits write) := by
  intro da ta
  obtain ⟨t1, mark1, walked1, others1, bits1⟩ :=
    markEntry_flat (e := s.pdeOf lin) h.cacheOff h.pdeByte false
  have way := walked1.way
  have ram : t1.cfg.regionKind (t1.physical (pteAddr (s.pdeOf lin) lin)) = .ram := by
    rw [way.cfg, way.physical]
    exact h.pteByte
  obtain ⟨t2, mark2, walked2, others2, bits2⟩ :=
    markEntry_flat (e := s.pteOf lin) (way.cacheOn.trans h.cacheOff) ram write
  rw [way.physical] at others2 bits2
  obtain ⟨t3, insert, walked3, mem3⟩ := tlbInsert_walkedTo lin
    { valid := true, tag := tlbTagOf lin, dirty := peDirty (s.pteOf lin) || write
      user := (combineUW (s.pdeOf lin) (s.pteOf lin)).1, write := (combineUW (s.pdeOf lin) (s.pteOf lin)).2
      pcd := s.pcdOf (s.pteOf lin), pwt := decide (s.level = 4) && pePwt (s.pteOf lin)
      frame := BitVec.ofNat 20 ((s.pteOf lin).toNat / 4096), seen := t2.peekTables lin } t2
  refine ⟨{ addr := peFrame (s.pteOf lin) + lin % 4096, pcd := s.pcdOf (s.pteOf lin) }, t3, ?run, rfl,
    (walked1.trans walked2).trans walked3, fun x hda hta => ?other, fun apart => ⟨?dirBits, ?tableBits⟩⟩
  case run =>
    unfold walk
    rw [get_bind_apply, bind_ok h.readPde, check_bind_ok pde, bind_ok h.readPte, check_bind_ok pte, check_bind_ok allowed,
      bind_ok mark1, bind_ok mark2, get_bind_apply, bind_ok insert, pure_apply]
  case other => rw [mem3, others2 x hta, others1 x hda]
  case dirBits => rw [mem3, others2 da apart, bits1 (pdeOf_byte s lin)]
  case tableBits =>
    have kept : Memory.read t1.mem ta = Memory.read s.mem ta := others1 ta apart.symm
    rw [mem3, bits2 (kept.trans (pteOf_byte s lin)), kept]

/-! ### A TLB entry that answers -/

theorem setTlb_same (s : State) (i : Fin 8) (set : TlbSet) : (s.setTlb i set).tlb[i] = set := by
  simp [State.setTlb]

theorem setTlb_other (s : State) {i j : Fin 8} (set : TlbSet) (h : j ≠ i) : (s.setTlb i set).tlb[j] = s.tlb[j] :=
  Vector.getElem_set_ne i.isLt j.isLt fun e => h (Fin.ext e.symm)

/-- An entry that answers, and whose tables are what they were, gives the frame (R204). -/
theorem translatePage_hit {k : Fin 4} (found : s.tlb[tlbSetOf lin].find s.wpOn lin write user = some k)
    (fresh : s.entryFresh lin s.tlb[tlbSetOf lin].ways[k] = true) :
    translatePage lin write user s =
      .ok ({ addr := s.tlb[tlbSetOf lin].ways[k].frame.toNat * 4096 + lin % 4096, pcd := s.tlb[tlbSetOf lin].ways[k].pcd },
        s.setTlb (tlbSetOf lin) { s.tlb[tlbSetOf lin] with lru := s.tlb[tlbSetOf lin].lru.touch k }) := by
  unfold translatePage
  simp only [get_bind_apply, found, fresh, if_true, pure_bind_apply, modify_bind_apply, pure_apply]

theorem translatePage_miss (missing : s.tlb[tlbSetOf lin].find s.wpOn lin write user = none) :
    translatePage lin write user s = walk lin write user s := by
  unfold translatePage
  simp only [get_bind_apply, missing]

/-- The only entry of a page answers an access it allows. -/
theorem tlbFind_alone {set : TlbSet} {k : Fin 4} (page : set.ways[k].holds lin = true)
    (others : ∀ q, q ≠ k → set.ways[q].holds lin = false) (dirty : write = true → set.ways[k].dirty = true)
    (allows : pageAllows s.wpOn user write (set.ways[k].user, set.ways[k].write) = true) :
    set.find s.wpOn lin write user = some k := by
  refine findWay_alone ?_ fun q hq => ?_
  · have clean : (!write || set.ways[k].dirty) = true := by
      cases write
      · rfl
      · exact dirty rfl
    simp only [TlbEntry.hits, page, allows, clean, Bool.and_self]
  · simp only [TlbEntry.hits, others q hq, Bool.false_and]

theorem holds_iff {e : TlbEntry} : e.holds lin = true ↔ e.valid = true ∧ e.tag = BitVec.ofNat 17 (lin / 2 ^ 15) := by
  unfold TlbEntry.holds
  rw [Bool.and_eq_true, beq_iff_eq]
  rfl

end Sys2Proof.Machine
end

section
/-! PROOFS. Translation of a page and the internal cache: all parts together. -/
-- One declaration after the other: many proofs at once take more thread stacks than the memory limit allows.
set_option Elab.async false
namespace Sys2Proof.Machine

/-- The directory entry's address, for a linear address of 32 bits (R192). -/
theorem pdeAddr_eq (cr3 : Dword) {lin : Nat} (h : lin < 2 ^ 32) :
    pdeAddr cr3 lin = cr3.toNat / 4096 * 4096 + lin / 2 ^ 22 * 4 := by
  unfold pdeAddr
  omega

/-- Settles O52: a walk by `walk_absent`, `walk_denied` and `walk_completes`, a TLB entry by `translatePage_hit`, and the
cache by `readPhys_alone`, `readPhys_fills`, `readPhys_past` and `writePhys_cases`. -/
theorem pageTranslation : Obligations.PageTranslation := by
  refine ⟨?walk, ?hit, ?cache⟩
  case walk =>
    intro s lin write user hc hlin missing
    rw [← pdeAddr_eq s.cr3 hlin, translatePage_miss missing]
    intro place entry da pde ta pte ram faulty uw low allowed
    have reach : s.tablesReach lin := ⟨hc, fun i hi => (ram i hi).1, fun i hi => (ram i hi).2⟩
    have atFirst : ∀ a, place a 0 = s.physical a := fun a => by simp only [place, Nat.add_zero]
    have allowedIff : pageAllows s.wpOn user write (combineUW (s.pdeOf lin) (s.pteOf lin)) = true ↔ allowed :=
      pageAllows_combineUW _ _
    refine ⟨fun absent => walk_absent reach absent, fun hd ht denied => ?_, fun hd ht allows => ?_⟩
    · exact walk_denied reach hd ht (Bool.eq_false_iff.2 fun ok => denied (allowedIff.1 ok))
    · obtain ⟨p, t, run, addr, walked, others, bits⟩ := walk_completes reach hd ht (allowedIff.2 allows)
      rw [atFirst, atFirst]
      exact ⟨p, t, run, addr, walked.frame, others, bits⟩
  case hit =>
    intro s lin write user k j e page held others fresh dirty allows
    have found : s.tlb[j].find s.wpOn lin write user = some k :=
      tlbFind_alone (holds_iff.2 held) (fun q hq => Bool.eq_false_iff.2 fun other => others q hq (holds_iff.1 other)) dirty
        (pageAllows_iff.2 allows)
    refine ⟨_, _, translatePage_hit found fresh, rfl, rfl, rfl, fun i hi => setTlb_other s _ hi, ?_, fun _ => ?_⟩
    · rw [setTlb_same]
    · rw [setTlb_same]
      exact Lru.usedFor_touch _ k
  case cache =>
    intro s pcd a v hc hm c alone line fills
    have fillsIff : s.fillsLine pcd = true ↔ fills := by simp [State.fillsLine, fills, and_assoc]
    refine ⟨fun k hk => readPhys_alone hc hk.1 hk.2,
      fun missing fill present => readPhys_fills hc missing (fillsIff.2 fill) present,
      fun missing past present => readPhys_past hc (find_eq_none missing)
        (Bool.eq_false_iff.2 fun fill => past (fillsIff.1 fill)) present, fun ram => writePhys_cases hc hm ram⟩

end Sys2Proof.Machine
end

section
/-! PROOFS. Reading undoes writing for the parts of an instruction: the fields of ModRM and SIB, constants, and
operands. -/
-- One declaration after the other: many proofs at once take more thread stacks than the memory limit allows.
set_option Elab.async false
namespace Sys2Proof

/-! ### Register numbers and fields -/

@[simp] theorem Reg.ofNum_num (r : Reg) : Reg.ofNum r.num = r := by cases r <;> rfl

@[simp] theorem Reg8.ofNum_num (r : Reg8) : Reg8.ofNum r.num = r := by cases r <;> rfl

@[simp] theorem Base16.ofNum_num (b : Base16) : Base16.ofNum b.num = b := by cases b <;> rfl

/-- A segment register the processor has is the one its number names (R274). -/
theorem SReg.ofNum_num {c : DecodeCtx} {s : SReg} (h : c.hasSReg s = true) : SReg.ofNum c s.num = some s := by
  cases s with
  | es | cs | ss | ds => rfl
  | fs | gs => exact if_pos (of_decide_eq_true h)

/-- The number of BP, which stands for a direct address when there is no displacement (R272). -/
theorem Base16.num_eq_six {b : Base16} : b.num = 6 ↔ b = .bp := by cases b <;> decide

/-- The number of ESP, which announces a SIB byte (R273). -/
theorem Reg.num_eq_four {r : Reg} : r.num = 4 ↔ r = .esp := by cases r <;> decide

/-- The number of EBP, which stands for a direct address when there is no displacement (R273). -/
theorem Reg.num_eq_five {r : Reg} : r.num = 5 ↔ r = .ebp := by cases r <;> decide

theorem Disp32.mod_eq_zero {d : Disp32} : d.mod = 0 ↔ d = .none := by cases d <;> simp [Disp32.mod]

theorem Disp16.mod_ne_three (d : Disp16) : d.mod ≠ 3 := by cases d <;> simp [Disp16.mod]

theorem Disp32.mod_ne_three (d : Disp32) : d.mod ≠ 3 := by cases d <;> simp [Disp32.mod]

@[simp] theorem modOf_modrmByte (mod : BitVec 2) (reg rm : BitVec 3) : modOf (modrmByte mod reg rm) = mod := by
  rw [modOf, modrmByte, BitVec.append_assoc]
  exact BitVec.extractLsb'_append_eq_left

@[simp] theorem regOf_modrmByte (mod : BitVec 2) (reg rm : BitVec 3) : regOf (modrmByte mod reg rm) = reg := by
  rw [regOf, modrmByte, BitVec.extractLsb'_append_eq_of_le (Nat.le_refl 3)]
  exact BitVec.extractLsb'_append_eq_right

@[simp] theorem rmOf_modrmByte (mod : BitVec 2) (reg rm : BitVec 3) : rmOf (modrmByte mod reg rm) = rm :=
  BitVec.extractLsb'_append_eq_right

/-! ### Readers that undo an encoding -/

/-- A reader that takes the value from the bytes that encode it, whatever follows them. -/
def Reads {α : Type} (p : List Byte → Parsed α) (bs : List Byte) (a : α) : Prop :=
  ∀ rest, p (bs ++ rest) = .ok a rest

variable {α β : Type} {c : DecodeCtx} {p : List Byte → Parsed α} {bs more : List Byte} {a : α} {b : β}

theorem Reads.ok (a : α) : Reads (Parsed.ok a) [] a := fun _ => rfl

theorem Reads.andThen {f : α → List Byte → Parsed β} (hp : Reads p bs a) (hf : Reads (f a) more b) :
    Reads (fun bs => (p bs).andThen f) (bs ++ more) b := fun rest => by
  simp only [List.append_assoc, hp (more ++ rest), Parsed.andThen, hf rest]

/-- A reader followed by a function of its value. -/
theorem Reads.map {g : α → β} (hp : Reads p bs a) :
    Reads (fun bs => (p bs).andThen fun a rest => .ok (g a) rest) bs (g a) := fun rest => by
  simp only [hp rest, Parsed.andThen]

/-! ### Constants (R262) -/

theorem readByte_reads (b : Byte) : Reads readByte [b] b := fun _ => rfl

theorem readWord_reads (w : Word) : Reads readWord (wordBytes w) w := fun rest => by
  have whole : w.extractLsb' 8 8 ++ w.extractLsb' 0 8 = w := by
    rw [BitVec.extractLsb'_append_extractLsb'_eq_extractLsb' (by omega)]
    exact BitVec.extractLsb'_eq_self
  exact congrArg (Parsed.ok · rest) whole

theorem readDword_reads (d : Dword) : Reads readDword (dwordBytes d) d := fun rest => by
  have whole : d.extractLsb' 24 8 ++ d.extractLsb' 16 8 ++ d.extractLsb' 8 8 ++ d.extractLsb' 0 8 = d := by
    iterate 3 rw [BitVec.extractLsb'_append_extractLsb'_eq_extractLsb' (by omega)]
    exact BitVec.extractLsb'_eq_self
  exact congrArg (Parsed.ok · rest) whole

/-- A constant that fits its size. -/
theorem readSized_reads {wide : Bool} {v : Dword} (fits : (wide || decide (v.toNat < 65536)) = true) :
    Reads (readSized wide) (encSized wide v) v := by
  cases wide with
  | true => exact readDword_reads v
  | false =>
    have small : (v.setWidth 16).setWidth 32 = v := by
      have : v.toNat < 65536 := by simpa using fits
      bv_omega
    have read := (readWord_reads (v.setWidth 16)).map (g := BitVec.setWidth 32)
    rwa [small] at read

/-! ### Memory operands (R272, R273) -/

theorem readDisp32_reads (d : Disp32) : Reads (readDisp32 d.mod) (encDisp32 d) d := by
  cases d with
  | none => exact .ok _
  | d8 d => exact (readByte_reads d).map
  | d32 d => exact (readDword_reads d).map

theorem readMem16_based {b : Base16} {d : Disp16} (h : b ≠ .bp ∨ d ≠ .none) :
    Reads (readMem16 d.mod b.num) (encDisp16 d) (.based16 b d) := fun rest => by
  cases d with
  | none =>
    have indirect : b.num ≠ 6 := fun six => (h.resolve_right (· rfl)) (Base16.num_eq_six.1 six)
    refine (if_neg indirect).trans ?_
    rw [Base16.ofNum_num]
    rfl
  | d8 d =>
    have read : Reads (readMem16 1 b.num) [d] (.based16 (Base16.ofNum b.num) (.d8 d)) := (readByte_reads d).map
    rw [Base16.ofNum_num] at read
    exact read rest
  | d16 d =>
    have read : Reads (readMem16 2 b.num) (wordBytes d) (.based16 (Base16.ofNum b.num) (.d16 d)) :=
      (readWord_reads d).map
    rw [Base16.ofNum_num] at read
    exact read rest

theorem readMem16_direct (d : Word) : Reads (readMem16 0 6) (wordBytes d) (.direct16 d) := (readWord_reads d).map

/-- A base and its displacement are not encoded as EBP without one, which would be a direct address. -/
theorem not_direct32 {b : Reg} {d : Disp32} (h : b ≠ .ebp ∨ d ≠ .none) : ¬(d.mod = 0 ∧ b.num = 5) := fun ⟨mod, num⟩ =>
  h.elim (· (Reg.num_eq_five.1 num)) (· (Disp32.mod_eq_zero.1 mod))

theorem readMem32_based {b : Reg} {d : Disp32} (noSib : b ≠ .esp) (h : b ≠ .ebp ∨ d ≠ .none) :
    Reads (readMem32 d.mod b.num) (encDisp32 d) (.based32 b d) := fun rest => by
  rw [readMem32, if_neg (noSib ∘ Reg.num_eq_four.1), if_neg (not_direct32 h), readDisp32_reads d rest, Parsed.andThen,
    Reg.ofNum_num]

theorem readMem32_direct (d : Dword) : Reads (readMem32 0 5) (dwordBytes d) (.direct32 d) := (readDword_reads d).map

theorem readMem32_sib {s : BitVec 2} {i b : Reg} {d : Disp32} (h : b ≠ .ebp ∨ d ≠ .none) :
    Reads (readMem32 d.mod 4) (modrmByte s i.num b.num :: encDisp32 d) (.sib s i b d) := fun rest => by
  simp only [readMem32, if_pos, List.cons_append, readByte, Parsed.andThen, modOf_modrmByte, regOf_modrmByte,
    rmOf_modrmByte, if_neg (not_direct32 h), readDisp32_reads d rest, Reg.ofNum_num]

theorem readMem32_sibNoBase (s : BitVec 2) (i : Reg) (d : Dword) :
    Reads (readMem32 0 4) (modrmByte s i.num 5 :: dwordBytes d) (.sibNoBase s i d) := fun rest => by
  simp only [readMem32, if_pos, and_self, List.cons_append, readByte, Parsed.andThen, modOf_modrmByte, regOf_modrmByte,
    rmOf_modrmByte, readDword_reads d rest, Reg.ofNum_num]

theorem readMem_narrow (h : c.addr32 = false) : readMem c = readMem16 := by
  funext mod rm bs
  simp [readMem, h]

theorem readMem_wide (h : c.addr32 = true) : readMem c = readMem32 := by
  funext mod rm bs
  simp [readMem, h]

/-! ### Operands of ModRM (R271) -/

/-- A ModRM byte with a reg field and what follows it: the reader takes the value from the other two fields and the
bytes after. -/
def ModrmReads {α : Type} (p : BitVec 2 → BitVec 3 → List Byte → Parsed α) (reg : BitVec 3) (bs : List Byte) (a : α) :
    Prop :=
  ∃ mod rm tail, bs = modrmByte mod reg rm :: tail ∧ Reads (p mod rm) tail a

variable {q : BitVec 2 → BitVec 3 → List Byte → Parsed α} {reg : BitVec 3}

theorem ModrmReads.andThen {f : α → List Byte → Parsed β} (hq : ModrmReads q reg bs a) (hf : Reads (f a) more b) :
    ModrmReads (fun mod rm bs => (q mod rm bs).andThen f) reg (bs ++ more) b := by
  obtain ⟨mod, rm, tail, rfl, read⟩ := hq
  exact ⟨mod, rm, tail ++ more, rfl, read.andThen hf⟩

theorem ModrmReads.map {g : α → β} (hq : ModrmReads q reg bs a) :
    ModrmReads (fun mod rm bs => (q mod rm bs).andThen fun a rest => .ok (g a) rest) reg bs (g a) := by
  obtain ⟨mod, rm, tail, rfl, read⟩ := hq
  exact ⟨mod, rm, tail, rfl, read.map⟩

/-- A memory operand never has mod = 11, and its bytes after ModRM read as the operand. -/
theorem encMem_reads {m : Mem} (reg : BitVec 3) (hm : m.wf c = true) :
    ∃ mod rm tail, mod ≠ 3 ∧ encMem reg m = modrmByte mod reg rm :: tail ∧ Reads (readMem c mod rm) tail m := by
  cases m with simp only [Mem.wf, Bool.not_and, Bool.and_eq_true, Bool.or_eq_true, Bool.not_eq_eq_eq_not, Bool.not_true,
    beq_eq_false_iff_ne, ne_eq] at hm
  | based16 b d =>
    rw [readMem_narrow hm.1]
    exact ⟨_, _, _, d.mod_ne_three, rfl, readMem16_based hm.2⟩
  | direct16 d =>
    rw [readMem_narrow hm]
    exact ⟨_, _, _, by decide, rfl, readMem16_direct d⟩
  | based32 b d =>
    obtain ⟨⟨wide, noSib⟩, based⟩ := hm
    rw [readMem_wide wide]
    exact ⟨_, _, _, d.mod_ne_three, rfl, readMem32_based noSib based⟩
  | direct32 d =>
    rw [readMem_wide hm]
    exact ⟨_, _, _, by decide, rfl, readMem32_direct d⟩
  | sib s i b d =>
    rw [readMem_wide hm.1]
    exact ⟨_, _, _, d.mod_ne_three, rfl, readMem32_sib hm.2⟩
  | sibNoBase s i d =>
    rw [readMem_wide hm]
    exact ⟨_, _, _, by decide, rfl, readMem32_sibNoBase s i d⟩

/-- A memory operand where mod = 11 would mean something else. -/
theorem encMem_modrm {m : Mem} (hm : m.wf c = true) {atReg : BitVec 2 → BitVec 3 → List Byte → Parsed β} {g : Mem → β} :
    ModrmReads (fun mod rm bs => if mod = 3 then atReg mod rm bs else
      (readMem c mod rm bs).andThen fun m rest => .ok (g m) rest) reg (encMem reg m) (g m) := by
  obtain ⟨mod, rm, tail, memory, bytes, read⟩ := encMem_reads reg hm
  refine ⟨mod, rm, tail, bytes, ?_⟩
  simpa only [if_neg memory] using read.map

theorem encRm8_modrm {d : Rm8} (hd : d.wf c = true) : ModrmReads (readRm8 c) reg (encRm8 reg d) d := by
  cases d with
  | reg r => exact ⟨3, r.num, [], rfl, fun rest => by simp [readRm8]⟩
  | mem m => exact encMem_modrm hd

theorem encRmv_modrm {d : Rmv} (hd : d.wf c = true) : ModrmReads (readRmv c) reg (encRmv reg d) d := by
  cases d with
  | reg r => exact ⟨3, r.num, [], rfl, fun rest => by simp [readRmv]⟩
  | mem m => exact encMem_modrm hd

end Sys2Proof
end

section
/-! PROOFS. DECODING UNDOES ENCODING: for each form of the opcode tables, what follows the opcode is read back; then for
each instruction, its opcode has its form. -/
-- One declaration after the other: many proofs at once take more thread stacks than the memory limit allows.
set_option Elab.async false
namespace Sys2Proof

variable {c : DecodeCtx} {i : Instr} {bs : List Byte} {b : Byte} {w : Bool} {n : Nat}

/-! ### From the opcode to its entry -/

/-- What an entry reads, the decoder reads after the opcode byte. An escape reads nothing. -/
theorem decode_reads (h : Reads (fun bs => (opcode c b).read c bs) bs i) :
    Reads (decode c) (b :: bs) i := fun rest => by
  have read := h rest
  simp only [decode, List.cons_append, readByte, Parsed.andThen]
  cases entry : opcode c b with
  | escape => rw [entry] at read; cases read
  | undef | done | imm8 | immv | imm16 | imm16Imm8 | ptr | moffs | modrm => rw [entry] at read; exact read

theorem since_eq {e : Entry} (hl : n ≤ c.cpu.level) : Entry.since n c e = e := if_pos hl

/-- An entry on a processor that has it (R282). -/
theorem since_reads {e : Entry} (hl : n ≤ c.cpu.level) (h : Reads (fun bs => e.read c bs) bs i) :
    Reads (fun bs => (Entry.since n c e).read c bs) bs i := by
  rw [since_eq hl]
  exact h

/-- The second opcode byte, after 0Fh. No entry is older than the escape itself. -/
theorem decode0F_reads {e : Entry} (hn : 2 ≤ n) (hl : n ≤ c.cpu.level) (he : opcode0F c b = .since n c e)
    (h : Reads (fun bs => e.read c bs) bs i) : Reads (decode c) (0x0F :: b :: bs) i := fun rest => by
  have escape : opcode c 0x0F = .escape := since_eq (hn.trans hl)
  simp only [decode, List.cons_append, readByte, Parsed.andThen, escape, he]
  exact since_reads hl h rest

/-- What a well-formed instruction of a later processor says. -/
theorem since_and (h : (decide (n ≤ c.cpu.level) && w) = true) : n ≤ c.cpu.level ∧ w = true := by
  simpa only [Bool.and_eq_true, decide_eq_true_eq] using h

/-! ### Forms without ModRM -/

theorem done_reads : Reads (fun bs => (Entry.done i).read c bs) [] i := .ok i

theorem imm8_reads {f : Byte → Instr} {v : Byte} : Reads (fun bs => (Entry.imm8 f).read c bs) [v] (f v) :=
  (readByte_reads v).map

theorem immv_reads {f : Dword → Instr} {v : Dword} (fits : c.fitsOp v = true) :
    Reads (fun bs => (Entry.immv f).read c bs) (encSized c.op32 v) (f v) := (readSized_reads fits).map

theorem imm16_reads {f : Word → Instr} {v : Word} : Reads (fun bs => (Entry.imm16 f).read c bs) (wordBytes v) (f v) :=
  (readWord_reads v).map

theorem imm16Imm8_reads {f : Word → Byte → Instr} {v : Word} {k : Byte} :
    Reads (fun bs => (Entry.imm16Imm8 f).read c bs) (wordBytes v ++ [k]) (f v k) :=
  (readWord_reads v).andThen (readByte_reads k).map

theorem ptr_reads {f : Dword → Word → Instr} {v : Dword} {k : Word} (fits : c.fitsOp v = true) :
    Reads (fun bs => (Entry.ptr f).read c bs) (encSized c.op32 v ++ wordBytes k) (f v k) :=
  (readSized_reads fits).andThen (readWord_reads k).map

theorem moffs_reads {f : Dword → Instr} {v : Dword} (fits : c.fitsAddr v = true) :
    Reads (fun bs => (Entry.moffs f).read c bs) (encSized c.addr32 v) (f v) := (readSized_reads fits).map

/-! ### Forms with ModRM

`ht` says which form the reg field picks; `hi`, that the instruction is the form's, its register read back from its
number. -/

section
variable {f : BitVec 3 → Tail} {t : Tail} {reg rm : BitVec 3} {a : Rm8} {d : Rmv} {m : Mem} {r : Reg}

/-- The reg field picks how to go on. -/
theorem modrm_reads (ht : f reg = t) (h : ModrmReads (fun mod rm bs => t.read c mod rm bs) reg bs i) :
    Reads (fun bs => (Entry.modrm f).read c bs) bs i := by
  obtain ⟨mod, rm, tail, rfl, read⟩ := h
  intro rest
  simp only [Entry.read, List.cons_append, readByte, Parsed.andThen, modOf_modrmByte, regOf_modrmByte, rmOf_modrmByte,
    ht]
  exact read rest

theorem rm8_reads {g : Rm8 → Instr} (ht : f reg = .rm8 g) (hd : a.wf c = true) (hi : g a = i := by simp) :
    Reads (fun bs => (Entry.modrm f).read c bs) (encRm8 reg a) i := hi ▸ modrm_reads ht (encRm8_modrm hd).map

theorem rm8Imm8_reads {g : Rm8 → Byte → Instr} {v : Byte} (ht : f reg = .rm8Imm8 g) (hd : a.wf c = true)
    (hi : g a v = i := by simp) : Reads (fun bs => (Entry.modrm f).read c bs) (encRm8 reg a ++ [v]) i :=
  hi ▸ modrm_reads ht ((encRm8_modrm hd).andThen (readByte_reads v).map)

theorem rmv_reads {g : Rmv → Instr} (ht : f reg = .rmv g) (hd : d.wf c = true) (hi : g d = i := by simp) :
    Reads (fun bs => (Entry.modrm f).read c bs) (encRmv reg d) i := hi ▸ modrm_reads ht (encRmv_modrm hd).map

theorem rmvImmv_reads {g : Rmv → Dword → Instr} {v : Dword} (ht : f reg = .rmvImmv g) (hd : d.wf c = true)
    (fits : c.fitsOp v = true) (hi : g d v = i := by simp) :
    Reads (fun bs => (Entry.modrm f).read c bs) (encRmv reg d ++ encSized c.op32 v) i :=
  hi ▸ modrm_reads ht ((encRmv_modrm hd).andThen (readSized_reads fits).map)

theorem rmvImm8_reads {g : Rmv → Byte → Instr} {v : Byte} (ht : f reg = .rmvImm8 g) (hd : d.wf c = true)
    (hi : g d v = i := by simp) : Reads (fun bs => (Entry.modrm f).read c bs) (encRmv reg d ++ [v]) i :=
  hi ▸ modrm_reads ht ((encRmv_modrm hd).andThen (readByte_reads v).map)

theorem mem_reads {g : Mem → Instr} (ht : f reg = .mem g) (hm : m.wf c = true) (hi : g m = i := by simp) :
    Reads (fun bs => (Entry.modrm f).read c bs) (encMem reg m) i := hi ▸ modrm_reads ht (encMem_modrm hm)

theorem reg_reads {g : Reg → Instr} (ht : f reg = .reg g) (hi : g r = i := by simp) :
    Reads (fun bs => (Entry.modrm f).read c bs) [modrmByte 3 reg r.num] i :=
  modrm_reads ht ⟨3, r.num, [], rfl, fun rest => by simp only [Tail.read, Reg.ofNum_num, hi, List.nil_append]⟩

theorem escMem_reads {fm : Mem → Instr} {fr : BitVec 3 → Instr} (ht : f reg = .esc fm fr) (hm : m.wf c = true)
    (hi : fm m = i) : Reads (fun bs => (Entry.modrm f).read c bs) (encMem reg m) i :=
  hi ▸ modrm_reads ht (encMem_modrm hm)

theorem escReg_reads {fm : Mem → Instr} {fr : BitVec 3 → Instr} (ht : f reg = .esc fm fr) (hi : fr rm = i) :
    Reads (fun bs => (Entry.modrm f).read c bs) [modrmByte 3 reg rm] i :=
  modrm_reads ht ⟨3, rm, [], rfl, fun rest => by simp only [Tail.read, if_pos, hi, List.nil_append]⟩

end

/-! ### Forms with conditions of their own -/

theorem movRm16Sreg_reads {s : SReg} {d : Rmv} (hs : c.hasSReg s = true) (hd : d.wf c = true) :
    Reads (fun bs => (opcode c 0x8C).read c bs) (encRmv s.num d) (.movRm16Sreg d s) :=
  rmv_reads (g := (.movRm16Sreg · s)) (by simp only [SReg.ofNum_num hs]) hd rfl

/-- MOV loads every segment register but CS. -/
theorem movSregRm16_reads {s : SReg} {m : Rmv} (hs : (c.hasSReg s && !(s == .cs)) = true) (hm : m.wf c = true) :
    Reads (fun bs => (opcode c 0x8E).read c bs) (encRmv s.num m) (.movSregRm16 s m) := by
  obtain ⟨known, notCs⟩ := Bool.and_eq_true_iff.1 hs
  refine rmv_reads (g := .movSregRm16 s) ?_ hm rfl
  rw [SReg.ofNum_num known]
  cases s with
  | cs => cases notCs
  | es | ss | ds | fs | gs => rfl

/-- The opcode of XCHG with EAX itself is NOP's. -/
theorem xchgEaxRv_reads {r : Reg} (hr : (!(r == .eax)) = true) :
    Reads (fun bs => (opcode c (plusNum 0x90 r.num)).read c bs) [] (.xchgEaxRv r) := by
  cases r with
  | eax => cases hr
  | ecx | edx | ebx | esp | ebp | esi | edi => exact done_reads

/-- The low three bits of an ESC opcode are part of the operation (R279). -/
theorem opcode_esc (op : BitVec 3) :
    opcode c (plusNum 0xD8 op) = .modrm fun r => .esc (escMem op r) (escReg c op r) := by
  obtain h | h | h | h | h | h | h | h : op = 0 ∨ op = 1 ∨ op = 2 ∨ op = 3 ∨ op = 4 ∨ op = 5 ∨ op = 6 ∨ op = 7 := by
    bv_omega
  all_goals
    subst h
    rfl

theorem escMem_generic {op reg : BitVec 3} {m : Mem} (h : escGeneric c op reg (.mem m) = true) :
    m.wf c = true ∧ escMem op reg m = .esc op reg (.mem m) := by
  simp only [escGeneric, Bool.and_eq_true, Bool.not_eq_true', Bool.and_eq_false_iff, beq_eq_false_iff_ne] at h
  obtain ⟨⟨⟨known, notFldcw⟩, notFnstcw⟩, notFnstsw⟩ := h
  rw [escMem, if_neg (not_and_or.2 notFldcw), if_neg (not_and_or.2 notFnstcw), if_neg (not_and_or.2 notFnstsw)]
  exact ⟨known, rfl⟩

theorem escReg_generic {op reg n : BitVec 3} (h : escGeneric c op reg (.reg n) = true) :
    escReg c op reg n = .esc op reg (.reg n) := by
  simp only [escGeneric, Bool.and_eq_true, Bool.not_eq_true', ← Bool.not_eq_true, beq_iff_eq, decide_eq_true_eq,
    and_assoc] at h
  obtain ⟨notFninit, notFnstsw⟩ := h
  rw [escReg, if_neg notFninit, if_neg notFnstsw]

theorem escReg_fnstswAx (hl : 2 ≤ c.cpu.level) : escReg c 7 4 0 = .fnstswAx :=
  (if_neg (by decide)).trans (if_pos ⟨rfl, rfl, rfl, hl⟩)

/-- An ESC opcode that no named form takes. -/
theorem esc_reads {op reg : BitVec 3} {rm : EscRm} (h : escGeneric c op reg rm = true) :
    Reads (fun bs => (opcode c (plusNum 0xD8 op)).read c bs) (encEsc reg rm) (.esc op reg rm) := by
  rw [opcode_esc]
  cases rm with
  | reg n => exact escReg_reads rfl (escReg_generic h)
  | mem m =>
    have ⟨known, generic⟩ := escMem_generic h
    exact escMem_reads rfl known generic

/-! ### Every instruction -/

/-- EACH INSTRUCTION WITH AN ENCODING IS READ BACK FROM IT: the entry at its opcode is the form it is encoded in. -/
theorem encode_reads (hw : i.wf c = true) : Reads (decode c) (encode c i) i := by
  cases i with
  | pushEs | pushCs | pushSs | pushDs | popEs | popSs | popDs | prefixEs | prefixCs | prefixSs | prefixDs
    | prefixLock | prefixRepne | prefixRep | daa | das | aaa | aas | nop | cbw | cwd | wait | pushf | popf | sahf
    | lahf | movsb | movsv | cmpsb | cmpsv | stosb | stosv | lodsb | lodsv | scasb | scasv | ret | retf | int3
    | into | iret | xlat | inAlDx | inEaxDx | outDxAl | outDxEax | hlt | cmc | clc | stc | cli | sti | cld | std =>
    exact decode_reads done_reads
  | incRv r | decRv r | pushRv r | popRv r => cases r <;> exact decode_reads done_reads
  | addAlImm8 | orAlImm8 | adcAlImm8 | sbbAlImm8 | andAlImm8 | subAlImm8 | xorAlImm8 | cmpAlImm8 | joRel8 | jnoRel8
    | jbRel8 | jaeRel8 | jeRel8 | jneRel8 | jbeRel8 | jaRel8 | jsRel8 | jnsRel8 | jpRel8 | jnpRel8 | jlRel8
    | jgeRel8 | jleRel8 | jgRel8 | testAlImm8 | intImm8 | loopneRel8 | loopeRel8 | loopRel8 | jcxzRel8 | inAlImm8
    | inEaxImm8 | outImm8Al | outImm8Eax | jmpRel8 | aam | aad =>
    exact decode_reads imm8_reads
  | movR8Imm8 r => cases r <;> exact decode_reads imm8_reads
  | addEaxImmv | orEaxImmv | adcEaxImmv | sbbEaxImmv | andEaxImmv | subEaxImmv | xorEaxImmv | cmpEaxImmv
    | testEaxImmv | callRelv | jmpRelv =>
    exact decode_reads (immv_reads hw)
  | movRvImmv r => cases r <;> exact decode_reads (immv_reads hw)
  | retImm16 | retfImm16 => exact decode_reads imm16_reads
  | callPtr16v | jmpPtr16v => exact decode_reads (ptr_reads hw)
  | movAlMoffs8 | movEaxMoffsv | movMoffs8Al | movMoffsvEax => exact decode_reads (moffs_reads hw)
  | addRm8R8 | addR8Rm8 | orRm8R8 | orR8Rm8 | adcRm8R8 | adcR8Rm8 | sbbRm8R8 | sbbR8Rm8 | andRm8R8 | andR8Rm8
    | subRm8R8 | subR8Rm8 | xorRm8R8 | xorR8Rm8 | cmpRm8R8 | cmpR8Rm8 | testRm8R8 | xchgRm8R8 | movRm8R8 | movR8Rm8
    | rolRm8One | rolRm8Cl | rorRm8One | rorRm8Cl | rclRm8One | rclRm8Cl | rcrRm8One | rcrRm8Cl | shlRm8One
    | shlRm8Cl | shrRm8One | shrRm8Cl | sarRm8One | sarRm8Cl | notRm8 | negRm8 | mulRm8 | imulRm8 | divRm8 | idivRm8
    | incRm8 | decRm8 =>
    exact decode_reads (rm8_reads rfl hw)
  | addRm8Imm8 | addRm8Imm8Alias82 | orRm8Imm8 | orRm8Imm8Alias82 | adcRm8Imm8 | adcRm8Imm8Alias82 | sbbRm8Imm8
    | sbbRm8Imm8Alias82 | andRm8Imm8 | andRm8Imm8Alias82 | subRm8Imm8 | subRm8Imm8Alias82 | xorRm8Imm8
    | xorRm8Imm8Alias82 | cmpRm8Imm8 | cmpRm8Imm8Alias82 | movRm8Imm8 | testRm8Imm8 =>
    exact decode_reads (rm8Imm8_reads rfl hw)
  | addRmvRv | addRvRmv | orRmvRv | orRvRmv | adcRmvRv | adcRvRmv | sbbRmvRv | sbbRvRmv | andRmvRv | andRvRmv
    | subRmvRv | subRvRmv | xorRmvRv | xorRvRmv | cmpRmvRv | cmpRvRmv | testRmvRv | xchgRmvRv | movRmvRv | movRvRmv
    | popMv | rolRmvOne | rolRmvCl | rorRmvOne | rorRmvCl | rclRmvOne | rclRmvCl | rcrRmvOne | rcrRmvCl | shlRmvOne
    | shlRmvCl | shrRmvOne | shrRmvCl | sarRmvOne | sarRmvCl | notRmv | negRmv | mulRmv | imulRmv | divRmv | idivRmv
    | incRmv | decRmv | callRmv | jmpRmv | pushMv =>
    exact decode_reads (rmv_reads rfl hw)
  | addRmvImmv | orRmvImmv | adcRmvImmv | sbbRmvImmv | andRmvImmv | subRmvImmv | xorRmvImmv | cmpRmvImmv
    | movRmvImmv | testRmvImmv =>
    have ⟨hd, fits⟩ := Bool.and_eq_true_iff.1 hw
    exact decode_reads (rmvImmv_reads rfl hd fits)
  | addRmvImm8s | orRmvImm8s | adcRmvImm8s | sbbRmvImm8s | andRmvImm8s | subRmvImm8s | xorRmvImm8s | cmpRmvImm8s =>
    exact decode_reads (rmvImm8_reads rfl hw)
  | leaRvM | lesRvM16v | ldsRvM16v | callM16v | jmpM16v => exact decode_reads (mem_reads rfl hw)
  | prefixFs | prefixGs | prefixOperandSize | prefixAddressSize | pusha | popa | insb | insv | outsb | outsv
    | leave =>
    exact decode_reads (since_reads (of_decide_eq_true hw) done_reads)
  | pushImm8s => exact decode_reads (since_reads (of_decide_eq_true hw) imm8_reads)
  | pushImmv =>
    have ⟨hl, fits⟩ := since_and hw
    exact decode_reads (since_reads hl (immv_reads fits))
  | enterImm16Imm8 => exact decode_reads (since_reads (of_decide_eq_true hw) imm16Imm8_reads)
  | rolRm8Imm8 | rorRm8Imm8 | rclRm8Imm8 | rcrRm8Imm8 | shlRm8Imm8 | shrRm8Imm8 | sarRm8Imm8 =>
    have ⟨hl, hd⟩ := since_and hw
    exact decode_reads (since_reads hl (rm8Imm8_reads rfl hd))
  | arplRm16R16 =>
    have ⟨hl, hd⟩ := since_and hw
    exact decode_reads (since_reads hl (rmv_reads rfl hd))
  | imulRvRmvImmv =>
    have ⟨hld, fits⟩ := Bool.and_eq_true_iff.1 hw
    have ⟨hl, hd⟩ := since_and hld
    exact decode_reads (since_reads hl (rmvImmv_reads rfl hd fits))
  | imulRvRmvImm8s | rolRmvImm8 | rorRmvImm8 | rclRmvImm8 | rcrRmvImm8 | shlRmvImm8 | shrRmvImm8 | sarRmvImm8 =>
    have ⟨hl, hd⟩ := since_and hw
    exact decode_reads (since_reads hl (rmvImm8_reads rfl hd))
  | boundRvM =>
    have ⟨hl, hd⟩ := since_and hw
    exact decode_reads (since_reads hl (mem_reads rfl hd))
  | movRm16Sreg =>
    have ⟨hd, hs⟩ := Bool.and_eq_true_iff.1 hw
    exact decode_reads (movRm16Sreg_reads hs hd)
  | movSregRm16 =>
    have ⟨hs, hd⟩ := Bool.and_eq_true_iff.1 hw
    exact decode_reads (movSregRm16_reads hs hd)
  | xchgEaxRv => exact decode_reads (xchgEaxRv_reads hw)
  | fnstswM16 | fnstcwM16 | fldcwM16 => exact decode_reads (escMem_reads rfl hw rfl)
  | fninit => exact decode_reads (escReg_reads (reg := 4) (rm := 3) rfl rfl)
  | fnstswAx => exact decode_reads (escReg_reads (reg := 4) (rm := 0) rfl (escReg_fnstswAx (of_decide_eq_true hw)))
  | esc => exact decode_reads (esc_reads hw)
  | clts | invd | wbinvd | pushFs | popFs | pushGs | popGs =>
    exact decode0F_reads (by decide) (of_decide_eq_true hw) rfl done_reads
  | bswapR32 r => cases r <;> exact decode0F_reads (by decide) (of_decide_eq_true hw) rfl done_reads
  | joRelv | jnoRelv | jbRelv | jaeRelv | jeRelv | jneRelv | jbeRelv | jaRelv | jsRelv | jnsRelv | jpRelv | jnpRelv
    | jlRelv | jgeRelv | jleRelv | jgRelv =>
    have ⟨hl, fits⟩ := since_and hw
    exact decode0F_reads (by decide) hl rfl (immv_reads fits)
  | setoRm8 | setnoRm8 | setbRm8 | setaeRm8 | seteRm8 | setneRm8 | setbeRm8 | setaRm8 | setsRm8 | setnsRm8 | setpRm8
    | setnpRm8 | setlRm8 | setgeRm8 | setleRm8 | setgRm8 | movzxRvRm8 | movsxRvRm8 | cmpxchgRm8R8 | xaddRm8R8 =>
    have ⟨hl, hd⟩ := since_and hw
    exact decode0F_reads (by decide) hl rfl (rm8_reads rfl hd)
  | sldtRm16 | strRm16 | lldtRm16 | ltrRm16 | verrRm16 | verwRm16 | smswRm16 | lmswRm16 | larRvRmv | lslRvRmv
    | btRmvRv | btsRmvRv | btrRmvRv | btcRmvRv | shldRmvRvCl | shrdRmvRvCl | imulRvRmv | movzxR32Rm16 | movsxR32Rm16
    | bsfRvRmv | bsrRvRmv | cmpxchgRmvRv | xaddRmvRv =>
    have ⟨hl, hd⟩ := since_and hw
    exact decode0F_reads (by decide) hl rfl (rmv_reads rfl hd)
  | btRmvImm8 | btsRmvImm8 | btrRmvImm8 | btcRmvImm8 | shldRmvRvImm8 | shrdRmvRvImm8 =>
    have ⟨hl, hd⟩ := since_and hw
    exact decode0F_reads (by decide) hl rfl (rmvImm8_reads rfl hd)
  | sgdtM | sidtM | lgdtM | lidtM | lssRvM16v | lfsRvM16v | lgsRvM16v =>
    have ⟨hl, hd⟩ := since_and hw
    exact decode0F_reads (by decide) hl rfl (mem_reads rfl hd)
  | invlpgM =>
    have ⟨hl, hd⟩ := since_and hw
    exact decode0F_reads (n := 2) (by decide) (by omega) rfl (mem_reads (if_pos hl) hd)
  | movR32CRn | movR32DRn | movCRnR32 | movDRnR32 | movR32TRn | movTRnR32 =>
    exact decode0F_reads (by decide) (of_decide_eq_true hw) rfl (reg_reads rfl)

/-- Settles O59: each instruction's bytes are read back, form by form (`encode_reads`). -/
theorem decodeUndoesEncode : Obligations.DecodeUndoesEncode := fun _ _ rest hw => encode_reads hw rest

/-- The encoding of an instruction, alone, decodes to it. -/
theorem decode_of_encode (hw : i.wf c = true) (bytes : encode c i = bs) : decode c bs = .ok i [] := by
  rw [← bytes, ← List.append_nil (encode c i)]
  exact encode_reads hw []

/-- Settles O60: each word is the encoding of the instruction it stands for. -/
theorem decodedWords : Obligations.DecodedWords := by
  refine ⟨?_, ?_, ?_, ?_, ?_, ?_, ?_, ?_, ?_, ?_⟩ <;> exact decode_of_encode rfl rfl

end Sys2Proof
end

section
/-! PROOFS. What an instruction reads before its effect and the one object it then writes, with paging off: the operands it
reads are those of the state it began in, and only what debug breakpoints record has changed meanwhile. -/
-- One declaration after the other: many proofs at once take more thread stacks than the memory limit allows.
set_option Elab.async false
namespace Sys2Proof.Machine

variable {s t : State} {w : Nat}

/-! ### Reads -/

/-- READING a value, from the start of the instruction's effect on. -/
theorem readItem_starting {b : Nat} {g : SReg} {off : Dword} (h : s.reaches g .read off (w / 8) b = true)
    (r : TrapRecord) : ∃ r', readItem w b g off (s.starting r) = .ok (s.memVal w g off, s.starting r') := by
  obtain ⟨r', read⟩ := readItem_traced (s := s.begin) ((begin_reaches s g .read off (w / 8) b).trans h) r
  exact ⟨r', read⟩

/-- READING a byte operand. -/
theorem get8_starting {m : Rm8} (h : s.ready8 .read m = true) (r : TrapRecord) :
    ∃ r', get8 m (s.starting r) = .ok (s.val8 m, s.starting r') := by
  cases m with
  | reg q => exact ⟨r, rfl⟩
  | mem m => exact readItem_starting (w := 8) h r

/-- READING a word or doubleword operand. -/
theorem getv_starting {m : Rmv} (h : s.readyv .read w m = true) (r : TrapRecord) :
    ∃ r', getv w m (s.starting r) = .ok (s.valv w m, s.starting r') := by
  cases m with
  | reg q => exact ⟨r, rfl⟩
  | mem m => exact readItem_starting h r

/-- READING the second of two objects at a memory operand. -/
theorem memGetAt_starting {m : Mem} {n k : Nat} (h : s.reachesPair m n (k / 8) = true) (r : TrapRecord) :
    ∃ r', memGetAt k m n (s.starting r) =
      .ok (s.memVal k (s.memSeg m) (s.memOff m + BitVec.ofNat 32 n), s.starting r') := by
  unfold State.reachesPair at h
  simp only [Bool.and_eq_true] at h
  obtain ⟨⟨-, below⟩, second⟩ := h
  obtain ⟨r', read⟩ := readItem_starting second r
  refine ⟨r', ?_⟩
  unfold memGetAt
  rw [get_bind_apply]
  exact (check_bind_ok below _ _ _).trans read

/-! ### The effect -/

/-- The effect of an instruction of `s` has left `t`, flags and control being as they were at its start. -/
structure State.Effect (s t : State) : Prop where
  agrees : s.agrees t
  eip : t.eip = s.nextIp
  shadow : t.shadow = .none
  flags : t.flags = s.flags

theorem starting_way (s : State) (r : TrapRecord) : s.SameWay (s.starting r) :=
  (begin_way s).trans (traced_way s.begin r)

theorem starting_effect (s : State) (r : TrapRecord) : s.Effect (s.starting r) := ⟨rfl, rfl, rfl, rfl⟩

/-- Other general registers. -/
theorem State.Effect.withRegs (h : s.Effect t) (g : Gpr) : s.Effect { t with regs := g } :=
  ⟨h.agrees.trans rfl, h.eip, h.shadow, h.flags⟩

/-- Free values drawn. -/
theorem State.Effect.withOracle (h : s.Effect t) (n : Nat) : s.Effect { t with oracle := n } :=
  ⟨h.agrees.trans rfl, h.eip, h.shadow, h.flags⟩

theorem State.Effect.butMem {u : State} (h : s.Effect t) (k : t.SameButMem u) : s.Effect u := by
  refine ⟨h.agrees.trans k.agrees, ?_, ?_, ?_⟩
  all_goals rw [k]
  exacts [h.eip, h.shadow, h.flags]

/-- An instruction whose effect changes no flag ran. -/
theorem run_effect {l : Bool} {body : M Unit} (hl : s.lockOk l = true) (hb : body s.begin = .ok ((), t))
    (h : s.Effect t) :
    run l body s = .next (finish s t .done) ∧ s.ran (finish s t .done) ∧ (finish s t .done).flags = s.flags.kept := by
  refine ⟨run_ok hl hb, ran_finish h.agrees h.eip h.shadow, ?_⟩
  rw [finish_flags, h.flags]
  rfl

theorem State.SameButMem.regs (h : s.SameButMem t) : t.regs = s.regs := by
  rw [h]

/-! ### Writes -/

/-- WRITING a value to memory. -/
theorem writeMem_stores {g : SReg} {off : Dword} (v : BitVec w) (hw : IsWidth w)
    (h : s.reaches g .write off (w / 8) (w / 8) = true) (r : TrapRecord) :
    ∃ t, writeMem g off v (s.starting r) = .ok ((), t) ∧ s.Effect t ∧ t.regs = s.regs ∧ s.stores t g off v := by
  have way := starting_way s r
  have touched := touch_same (s.starting r) g .write off (w / 8)
  have put := put_same ((s.starting r).touch g .write off (w / 8)) g off v
  refine ⟨_, writeMem_flat v ((way.reaches rfl g .write off (w / 8) (w / 8)).trans h),
    (starting_effect s r).butMem (touched.trans put), ?_, ?_⟩
  · exact (touched.trans put).regs
  · have bytes : w % 8 = 0 ∧ w / 8 ≤ 65536 := by rcases hw with rfl | rfl | rfl <;> decide
    exact put_stores bytes.1 bytes.2 g off v (way.trans touched.way) (touch_mem _ _ _ _ _) (reaches_memoryOk h)

/-- WRITING a byte operand. -/
theorem put8_wrote {d : Rm8} (v : Byte) (h : s.ready8 .write d = true) (r : TrapRecord) :
    ∃ t, put8 d v (s.starting r) = .ok ((), t) ∧ s.Effect t ∧ s.wrote8 t d v := by
  cases d with
  | reg q => exact ⟨_, rfl, (starting_effect s r).withRegs _, rfl, rfl⟩
  | mem m => exact writeMem_stores v (.inl rfl) h r

/-- WRITING a word or doubleword operand. -/
theorem putv_wrote {d : Rmv} (v : BitVec w) (hw : IsWidth w) (h : s.readyv .write w d = true) (r : TrapRecord) :
    ∃ t, putv d v (s.starting r) = .ok ((), t) ∧ s.Effect t ∧ s.wrotev t d v := by
  cases d with
  | reg q => exact ⟨_, rfl, (starting_effect s r).withRegs _, rfl, rfl⟩
  | mem m => exact writeMem_stores v hw h r

theorem opWidth_isWidth (s : State) : IsWidth s.opWidth := .inr (opWidth_cases s)

end Sys2Proof.Machine
end

section
/-! PROOFS. MOV, but for loads of segment registers, and XLAT. -/
-- One declaration after the other: many proofs at once take more thread stacks than the memory limit allows.
set_option Elab.async false
namespace Sys2Proof.Machine

variable {s : State} {w : Nat}

/-! ### MOV between registers, memory and constants -/

/-- MOV of a byte that a source gives. -/
theorem mov8_runs {d : Rm8} {src : M Byte} {v : Byte} {r : TrapRecord} (hl : s.lockOk false = true)
    (hs : src s.begin = .ok (v, s.starting r)) (hd : s.ready8 .write d = true) :
    ∃ t, run false (mov8 d src) s = .next t ∧ s.ran t ∧ t.flags = s.flags.kept ∧ s.wrote8 t d v := by
  obtain ⟨t, put, effect, wrote⟩ := put8_wrote v hd r
  obtain ⟨runs, ran, flags⟩ := run_effect hl ((bind_ok hs _).trans put) effect
  exact ⟨_, runs, ran, flags, wrote⟩

/-- MOV of a word or doubleword that a source gives. -/
theorem movv_runs {d : Rmv} {src : (w : Nat) → M (BitVec w)} {v : BitVec s.opWidth} {r : TrapRecord}
    (hl : s.lockOk false = true) (hs : src s.opWidth s.begin = .ok (v, s.starting r))
    (hd : s.readyv .write s.opWidth d = true) :
    ∃ t, run false (movv d src) s = .next t ∧ s.ran t ∧ t.flags = s.flags.kept ∧ s.wrotev t d v := by
  obtain ⟨t, put, effect, wrote⟩ := putv_wrote v (opWidth_isWidth s) hd r
  obtain ⟨runs, ran, flags⟩ := run_effect (body := movv d src) hl ((bind_ok hs _).trans put) effect
  exact ⟨_, runs, ran, flags, wrote⟩

/-- Settles O13: each form is MOV from a source that gives the operand's value. -/
theorem moves : Obligations.Moves := by
  refine ⟨fun d src r b i s hi hl hsrc hd => ?_, fun d src r v i s hi hl hsrc hd => ?_⟩
  · have form : ∃ m rec, exec i s = run false (mov8 d m) s ∧ m s.begin = .ok (src.val s, s.starting rec) := by
      obtain ⟨rfl, rfl⟩ | ⟨m, rfl, rfl, rfl⟩ | ⟨rfl, rfl⟩ | ⟨rfl, rfl, rfl⟩ := hi
      · exact ⟨_, s.trap, rfl, rfl⟩
      · obtain ⟨rec, read⟩ := get8_starting hsrc s.trap
        exact ⟨_, rec, rfl, read⟩
      · exact ⟨_, s.trap, rfl, rfl⟩
      · exact ⟨_, s.trap, rfl, rfl⟩
    obtain ⟨m, rec, exec_eq, source⟩ := form
    rw [exec_eq]
    exact mov8_runs hl source hd
  · have form : ∃ m rec, exec i s = run false (movv d m) s ∧
        m s.opWidth s.begin = .ok (src.val s s.opWidth, s.starting rec) := by
      obtain ⟨rfl, rfl⟩ | ⟨m, rfl, rfl, rfl⟩ | ⟨rfl, rfl⟩ | ⟨rfl, rfl, rfl⟩ := hi
      · exact ⟨regSrc r, s.trap, rfl, rfl⟩
      · obtain ⟨rec, read⟩ := getv_starting hsrc s.trap
        exact ⟨rmSrc m, rec, rfl, read⟩
      · exact ⟨immSrc v, s.trap, rfl, rfl⟩
      · exact ⟨immSrc v, s.trap, rfl, rfl⟩
    obtain ⟨m, rec, exec_eq, source⟩ := form
    rw [exec_eq]
    exact movv_runs hl source hd

/-! ### Direct offsets -/

/-- A load of a register from memory. -/
theorem load_runs {g : SReg} {off : Dword} {read : M (BitVec w)} {load : BitVec w → M Unit} {body : M Unit} {regs : Gpr}
    (hl : s.lockOk false = true) (h : s.reaches g .read off (w / 8) (w / 8) = true)
    (hread : read s.begin = readMem w g off s.begin) (hb : body s.begin = (read >>= load) s.begin)
    (hload : ∀ r, load (s.memVal w g off) (s.starting r) = .ok ((), { s.starting r with regs := regs })) :
    ∃ t, run false body s = .next t ∧ s.ran t ∧ t.flags = s.flags.kept ∧ t.mem = s.mem ∧ t.regs = regs := by
  obtain ⟨r, item⟩ := readItem_starting h s.trap
  obtain ⟨runs, ran, flags⟩ := run_effect hl (hb.trans ((bind_ok (hread.trans item) load).trans (hload r)))
    ((starting_effect s r).withRegs regs)
  exact ⟨_, runs, ran, flags, rfl, rfl⟩

/-- A store to memory. -/
theorem store_runs {g : SReg} {off : Dword} {body : M Unit} (v : BitVec w) (hw : IsWidth w) (hl : s.lockOk false = true)
    (h : s.reaches g .write off (w / 8) (w / 8) = true) (hb : body s.begin = writeMem g off v s.begin) :
    ∃ t, run false body s = .next t ∧ s.ran t ∧ t.flags = s.flags.kept ∧ t.regs = s.regs ∧ s.stores t g off v := by
  obtain ⟨t, write, effect, regs, stores⟩ := writeMem_stores v hw h s.trap
  obtain ⟨runs, ran, flags⟩ := run_effect hl (hb.trans write) effect
  exact ⟨_, runs, ran, flags, regs, stores⟩

/-- The offset of the byte XLAT reads. -/
theorem translateByte_offset (s : State) :
    (if s.addr32 then s.regs.ebx + (s.reg 8 .eax).setWidth 32 else low16 (s.regs.ebx + (s.reg 8 .eax).setWidth 32)) =
      BitVec.ofNat 32 (((s.reg s.addrWidth .ebx).toNat + (s.reg8 .al).toNat) % 2 ^ s.addrWidth) := by
  have al : s.reg8 .al = s.reg 8 .eax := rfl
  have bx : (s.reg s.addrWidth .ebx).toNat = s.regs.ebx.toNat % 2 ^ s.addrWidth := BitVec.toNat_setWidth _ _
  rw [al, bx]
  apply BitVec.eq_of_toNat_eq
  have small := (s.reg 8 .eax).isLt
  have wide := s.regs.ebx.isLt
  unfold State.addrWidth
  split <;> simp [low16]

/-- Settles O14: loads and stores at an offset through DS or the override. -/
theorem directMoves : Obligations.DirectMoves := by
  refine ⟨fun off s hl => ⟨fun h => ?_, fun h => ?_, fun h => ?_, fun h => ?_⟩, fun s hl => ?_⟩
  · exact load_runs (w := 8) (read := moffsGet 8 off) (body := loadDirect8 off) (load := putReg8 .al)
      hl h rfl rfl fun _ => rfl
  · exact load_runs (read := moffsGet s.opWidth off) (body := loadDirectv off) (load := putReg .eax)
      hl h rfl rfl fun _ => rfl
  · exact store_runs (body := storeDirect8 off) (s.reg8 .al) (.inl rfl) hl h rfl
  · exact store_runs (body := storeDirectv off) (s.reg s.opWidth .eax) (opWidth_isWidth s) hl h rfl
  · rw [← translateByte_offset]
    exact fun h => load_runs (w := 8) (body := translateByte) (load := putReg .eax) hl h rfl rfl fun _ => rfl

/-! ### Segment registers as a source -/

/-- A selector in a slot of 16 or 32 bits: free values may have been drawn for the upper half. -/
theorem slotOf_open (v : Word) (hw : w = 16 ∨ w = 32) :
    ∃ (item : BitVec w) (n : Nat), item.setWidth 16 = v ∧ slotOf w v s = .ok (item, { s with oracle := n }) := by
  rcases hw with rfl | rfl
  · exact ⟨v, s.oracle, by simp, by simp [slotOf]⟩
  · exact ⟨_, s.oracle + 1, slot_low _ v, rfl⟩

/-- Settles O15: the selector is stored as a word, or merged into a register from a slot of the operand size. -/
theorem movesFromSegment : Obligations.MovesFromSegment := by
  intro d g s hl h
  cases d with
  | mem m => exact store_runs (body := movFromSeg (.mem m) g) (s.seg g).sel (.inr (.inl rfl)) hl h rfl
  | reg q =>
    obtain ⟨v, n, low, slot⟩ := slotOf_open (s := s.begin) (s.seg g).sel (opWidth_cases s)
    obtain ⟨runs, ran, flags⟩ := run_effect (body := movFromSeg (.reg q) g) hl (bind_ok slot (putReg q))
      (((starting_effect s s.trap).withOracle n).withRegs _)
    exact ⟨_, runs, ran, flags, rfl, v, low, rfl⟩

end Sys2Proof.Machine
end

section
/-! PROOFS. Loads of DS, ES, FS, GS and SS by MOV, POP, LDS, LES, LFS, LGS and LSS: the forms come down to one operation on
a selector, in real mode, in V86 mode and in protected mode with its descriptors. -/
-- One declaration after the other: many proofs at once take more thread stacks than the memory limit allows.
set_option Elab.async false
namespace Sys2Proof.Machine

variable {s t u : State} {w : Nat} {g : SReg} {i : Instr} {sel : Word} {regs : Gpr} {d : Descriptor} {a : Nat}

/-! ### The forms -/

/-- The state in which an instruction has read what it needs, with these general registers. -/
def State.readied (s : State) (r : TrapRecord) (regs : Gpr) : State := { s.starting r with regs := regs }

/-- The state with a segment register loaded, and what the accesses of the load left behind. -/
def State.segLoaded (s : State) (g : SReg) (h : SegReg) (x : Trace) : State := (s.setSeg g h).after x

section
variable (s : State) (r : TrapRecord) (regs : Gpr) (g : SReg) (h : SegReg) (x : Trace)

theorem segLoaded_agrees : (s.setSeg g h).agrees ((s.readied r regs).segLoaded g h x) := by cases g <;> rfl
@[simp] theorem segLoaded_eip : (s.segLoaded g h x).eip = s.eip := setSeg_eip s g h
@[simp] theorem segLoaded_regs : (s.segLoaded g h x).regs = s.regs := setSeg_regs s g h
@[simp] theorem segLoaded_flags : (s.segLoaded g h x).flags = s.flags := setSeg_flags s g h
@[simp] theorem segLoaded_shadow : (s.segLoaded g h x).shadow = s.shadow := setSeg_shadow s g h

end

/-- An instruction that loads a segment register has run: the register holds `h`, memory is `m`. -/
structure State.LoadedBy (s t : State) (i : Instr) (g : SReg) (h : SegReg) (regs : Gpr) (m : Memory) : Prop where
  agrees : (s.setSeg g h).agrees t
  eip : t.eip = s.nextIp
  cur : t.cur = .start
  shadow : t.shadow = shadowOf i g
  regs : t.regs = regs
  flags : t.flags = s.flags.kept
  mem : t.mem = m

/-- An instruction that completes with its segment register loaded. -/
theorem loadedBy_finish {h : SegReg} {e : Ending} (he : e = .done ∨ e = .noStep) (ha : (s.setSeg g h).agrees t)
    (hip : t.eip = s.nextIp) (hs : t.shadow = shadowOf i g) (hf : t.flags = s.flags) (hr : t.regs = regs) :
    s.LoadedBy (finish s t e) i g h regs t.mem := by
  have flags : ({ t.flags with rf := false } : Flags) = s.flags.kept := by rw [hf]; rfl
  rcases he with rfl | rfl <;> exact ⟨ha.trans rfl, hip, rfl, hs, hr, flags, rfl⟩

/-- From state `u`, reached by instruction `i`, a load of `g` with a selector decides how the instruction ends. -/
structure State.LoadsAt (s u : State) (i : Instr) (g : SReg) (sel : Word) (regs : Gpr) : Prop where
  faults : ∀ vec err, loadSeg g sel u = .error (u.fault vec err) → exec i s = s.faults vec err
  loads : ∀ h x, loadSeg g sel u = .ok ((), u.segLoaded g h x) →
    ∃ t, exec i s = .next t ∧ s.LoadedBy t i g h regs x.mem

/-- The shadow after MOV and POP. -/
def segShadow (g : SReg) : Shadow := if g = .ss then .ss else .none

theorem loadSegShadow_error {e : Abort} (h : loadSeg g sel u = .error e) : loadSegShadow g sel u = .error e :=
  bind_error h _

theorem loadSegShadow_ok (h : loadSeg g sel u = .ok ((), t)) (hs : t.shadow = .none) :
    ∃ e, (e = .done ∨ e = .noStep) ∧ loadSegShadow g sel u = .ok (e, { t with shadow := segShadow g }) := by
  refine ⟨if t.level = 0 ∨ g = .ss then .noStep else .done, by split <;> simp, (bind_ok h _).trans ?_⟩
  unfold segShadow
  by_cases stack : g = .ss
  · simp only [stack, if_true]
    rfl
  · rw [← hs]
    simp only [stack, if_false]
    rfl

/-- MOV AND POP come down to a load of the segment register that opens the shadow. -/
theorem loadsAt_shadow {body : M Ending} {r : TrapRecord} (hl : s.lockOk false = true)
    (hi : exec i s = runEnding false body s) (hb : body s.begin = loadSegShadow g sel (s.readied r regs))
    (hs : segShadow g = shadowOf i g) : s.LoadsAt (s.readied r regs) i g sel regs := by
  constructor
  · intro vec err bad
    exact hi.trans (runEnding_faults hl (hb.trans (loadSegShadow_error bad)))
  · intro h x ok
    obtain ⟨e, plain, run⟩ := loadSegShadow_ok ok (segLoaded_shadow (s.readied r regs) g h x)
    exact ⟨_, hi.trans (runEnding_ok hl (hb.trans run)),
      loadedBy_finish plain ((segLoaded_agrees s r regs g h x).trans rfl) (segLoaded_eip (s.readied r regs) g h x) hs
        (segLoaded_flags (s.readied r regs) g h x) (segLoaded_regs (s.readied r regs) g h x)⟩

/-- LDS AND ITS LIKE come down to a load of the segment register, then the offset is put in the register. -/
theorem loadsAt_pointer {r : Reg} {m : Mem} (hl : s.lockOk false = true)
    (hi : exec i s = run false (loadPointer g r m) s) (hm : s.reachesPair m (s.opWidth / 8) 2 = true)
    (hs : shadowOf i g = .none) :
    ∃ rec, s.LoadsAt (s.readied rec s.regs) i g (s.memVal 16 (s.memSeg m) (s.memOff m + BitVec.ofNat 32 (s.opWidth / 8)))
      (s.setReg r (s.memVal s.opWidth (s.memSeg m) (s.memOff m))).regs := by
  have first : s.reaches (s.memSeg m) .read (s.memOff m) (s.opWidth / 8) (s.opWidth / 8) = true := by
    unfold State.reachesPair at hm
    simp only [Bool.and_eq_true] at hm
    exact hm.1.1
  obtain ⟨rec, offset⟩ := readItem_starting first s.trap
  obtain ⟨rec', selector⟩ := memGetAt_starting (k := 16) hm rec
  have body : loadPointer g r m s.begin =
      (loadSeg g (s.memVal 16 (s.memSeg m) (s.memOff m + BitVec.ofNat 32 (s.opWidth / 8))) >>= fun _ =>
        putReg r (s.memVal s.opWidth (s.memSeg m) (s.memOff m))) (s.readied rec' s.regs) :=
    (bind_ok (m := memGet s.opWidth m) offset _).trans (bind_ok selector _)
  refine ⟨rec', fun vec err bad => ?_, fun h x ok => ?_⟩
  · exact hi.trans (run_faults hl (body.trans (bind_error bad _)))
  · have regs : (((s.readied rec' s.regs).segLoaded g h x).setReg r (s.memVal s.opWidth (s.memSeg m) (s.memOff m))).regs =
        (s.setReg r (s.memVal s.opWidth (s.memSeg m) (s.memOff m))).regs := by
      rw [setReg_regs, segLoaded_regs]
      rfl
    exact ⟨_, hi.trans (run_ok hl (body.trans (bind_ok ok _))),
      loadedBy_finish (.inl rfl) ((segLoaded_agrees s rec' s.regs g h x).trans rfl)
        (segLoaded_eip (s.readied rec' s.regs) g h x) ((segLoaded_shadow (s.readied rec' s.regs) g h x).trans hs.symm)
        (segLoaded_flags (s.readied rec' s.regs) g h x) regs⟩

/-- POPPING an item from the start of the effect on. -/
theorem popItem_starting {b : Nat} (h : s.reaches .ss .read s.sp (w / 8) b = true) :
    ∃ r, popItem w b s.begin = .ok (s.top w, s.readied r (s.setSp (s.popAt w)).regs) := by
  refine ⟨(s.begin.touch .ss .read s.sp (w / 8)).trap, ?_⟩
  rw [popItem_flat ((begin_reaches s .ss .read s.sp (w / 8) b).trans h), begin_sp, touch_traced]
  dsimp only
  rw [setSp_eq, setSp_eq]
  rfl

/-- THE FORMS come down to a load of the segment register, from a state where the selector has been read. -/
theorem segForm_loads (h : s.segForm i g sel regs) (hl : s.lockOk false = true) (hg : g ≠ .cs) :
    ∃ r v, s.LoadsAt (s.readied r v) i g sel regs := by
  obtain ⟨m, rfl, ready, rfl, rfl⟩ | ⟨hi, ready, rfl, rfl⟩ | ⟨q, m, hi, ready, rfl, rfl⟩ := h
  · obtain ⟨r, read⟩ := getv_starting ready s.trap
    refine ⟨r, s.regs, loadsAt_shadow (body := movToSeg g m) hl rfl ?_ (by cases g <;> rfl)⟩
    exact (check_bind_ok (decide_eq_true hg) _ _ _).trans (bind_ok read _)
  · obtain ⟨r, pop⟩ := popItem_starting ready
    have selector : popSelector s.opWidth s.begin =
        .ok ((s.top s.opWidth).setWidth 16, s.readied r (s.setSp (s.popAt s.opWidth)).regs) := bind_ok pop _
    have exec_eq : exec i s = runEnding false (popSeg g) s ∧ segShadow g = shadowOf i g := by
      obtain ⟨rfl, rfl⟩ | ⟨rfl, rfl⟩ | ⟨rfl, rfl⟩ | ⟨rfl, rfl⟩ | ⟨rfl, rfl⟩ := hi <;> exact ⟨rfl, rfl⟩
    exact ⟨r, _, loadsAt_shadow hl exec_eq.1 (bind_ok selector _) exec_eq.2⟩
  · have exec_eq : exec i s = run false (loadPointer g q m) s ∧ shadowOf i g = .none := by
      obtain ⟨rfl, rfl⟩ | ⟨rfl, rfl⟩ | ⟨rfl, rfl⟩ | ⟨rfl, rfl⟩ | ⟨rfl, rfl⟩ := hi <;> exact ⟨rfl, rfl⟩
    obtain ⟨r, loads⟩ := loadsAt_pointer hl exec_eq.1 ready exec_eq.2
    exact ⟨r, s.regs, loads⟩

/-! ### Real mode and V86 mode -/

/-- What a segment register holds after a load outside protected mode. -/
def State.segment86 (s : State) (g : SReg) (sel : Word) : SegReg :=
  if s.real then (s.seg g).loadReal sel else SegReg.v86 sel

theorem segLoaded_trace (s : State) (g : SReg) (h : SegReg) : s.segLoaded g h s.trace = s.setSeg g h := by
  cases g <;> rfl

theorem loadSeg_86 (hp : s.prot = false) :
    loadSeg g sel s = .ok ((), s.segLoaded g (s.segment86 g sel) s.trace) := by
  unfold loadSeg State.segment86
  rw [get_bind_apply, segLoaded_trace]
  by_cases real : s.real = true
  · rw [if_pos real, if_pos real]
    rfl
  · have v86 : s.v86 = true := by
      unfold State.prot at hp
      unfold State.real at real
      unfold State.v86
      simp_all
    rw [if_neg real, if_pos v86, if_neg real]
    rfl

theorem segment86_fields (s : State) (g : SReg) (sel : Word) :
    (s.segment86 g sel).sel = sel ∧ (s.segment86 g sel).valid = true ∧ (s.segment86 g sel).base.toNat = 16 * sel.toNat ∧
      (s.segment86 g sel).limit = if s.real then (s.seg g).limit else 0xFFFF := by
  unfold State.segment86
  split <;> exact ⟨rfl, rfl, v86_base sel, rfl⟩

/-- A LOAD of a segment register outside protected mode, by each form. -/
theorem segForm_loads86 (hi : s.segForm i g sel regs) (hl : s.lockOk false = true) (hp : s.prot = false) (hg : g ≠ .cs) :
    ∃ t, exec i s = .next t ∧ s.LoadedBy t i g (s.segment86 g sel) regs s.mem := by
  obtain ⟨r, v, at_⟩ := segForm_loads hi hl hg
  exact at_.loads _ _ (loadSeg_86 (s := s.readied r v) hp)

/-- Settles O19: each form is a load of `segment86`. -/
theorem segmentLoads86 : Obligations.SegmentLoads86 := by
  refine ⟨fun g m s hl hp => ⟨fun hg ready => ?_, fun i hi ready => ?_⟩, fun g r m i s hl hp hi => ?_⟩
  · obtain ⟨t, exec_eq, loaded⟩ := segForm_loads86 (.inl ⟨m, rfl, ready, rfl, rfl⟩) hl hp hg
    have shadow : shadowOf (.movSregRm16 g m) g = if g = .ss then .ss else .none := by cases g <;> rfl
    exact ⟨t, _, exec_eq, loaded.agrees, loaded.regs, loaded.mem, loaded.flags, loaded.eip, loaded.cur,
      loaded.shadow.trans shadow, segment86_fields s g _⟩
  · have form : g ≠ .cs ∧ shadowOf i g = if g = .ss then .ss else .none := by
      obtain ⟨rfl, rfl⟩ | ⟨rfl, rfl⟩ | ⟨rfl, rfl⟩ | ⟨rfl, rfl⟩ | ⟨rfl, rfl⟩ := hi <;> exact ⟨by decide, rfl⟩
    obtain ⟨t, exec_eq, loaded⟩ := segForm_loads86 (.inr (.inl ⟨hi, ready, rfl, rfl⟩)) hl hp form.1
    exact ⟨t, _, exec_eq, loaded.agrees, loaded.regs, loaded.mem, loaded.flags, loaded.eip, loaded.cur,
      loaded.shadow.trans form.2, segment86_fields s g _⟩
  · intro w selOff sel ready
    have form : g ≠ .cs ∧ shadowOf i g = .none := by
      obtain ⟨rfl, rfl⟩ | ⟨rfl, rfl⟩ | ⟨rfl, rfl⟩ | ⟨rfl, rfl⟩ | ⟨rfl, rfl⟩ := hi <;> exact ⟨by decide, rfl⟩
    obtain ⟨t, exec_eq, loaded⟩ := segForm_loads86 (.inr (.inr ⟨r, m, hi, ready, rfl, rfl⟩)) hl hp form.1
    have eip : t.eip = (s.setSeg g (s.segment86 g sel)).nextIp := by rw [loaded.eip]; cases g <;> rfl
    exact ⟨t, _, exec_eq, ⟨loaded.agrees, eip, loaded.cur, loaded.shadow.trans form.2⟩, loaded.mem, loaded.flags,
      loaded.regs, segment86_fields s g sel⟩

/-! ### Protected mode -/

/-- A segment DS, ES, FS and GS can hold. -/
def State.dataFits (s : State) (sel : Word) (d : Descriptor) : Prop :=
  dIsReadable d = true ∧ (dConforming d = true ∨ max s.cpl (selRpl sel) ≤ dDpl d)

/-- A segment SS can hold at a level. -/
def stackFits (cpl : Nat) (sel : Word) (d : Descriptor) : Prop :=
  selRpl sel = cpl ∧ dIsWritableData d = true ∧ dDpl d = cpl

theorem loadDataSeg_null {vec : Byte} (h : selNull sel = true) :
    loadDataSeg vec g sel s = .ok ((), s.segLoaded g ((s.seg g).loadNull sel) s.trace) := by
  unfold loadDataSeg
  rw [if_pos h, segLoaded_trace]
  rfl

theorem loadStackSeg_null {vec : Byte} {cpl : Nat} (h : selNull sel = true) :
    loadStackSeg vec cpl sel s = .error (s.fault vec (some (sel &&& 0xFFFC))) := by
  unfold loadStackSeg
  exact check_denied (by simp [h]) faultSel_fault _

section
variable {vec : Byte} {cpl : Nat} (hn : selNull sel = false)
include hn

theorem loadDataSeg_outside (h : s.descAddr sel = none) :
    loadDataSeg vec g sel s = .error (s.fault vec (some (sel &&& 0xFFFC))) := by
  unfold loadDataSeg
  rw [if_neg (by simp [hn])]
  exact bind_error (readDescriptor_outside h faultSel_fault) _

theorem loadStackSeg_outside (h : s.descAddr sel = none) :
    loadStackSeg vec cpl sel s = .error (s.fault vec (some (sel &&& 0xFFFC))) := by
  unfold loadStackSeg
  rw [check_bind_ok (by simp [hn])]
  exact bind_error (readDescriptor_outside h faultSel_fault) _

variable (hf : s.finds sel d a)
include hf

theorem loadDataSeg_unfit (h : ¬s.dataFits sel d) :
    loadDataSeg vec g sel s = .error (s.fault vec (some (sel &&& 0xFFFC))) := by
  unfold loadDataSeg
  rw [if_neg (by simp [hn]), bind_ok (readDescriptor_finds hf _)]
  dsimp only
  rw [get_bind_apply]
  by_cases readable : dIsReadable d = true
  · rw [check_bind_ok readable]
    refine check_denied (Bool.eq_false_iff.2 fun level => h ⟨readable, ?_⟩) faultSel_fault _
    simpa using level
  · exact check_denied (by simpa using readable) faultSel_fault _

theorem loadStackSeg_unfit (h : ¬stackFits cpl sel d) :
    loadStackSeg vec cpl sel s = .error (s.fault vec (some (sel &&& 0xFFFC))) := by
  unfold loadStackSeg
  rw [check_bind_ok (by simp [hn]), bind_ok (readDescriptor_finds hf _)]
  refine check_denied (Bool.eq_false_iff.2 fun fits => h ?_) faultSel_fault _
  simpa [stackFits, and_assoc] using fits

/-- A data segment that fits: what is left is that it is present. -/
theorem loadDataSeg_fits (h : s.dataFits sel d) : loadDataSeg vec g sel s =
    (check (dPresent d) (faultSel 11 sel) >>= fun _ => markAccessed d a >>= fun _ =>
      modify fun s => s.setSeg g (SegReg.ofDescriptor s.level sel d)) s := by
  obtain ⟨readable, level⟩ := h
  unfold loadDataSeg
  rw [if_neg (by simp [hn]), bind_ok (readDescriptor_finds hf _)]
  dsimp only
  rw [get_bind_apply, check_bind_ok readable, check_bind_ok (by simpa using level)]

theorem loadDataSeg_absent (h : s.dataFits sel d) (hp : dPresent d = false) :
    loadDataSeg vec g sel s = .error (s.fault 11 (some (sel &&& 0xFFFC))) :=
  (loadDataSeg_fits hn hf h).trans (check_denied hp faultSel_fault _)

theorem loadStackSeg_absent (h : stackFits cpl sel d) (hp : dPresent d = false) :
    loadStackSeg vec cpl sel s = .error (s.fault 12 (some (sel &&& 0xFFFC))) := by
  obtain ⟨rpl, data, dpl⟩ := h
  unfold loadStackSeg
  rw [check_bind_ok (by simp [hn]), bind_ok (readDescriptor_finds hf _)]
  refine (check_bind_ok (by simp [rpl, data, dpl]) _ _ _).trans ?_
  exact check_denied hp faultSel_fault _

end

/-- LOADING a data segment that fits and is present. -/
theorem loadDataSeg_after {vec : Byte} (hn : selNull sel = false) (hf : s.names sel d a) (h : s.dataFits sel d)
    (hp : dPresent d = true) : ∃ x, loadDataSeg vec g sel s =
      .ok ((), s.segLoaded g (SegReg.ofDescriptor s.level sel d) x) ∧ MarkedAt s.mem x.mem (s.tablePlace (a + 5) 0) := by
  obtain ⟨found, writable⟩ := hf
  obtain ⟨x, run, -, -, -, marked⟩ := markAccessed_after writable (finds_access found)
  refine ⟨x, ?_, marked⟩
  rw [loadDataSeg_fits hn found h, check_bind_ok hp, bind_ok run]
  cases g <;> rfl

theorem ofDescriptor_shows (level : Nat) (sel : Word) (d : Descriptor) :
    (SegReg.ofDescriptor level sel d).shows level sel d := ⟨rfl, rfl, rfl, rfl, rfl, rfl, rfl⟩

/-- In protected mode the register decides the checks. -/
theorem loadSeg_prot (hp : s.prot = true) :
    loadSeg g sel s = (if g = .ss then loadStackSeg 13 s.cpl sel else loadDataSeg 13 g sel) s := by
  have real : s.real = false := by simp [State.real, pe_of_prot hp]
  unfold loadSeg
  rw [get_bind_apply, real, not_v86_of_prot hp]
  rfl

section
variable (hi : s.segForm i g sel regs) (hl : s.lockOk false = true) (hg : g ≠ .cs)
include hi hl hg

/-- A form whose load is refused, naming the selector. -/
theorem segForm_faults {vec : Byte} (h : ∀ r v, loadSeg g sel (s.readied r v) =
    .error ((s.readied r v).fault vec (some (sel &&& 0xFFFC)))) : exec i s = s.faults vec (some (sel &&& 0xFFFC)) := by
  obtain ⟨r, v, at_⟩ := segForm_loads hi hl hg
  exact at_.faults _ _ (h r v)

/-- A form whose load completes, with what it leaves in memory. -/
theorem segForm_completes (h : SegReg) (p : Memory → Prop) (ok : ∀ r v, ∃ x,
    loadSeg g sel (s.readied r v) = .ok ((), (s.readied r v).segLoaded g h x) ∧ p x.mem) :
    ∃ t, (exec i s = .next t ∧ (s.setSeg g h).agrees t ∧ t.eip = s.nextIp ∧ t.cur = .start ∧ t.shadow = shadowOf i g ∧
      t.regs = regs ∧ t.flags = s.flags.kept) ∧ p t.mem := by
  obtain ⟨r, v, at_⟩ := segForm_loads hi hl hg
  obtain ⟨x, run, holds⟩ := ok r v
  obtain ⟨t, exec_eq, done⟩ := at_.loads h x run
  exact ⟨t, ⟨exec_eq, done.agrees, done.eip, done.cur, done.shadow, done.regs, done.flags⟩, done.mem ▸ holds⟩

end

/-- Settles O20: each form is a load with a selector, and each case of the descriptor is an equation of that load. -/
theorem protectedSegmentLoads : Obligations.ProtectedSegmentLoads := by
  intro g i sel regs s hl hp hi fails loads
  refine ⟨fun data => ?_, fun stack => ?_⟩
  · have kind : g ≠ .cs ∧ g ≠ .ss := by
      obtain rfl | rfl | rfl | rfl := data <;> decide
    obtain ⟨hg, notStack⟩ := kind
    have load (r : TrapRecord) (v : Gpr) : loadSeg g sel (s.readied r v) = loadDataSeg 13 g sel (s.readied r v) := by
      rw [loadSeg_prot (s := s.readied r v) hp, if_neg notStack]
    refine ⟨fun null => ?_, fun some none => ?_, fun d a some named => ⟨fun fits present => ?_, fun unfit => ?_,
      fun fits absent => ?_⟩⟩
    · obtain ⟨t, done, mem⟩ := segForm_completes hi hl hg ((s.seg g).loadNull sel) (· = s.mem) fun r v =>
        ⟨_, (load r v).trans (loadDataSeg_null null), rfl⟩
      exact ⟨t, _, done, mem, rfl, rfl⟩
    · exact segForm_faults hi hl hg fun r v =>
        (load r v).trans (loadDataSeg_outside (s := s.readied r v) some none)
    · obtain ⟨t, done, marked⟩ := segForm_completes hi hl hg (SegReg.ofDescriptor s.level sel d)
        (MarkedAt s.mem · (s.tablePlace (a + 5) 0)) fun r v => by
          rw [load]
          exact loadDataSeg_after (s := s.readied r v) some named fits present
      exact ⟨t, _, done, ofDescriptor_shows s.level sel d, marked⟩
    · exact segForm_faults hi hl hg fun r v =>
        (load r v).trans (loadDataSeg_unfit (s := s.readied r v) some named.1 unfit)
    · exact segForm_faults hi hl hg fun r v =>
        (load r v).trans (loadDataSeg_absent (s := s.readied r v) some named.1 fits absent)
  · subst stack
    have load (r : TrapRecord) (v : Gpr) : loadSeg .ss sel (s.readied r v) = loadStackSeg 13 s.cpl sel (s.readied r v) :=
      loadSeg_prot (s := s.readied r v) hp
    have hg : SReg.ss ≠ .cs := by decide
    refine ⟨fun unusable => ?_, fun d a some named => ⟨fun fits present => ?_, fun unfit => ?_, fun fits absent => ?_⟩⟩
    · refine segForm_faults hi hl hg fun r v => (load r v).trans ?_
      by_cases null : selNull sel = true
      · exact loadStackSeg_null null
      · exact loadStackSeg_outside (s := s.readied r v) (by simpa using null) (unusable.resolve_left null)
    · obtain ⟨rpl, writable, dpl⟩ := fits
      obtain ⟨t, done, marked⟩ := segForm_completes hi hl hg (SegReg.ofDescriptor s.level sel d)
        (MarkedAt s.mem · (s.tablePlace (a + 5) 0)) fun r v => by
          obtain ⟨x, run, -, -, marked⟩ := loadStackSeg_after (s := s.readied r v) (vec := 13)
            (cpl := s.cpl) ⟨some, named, rpl, writable, dpl, present⟩
          exact ⟨x, (load r v).trans run, marked⟩
      exact ⟨t, _, done, ofDescriptor_shows s.level sel d, marked⟩
    · exact segForm_faults hi hl hg fun r v =>
        (load r v).trans (loadStackSeg_unfit (s := s.readied r v) some named.1 unfit)
    · exact segForm_faults hi hl hg fun r v =>
        (load r v).trans (loadStackSeg_absent (s := s.readied r v) some named.1 fits absent)

end Sys2Proof.Machine
end

section
/-! PROOFS. Accesses that are refused: outside the segment, against its rights, or not aligned; and the second part of a
pointer past 2^32. -/
-- One declaration after the other: many proofs at once take more thread stacks than the memory limit allows.
set_option Elab.async false
namespace Sys2Proof.Machine

variable {α : Type} {s : State} {w n b : Nat} {g : SReg} {k : AccessKind} {off : Dword} {i : Instr} {m : Mem} {stop : Abort}

/-! ### The checks of an access -/

/-- The interrupt of an access past a segment's limit. -/
def State.limitVector (s : State) (g : SReg) : Byte := if g = .ss ∧ ¬(s.level = 2 ∧ s.real = true) then 12 else 13

theorem limitFault_fault : (limitFault g : M α) s = .error (s.fault (s.limitVector g) (some 0)) := by
  unfold limitFault State.limitVector
  split <;> rfl

/-- `n` bytes at an offset do not all lie in a segment (spec/21_protection.md R127). -/
def SegReg.past (g : SegReg) (off n : Nat) : Prop :=
  if g.expandDown then off ≤ g.limit.toNat ∨ (if g.big then 2 ^ 32 else 2 ^ 16) < off + n
  else g.limit.toNat < off + n - 1

theorem inLimit_iff {h : SegReg} {o : Nat} (hn : 0 < n) : h.inLimit o n = true ↔ ¬h.past o n := by
  unfold SegReg.inLimit SegReg.past
  split
  · simp only [Bool.and_eq_true, decide_eq_true_eq]
    omega
  · simp only [decide_eq_true_eq]
    omega

section
variable (hl : s.level ≠ 0)
include hl

theorem access_rights (h : (s.seg g).valid = false ∨ (s.seg g).allows k = false) :
    access g k off n b s = .error (s.fault 13 (some 0)) := by
  refine bind_error ?_ _
  unfold segCheck
  rw [get_bind_apply, if_neg hl]
  by_cases valid : (s.seg g).valid = true
  · exact (check_bind_ok valid _ _ _).trans (check_denied (h.resolve_left (by simp [valid])) gp0_fault _)
  · exact check_denied (by simpa using valid) gp0_fault _

variable (hv : (s.seg g).valid = true) (ha : (s.seg g).allows k = true)
include hv ha

theorem access_past (hn : 0 < n) (h : (s.seg g).past off.toNat n) :
    access g k off n b s = .error (s.fault (s.limitVector g) (some 0)) := by
  refine bind_error ?_ _
  unfold segCheck
  rw [get_bind_apply, if_neg hl]
  refine (check_bind_ok hv _ _ _).trans ((check_bind_ok ha _ _ _).trans ?_)
  have out : (s.seg g).inLimit off.toNat n = false := Bool.eq_false_iff.2 fun inside => (inLimit_iff hn).1 inside h
  rw [out]
  exact limitFault_fault

theorem access_unaligned (hn : 0 < n) (h : ¬(s.seg g).past off.toNat n) (h4 : s.level = 4) (ham : s.cr0.am = true)
    (hac : s.flags.ac = true) (hc : s.cpl = 3) (odd : s.linear g off.toNat % b ≠ 0) :
    access g k off n b s = .error (s.fault 17 (some 0)) := by
  have seg : segCheck g k off.toNat n s = .ok ((), s) := by
    unfold segCheck
    rw [get_bind_apply, if_neg hl]
    refine (check_bind_ok hv _ _ _).trans ((check_bind_ok ha _ _ _).trans ?_)
    rw [(inLimit_iff hn).2 h]
    rfl
  have align : alignCheck (s.linear g off.toNat) b s = .error (s.fault 17 (some 0)) := by
    unfold alignCheck
    rw [get_bind_apply]
    simp only [h4, ham, hac, hc, odd, decide_true, ne_eq, not_false_eq_true, Bool.and_self, Bool.not_true, check_false]
    rfl
  unfold access
  rw [bind_ok seg, get_bind_apply]
  exact bind_error align _

end

/-! ### What an access that is refused ends -/

theorem readItem_refused (h : access g .read off (w / 8) b s = .error stop) : readItem w b g off s = .error stop :=
  bind_error (bind_error h _) _

theorem writeItem_refused {v : BitVec w} (h : access g .write off (w / 8) b s = .error stop) :
    writeBytes g off (valueBytes v) b s = .error stop := by
  unfold writeBytes
  rw [valueBytes_length]
  exact bind_error h _

theorem memGet_refused (h : access (s.memSeg m) .read (s.memOff m) (w / 8) (w / 8) s = .error stop) :
    memGet w m s = .error stop := by
  unfold memGet
  rw [get_bind_apply]
  exact readItem_refused h

theorem memPut_refused {v : BitVec w} (h : access (s.memSeg m) .write (s.memOff m) (w / 8) (w / 8) s = .error stop) :
    memPut m v s = .error stop := by
  unfold memPut
  rw [get_bind_apply]
  exact writeItem_refused h

theorem push_refused {v : BitVec w} (h : access .ss .write (s.pushAt w) (w / 8) (w / 8) s = .error stop) :
    push v s = .error stop := by
  unfold push pushItem
  rw [get_bind_apply]
  exact bind_error (writeItem_refused h) _

theorem pushReg_refused {r : Reg}
    (h : access .ss .write (s.pushAt s.opWidth) (s.opWidth / 8) (s.opWidth / 8) s = .error stop) :
    pushReg r s = .error stop := by
  unfold pushReg
  rw [sized_apply, get_bind_apply]
  exact push_refused h

theorem pop_refused (h : access .ss .read s.sp (w / 8) (w / 8) s = .error stop) : pop w s = .error stop := by
  unfold pop popItem
  rw [get_bind_apply]
  exact bind_error (readItem_refused h) _

theorem callNear_refused {v : Dword} (ok : s.targetOk (targetOf s.op32 v) = true)
    (h : access .ss .write (s.pushAt s.opWidth) (s.opWidth / 8) (s.opWidth / 8) s = .error stop) :
    callNear v s = .error stop := by
  unfold callNear
  rw [sized_apply, get_bind_apply, check_bind_ok ok]
  exact bind_error (push_refused h) _

/-- The counter is 0 exactly when CX or ECX is. -/
theorem counter_eq_zero : s.counter = 0 ↔ s.reg s.addrWidth .ecx = 0 := by
  have small : (s.reg s.addrWidth .ecx).toNat < 2 ^ 32 :=
    Nat.lt_of_lt_of_le (s.reg s.addrWidth .ecx).isLt
      (Nat.pow_le_pow_right (by decide) (by rcases addrWidth_cases s with h | h <;> simp [h]))
  unfold State.counter
  rw [BitVec.toNat_eq, BitVec.toNat_eq, BitVec.toNat_setWidth, Nat.mod_eq_of_lt small]
  simp

/-- An element of a string instruction that is processed, and refused. -/
theorem repeated_refused {compare : Bool} {one : M Unit} (ht : s.takesElement) (h : one s = .error stop) :
    repeated compare one s = .error stop := by
  unfold repeated
  rw [get_bind_apply]
  cases rep : s.cur.rep with
  | none => exact bind_error h _
  | some k =>
    have left : s.reg s.addrWidth .ecx ≠ 0 := ht.resolve_left (by simp [rep])
    exact (congrFun (if_neg (mt counter_eq_zero.1 left)) s).trans (bind_error h _)

/-! ### The forms -/

section
variable {vec : Byte} {err : Option Word} (hl : s.lockOk false = true)
include hl

/-- MOV with a memory operand. -/
theorem mov_refused (h : access (s.memSeg m) k (s.memOff m) n n s.begin = .error (s.fault vec err)) :
    (∀ r, n = s.opWidth / 8 → (i = .movRvRmv r (.mem m) ∧ k = .read ∨ i = .movRmvRv (.mem m) r ∧ k = .write) →
      exec i s = s.faults vec err) ∧
    (∀ r, n = 1 → (i = .movR8Rm8 r (.mem m) ∧ k = .read ∨ i = .movRm8R8 (.mem m) r ∧ k = .write) →
      exec i s = s.faults vec err) := by
  refine ⟨fun r hn hi => ?_, fun r hn hi => ?_⟩
  · subst hn
    obtain ⟨rfl, rfl⟩ | ⟨rfl, rfl⟩ := hi
    · exact run_faults (body := movv (.reg r) (rmSrc (.mem m))) hl (bind_error (memGet_refused h) _)
    · exact run_faults (body := movv (.mem m) (regSrc r)) hl
        ((bind_ok (getReg_apply s.opWidth r s.begin) _).trans (memPut_refused h))
  · subst hn
    obtain ⟨rfl, rfl⟩ | ⟨rfl, rfl⟩ := hi
    · exact run_faults (body := mov8 (.reg r) (get8 (.mem m))) hl (bind_error (memGet_refused (w := 8) h) _)
    · exact run_faults (body := mov8 (.mem m) (getReg8 r)) hl
        ((bind_ok (getReg8_apply r s.begin) _).trans (memPut_refused (w := 8) h))

/-- PUSH and near CALL. -/
theorem pushes_refused
    (h : access .ss .write (s.pushAt s.opWidth) (s.opWidth / 8) (s.opWidth / 8) s.begin = .error (s.fault vec err))
    (hi : (∃ r, i = .pushRv r) ∨ (∃ v, i = .pushImmv v) ∨ (∃ b, i = .pushImm8s b) ∨
      ∃ v, i = .callRelv v ∧ s.targetOk (targetOf s.op32 (s.nextIp + v)) = true) : exec i s = s.faults vec err := by
  obtain ⟨r, rfl⟩ | ⟨v, rfl⟩ | ⟨v, rfl⟩ | ⟨v, rfl, ok⟩ := hi
  · exact run_faults (body := pushReg r) hl (pushReg_refused h)
  · exact run_faults (body := sized fun w => push (v.setWidth w)) hl (push_refused h)
  · exact run_faults (body := sized fun w => push (immSext w v)) hl (push_refused h)
  · exact run_faults (body := get >>= fun s => callNear (s.eip + v)) hl (callNear_refused ok h)

/-- POP and near RET. -/
theorem pops_refused (h : access .ss .read s.sp (s.opWidth / 8) (s.opWidth / 8) s.begin = .error (s.fault vec err))
    (hi : (∃ d, i = .popMv d) ∨ (∃ r, i = .popRv r) ∨ i = .ret ∨ ∃ v, i = .retImm16 v) : exec i s = s.faults vec err := by
  obtain ⟨d, rfl⟩ | ⟨r, rfl⟩ | rfl | ⟨v, rfl⟩ := hi
  · exact run_faults (body := popRm d) hl (bind_error (pop_refused h) _)
  · exact run_faults (body := popReg r) hl (bind_error (pop_refused h) _)
  · exact run_faults (body := returnNear 0) hl (bind_error (pop_refused h) _)
  · exact run_faults (body := returnNear v) hl (bind_error (pop_refused h) _)

/-- String instructions whose first element is read through DS or the override. -/
theorem source_refused (ht : s.takesElement)
    (h : access (s.cur.seg.getD .ds) .read (s.pointer .esi) n n s.begin = .error (s.fault vec err))
    (hi : n = 1 ∧ (i = .movsb ∨ i = .cmpsb ∨ i = .lodsb) ∨ n = s.opWidth / 8 ∧ (i = .movsv ∨ i = .cmpsv ∨ i = .lodsv)) :
    exec i s = s.faults vec err := by
  have element (w : Nat) (hw : n = w / 8) : movsOne w s.begin = .error (s.fault vec err) ∧
      cmpsOne w s.begin = .error (s.fault vec err) ∧ lodsOne w s.begin = .error (s.fault vec err) := by
    subst hw
    unfold movsOne cmpsOne lodsOne
    simp only [get_bind_apply]
    exact ⟨bind_error (readItem_refused h) _, bind_error (readItem_refused h) _, bind_error (readItem_refused h) _⟩
  obtain ⟨hn, hi⟩ | ⟨hn, hi⟩ := hi
  · obtain ⟨movs, cmps, lods⟩ := element 8 hn
    obtain rfl | rfl | rfl := hi
    · exact runEnding_faults (body := repeated false (movsOne 8)) hl (repeated_refused (s := s.begin) ht movs)
    · exact runEnding_faults (body := repeated true (cmpsOne 8)) hl (repeated_refused (s := s.begin) ht cmps)
    · exact runEnding_faults (body := repeated false (lodsOne 8)) hl (repeated_refused (s := s.begin) ht lods)
  · obtain ⟨movs, cmps, lods⟩ := element s.opWidth hn
    obtain rfl | rfl | rfl := hi
    · exact runEnding_faults (body := repeated false (sized movsOne)) hl (repeated_refused (s := s.begin) ht movs)
    · exact runEnding_faults (body := repeated true (sized cmpsOne)) hl (repeated_refused (s := s.begin) ht cmps)
    · exact runEnding_faults (body := repeated false (sized lodsOne)) hl (repeated_refused (s := s.begin) ht lods)

/-- String instructions whose first element is at ES:DI. -/
theorem destination_refused (ht : s.takesElement)
    (h : access .es k (s.pointer .edi) n n s.begin = .error (s.fault vec err))
    (hi : n = 1 ∧ (i = .stosb ∧ k = .write ∨ i = .scasb ∧ k = .read) ∨
      n = s.opWidth / 8 ∧ (i = .stosv ∧ k = .write ∨ i = .scasv ∧ k = .read)) : exec i s = s.faults vec err := by
  have stos (w : Nat) (hw : n = w / 8) (hk : k = .write) : stosOne w s.begin = .error (s.fault vec err) := by
    subst hw hk
    unfold stosOne
    rw [get_bind_apply]
    exact bind_error (writeItem_refused h) _
  have scas (w : Nat) (hw : n = w / 8) (hk : k = .read) : scasOne w s.begin = .error (s.fault vec err) := by
    subst hw hk
    unfold scasOne
    rw [get_bind_apply]
    exact bind_error (readItem_refused h) _
  obtain ⟨hn, ⟨rfl, hk⟩ | ⟨rfl, hk⟩⟩ | ⟨hn, ⟨rfl, hk⟩ | ⟨rfl, hk⟩⟩ := hi
  · exact runEnding_faults (body := repeated false (stosOne 8)) hl (repeated_refused (s := s.begin) ht (stos 8 hn hk))
  · exact runEnding_faults (body := repeated true (scasOne 8)) hl (repeated_refused (s := s.begin) ht (scas 8 hn hk))
  · exact runEnding_faults (body := repeated false (sized stosOne)) hl
      (repeated_refused (s := s.begin) ht (stos s.opWidth hn hk))
  · exact runEnding_faults (body := repeated true (sized scasOne)) hl
      (repeated_refused (s := s.begin) ht (scas s.opWidth hn hk))

/-- THE FORMS begin with their access: where it is refused, so is the instruction. -/
theorem accessForm_refused (hi : s.accessForm i g k off n)
    (h : access g k off n n s.begin = .error (s.fault vec err)) : exec i s = s.faults vec err := by
  obtain ⟨m, rfl, rfl, hi⟩ | ⟨rfl, rfl, ⟨rfl, rfl, hi⟩ | ⟨rfl, rfl, hi⟩⟩ | ⟨takes, hi, rfl, rfl, rfl⟩ |
    ⟨takes, hi, rfl, rfl⟩ := hi
  · obtain ⟨words, bytes⟩ := mov_refused (i := i) hl h
    obtain ⟨r, hn, hi⟩ | ⟨r, hn, hi⟩ := hi
    · exact words r hn hi
    · exact bytes r hn hi
  · exact pushes_refused hl h hi
  · exact pops_refused hl h hi
  · exact source_refused hl takes h hi
  · exact destination_refused hl takes h hi

end

theorem accessForm_pos (hi : s.accessForm i g k off n) : 0 < n := by
  have wide : 0 < s.opWidth / 8 := by rcases opWidth_cases s with h | h <;> simp [h]
  obtain ⟨m, -, -, ⟨r, rfl, -⟩ | ⟨r, rfl, -⟩⟩ | ⟨-, rfl, -⟩ | ⟨-, ⟨rfl, -⟩ | ⟨rfl, -⟩, -⟩ | ⟨-, ⟨rfl, -⟩ | ⟨rfl, -⟩, -⟩ := hi
  exacts [wide, Nat.one_pos, wide, Nat.one_pos, wide, Nat.one_pos, wide]

/-! ### Pointers and bounds past 2^32 -/

/-- The first object can be read, the second lies past 2^32. -/
theorem pair_beyond {β : Type} {k : Nat} (h : s.reaches (s.memSeg m) .read (s.memOff m) (w / 8) (w / 8) = true)
    (hp : 2 ^ 32 ≤ (s.memOff m).toNat + w / 8) (f : BitVec w → BitVec k → M β) :
    (memGet w m >>= fun x => memGetAt k m (w / 8) >>= f x) s.begin = .error (s.fault (s.limitVector (s.memSeg m)) (some 0)) := by
  obtain ⟨r, read⟩ := readItem_starting h s.trap
  refine (bind_ok (m := memGet w m) read _).trans (bind_error ?_ _)
  unfold memGetAt
  rw [get_bind_apply]
  exact check_denied (decide_eq_false (Nat.not_lt.2 hp)) (limitFault_fault (s := s.starting r)) _

theorem pairForm_refused (hi : pairForm i m) (hl : s.lockOk false = true)
    (h : s.reaches (s.memSeg m) .read (s.memOff m) (s.opWidth / 8) (s.opWidth / 8) = true)
    (hp : 2 ^ 32 ≤ (s.memOff m).toNat + s.opWidth / 8) : exec i s = s.faults (s.limitVector (s.memSeg m)) (some 0) := by
  have pointer (g : SReg) (r : Reg) (exec_eq : exec i s = run false (loadPointer g r m) s) :
      exec i s = s.faults (s.limitVector (s.memSeg m)) (some 0) :=
    exec_eq.trans (run_faults hl (pair_beyond h hp _))
  have far (kind : FarKind) (exec_eq : exec i s = runEnding false (farIndirect kind m) s) :
      exec i s = s.faults (s.limitVector (s.memSeg m)) (some 0) :=
    exec_eq.trans (runEnding_faults hl (pair_beyond h hp _))
  obtain ⟨r, rfl | rfl | rfl | rfl | rfl | rfl⟩ | rfl | rfl := hi
  · exact pointer .ds r rfl
  · exact pointer .es r rfl
  · exact pointer .fs r rfl
  · exact pointer .gs r rfl
  · exact pointer .ss r rfl
  · exact run_faults (body := boundCheck r m) hl (pair_beyond h hp _)
  · exact far .jmp rfl
  · exact far .call rfl

/-- Settles O49: each form begins with its access, and each way of refusing it is an equation of `access`. -/
theorem segmentFaults : Obligations.SegmentFaults := by
  refine ⟨fun s i g k at_ n hl level hi => ?_, fun s i m hl level hi h hp => ?_⟩
  · have pos := accessForm_pos hi
    refine ⟨fun rights => ?_, fun valid allowed past => ?_, fun valid allowed inside l4 am ac cpl odd => ?_⟩
    · exact accessForm_refused hl hi (access_rights (s := s.begin) level (by simpa using rights))
    · exact accessForm_refused hl hi (access_past (s := s.begin) level ((begin_seg s g).symm ▸ valid)
        ((begin_seg s g).symm ▸ allowed) pos ((begin_seg s g).symm ▸ past))
    · exact accessForm_refused hl hi (access_unaligned (s := s.begin) level ((begin_seg s g).symm ▸ valid)
        ((begin_seg s g).symm ▸ allowed) pos ((begin_seg s g).symm ▸ inside) l4 am ac cpl odd)
  · have vector : s.limitVector (s.memSeg m) = if s.memSeg m = .ss then 12 else 13 := by
      unfold State.limitVector
      simp [show s.level ≠ 2 by omega]
    exact (pairForm_refused hi hl h hp).trans (by rw [vector])

end Sys2Proof.Machine
end

section
/-! PROOFS. Computations that set flags, and the instructions made of one: all but the six result flags and the free
values stays as it was, and what is known of the flags the computation leaves holds when the instruction has run. -/
-- One declaration after the other: many proofs at once take more thread stacks than the memory limit allows.
set_option Elab.async false
namespace Sys2Proof.Machine

variable {α : Type} {s t : State} {w : Nat} {f : Flags} {post : Flags → Prop}

/-! ### Computations that set flags -/

/-- The state with other flags, and free values drawn. -/
def State.flagged (s : State) (g : Flags) (n : Nat) : State := { s with flags := g, oracle := n }

/-- From flags `f` a computation gives `v`, drawing free values and setting result flags, of which `post` holds. -/
def Computes (m : M α) (f : Flags) (v : α) (post : Flags → Prop) : Prop :=
  ∀ u : State, u.flags = f → ∃ g n, m u = .ok (v, u.flagged g n) ∧ f.sixFrom g.kept ∧ post g.kept

/-- Flags known beforehand. -/
theorem Computes.withFlags {v : α} {g : Flags} (six : f.sixFrom g.kept) (h : post g.kept) :
    Computes (withFlags (v, g)) f v post := fun u _ => ⟨g, u.oracle, rfl, six, h⟩

/-- A computation that begins by looking at the flags. -/
theorem Computes.onFlags {v : α} {m : M α} {k : State → M α} (h : Computes m f v post)
    (hk : ∀ u : State, u.flags = f → k u u = m u) : Computes (get >>= k) f v post := by
  intro u hu
  obtain ⟨g, n, run, holds⟩ := h u hu
  exact ⟨g, n, (hk u hu).trans run, holds⟩

/-- The value is dropped. -/
theorem Computes.discard {m : M α} {v : α} (h : Computes m f v post) : Computes (m >>= fun _ => pure ()) f () post := by
  intro u hu
  obtain ⟨g, n, run, six, holds⟩ := h u hu
  exact ⟨g, n, bind_ok run _, six, holds⟩

/-! ### The effect of an instruction -/

/-- The effect of an instruction of `s` has left `t`, control being as it was at its start. -/
structure State.Went (s t : State) : Prop where
  agrees : s.agrees t
  eip : t.eip = s.nextIp
  shadow : t.shadow = .none

theorem State.Effect.went (h : s.Effect t) : s.Went t := ⟨h.agrees, h.eip, h.shadow⟩

theorem State.Went.flagged (h : s.Went t) (g : Flags) (n : Nat) : s.Went (t.flagged g n) :=
  ⟨h.agrees.trans rfl, h.eip, h.shadow⟩

theorem State.Went.set8 (h : s.Went t) (d : Rm8) (v : Byte) : s.Went (s.set8 t d v) := by
  obtain ⟨eip, shadow, -⟩ := set8_fields s t d v
  exact ⟨h.agrees.trans (set8_agrees s t d v), eip.trans h.eip, shadow.trans h.shadow⟩

theorem State.Went.setv (h : s.Went t) (d : Rmv) (v : BitVec w) : s.Went (s.setv t d v) := by
  obtain ⟨eip, shadow, -⟩ := setv_fields s t d v
  exact ⟨h.agrees.trans (setv_agrees s t d v), eip.trans h.eip, shadow.trans h.shadow⟩

/-- An instruction whose effect went on to the next one. -/
theorem run_went {l : Bool} {body : M Unit} (hl : s.lockOk l = true) (hb : body s.begin = .ok ((), t)) (h : s.Went t) :
    run l body s = .next (finish s t .done) ∧ s.ran (finish s t .done) :=
  ⟨run_ok hl hb, ran_finish h.agrees h.eip h.shadow⟩

/-- New result flags do not change the way to memory. -/
theorem flagged_way {g : Flags} {n : Nat} (way : s.SameWay t) (six : s.flags.sixFrom g.kept) :
    s.SameWay (t.flagged g n) := by
  have ac : g.kept.ac = s.flags.ac := by rw [six]
  have vm : g.kept.vm = s.flags.vm := by rw [six]
  have seg (q : SReg) : (t.flagged g n).seg q = t.seg q := by cases q <;> rfl
  exact ⟨way.cfg, way.cr0, way.cr3, fun q => (seg q).trans (way.seg q), ac, vm, way.latch⟩

/-- An access to memory leaves the registers, the flags and the way to memory as the instruction found them. -/
theorem accessed_starting {r : TrapRecord} (h : (s.starting r).SameButMem t) :
    s.Effect t ∧ s.SameWay t ∧ t.regs = s.regs :=
  ⟨(starting_effect s r).butMem h, (starting_way s r).trans h.way, h.regs⟩

/-! ### Updates -/

theorem starting_val8 (s : State) (r : TrapRecord) (d : Rm8) : (s.starting r).val8 d = s.val8 d := begin_val8 s d

theorem starting_valv (s : State) (r : TrapRecord) (w : Nat) (d : Rmv) : (s.starting r).valv w d = s.valv w d :=
  begin_valv s w d

theorem set8_flags (s t : State) (d : Rm8) (v : Byte) : (s.set8 t d v).flags = t.flags := by
  obtain ⟨-, -, flags, -⟩ := set8_fields s t d v
  exact flags

theorem setv_flags (s t : State) (d : Rmv) (v : BitVec w) : (s.setv t d v).flags = t.flags := by
  obtain ⟨-, -, flags, -⟩ := setv_fields s t d v
  exact flags

/-- UPDATING a byte operand. -/
theorem update8_starting {d : Rm8} {c : Byte → M Byte} {v : Byte} (r : TrapRecord) (h : s.ready8 .update d = true)
    (hc : Computes (c (s.val8 d)) s.flags v post) :
    ∃ t, update8 d c (s.starting r) = .ok ((), t) ∧ s.Went t ∧ s.wrote8 t d v ∧
      s.flags.sixFrom t.flags.kept ∧ post t.flags.kept := by
  have touched := touch8_same (s.starting r) .update d
  obtain ⟨effect, way, regs⟩ := accessed_starting touched
  obtain ⟨g, n, computed, six, holds⟩ := hc _ effect.flags
  rw [← starting_val8 s r d] at computed
  have updated := update8_ready (s := s.starting r) ((begin_ready8 s .update d).trans h) computed
    (flagged_way touched.way six)
  have target (t : State) : (s.starting r).set8 t d v = s.set8 t d v := by cases d <;> rfl
  refine ⟨_, updated.trans (by rw [target]), (effect.went.flagged g n).set8 d v,
    wrote8_set8 v h (flagged_way way six) regs (touch8_mem (s.starting r) .update d), ?_⟩
  rw [set8_flags]
  exact ⟨six, holds⟩

/-- UPDATING a word or doubleword operand. -/
theorem updatev_starting {d : Rmv} {c : BitVec w → M (BitVec w)} {v : BitVec w} (r : TrapRecord)
    (hw : w = 16 ∨ w = 32) (h : s.readyv .update w d = true) (hc : Computes (c (s.valv w d)) s.flags v post) :
    ∃ t, updatev w d c (s.starting r) = .ok ((), t) ∧ s.Went t ∧ s.wrotev t d v ∧
      s.flags.sixFrom t.flags.kept ∧ post t.flags.kept := by
  have touched := touchv_same (s.starting r) .update w d
  obtain ⟨effect, way, regs⟩ := accessed_starting touched
  obtain ⟨g, n, computed, six, holds⟩ := hc _ effect.flags
  rw [← starting_valv s r w d] at computed
  have updated := updatev_ready (s := s.starting r) ((begin_readyv s .update w d).trans h) computed
    (flagged_way touched.way six)
  have target (t : State) : (s.starting r).setv t d v = s.setv t d v := by cases d <;> rfl
  refine ⟨_, updated.trans (by rw [target]), (effect.went.flagged g n).setv d v,
    wrotev_setv v hw h (flagged_way way six) regs (touchv_mem (s.starting r) .update w d), ?_⟩
  rw [setv_flags]
  exact ⟨six, holds⟩

/-! ### The instructions -/

/-- An instruction that sets general registers and flags. -/
theorem run_computes {l : Bool} {body : M Unit} {m : M Unit} {r : TrapRecord} {regs : Gpr} (hl : s.lockOk l = true)
    (hb : body s.begin = m (s.readied r regs)) (hm : Computes m s.flags () post) :
    ∃ t, run l body s = .next t ∧ s.ran t ∧ t.mem = s.mem ∧ t.regs = regs ∧
      s.flags.sixFrom t.flags ∧ post t.flags := by
  obtain ⟨g, n, computed, six, holds⟩ := hm (s.readied r regs) rfl
  obtain ⟨runs, ran⟩ := run_went hl (hb.trans computed) (((starting_effect s r).withRegs regs).went.flagged g n)
  exact ⟨_, runs, ran, rfl, rfl, six, holds⟩

/-- An instruction that sets flags alone. -/
theorem run_setsFlags {l : Bool} {body m : M Unit} {r : TrapRecord} (hl : s.lockOk l = true)
    (hb : body s.begin = m (s.starting r)) (hm : Computes m s.flags () post) :
    ∃ t, run l body s = .next t ∧ s.ran t ∧ t.regs = s.regs ∧ t.mem = s.mem ∧
      s.flags.sixFrom t.flags ∧ post t.flags := by
  obtain ⟨t, runs, ran, mem, regs, flags⟩ := run_computes (r := r) (regs := s.regs) hl hb hm
  exact ⟨t, runs, ran, regs, mem, flags⟩

/-- An instruction that sets general registers and no flag. -/
theorem run_setsRegs {l : Bool} {body : M Unit} {r : TrapRecord} {regs : Gpr} (hl : s.lockOk l = true)
    (hb : body s.begin = .ok ((), s.readied r regs)) :
    ∃ t, run l body s = .next t ∧ s.ran t ∧ t.flags = s.flags.kept ∧ t.mem = s.mem ∧ t.regs = regs := by
  obtain ⟨runs, ran, flags⟩ := run_effect hl hb ((starting_effect s r).withRegs regs)
  exact ⟨_, runs, ran, flags, rfl, rfl⟩

/-- An instruction that updates a byte operand. -/
theorem run_update8 {l : Bool} {body : M Unit} {d : Rm8} {c : Byte → M Byte} {v : Byte} {r : TrapRecord}
    (hl : s.lockOk l = true) (hb : body s.begin = update8 d c (s.starting r)) (h : s.ready8 .update d = true)
    (hc : Computes (c (s.val8 d)) s.flags v post) :
    ∃ t, run l body s = .next t ∧ s.ran t ∧ s.wrote8 t d v ∧ s.flags.sixFrom t.flags ∧ post t.flags := by
  obtain ⟨t, updated, went, wrote, flags⟩ := update8_starting r h hc
  obtain ⟨runs, ran⟩ := run_went hl (hb.trans updated) went
  exact ⟨_, runs, ran, by cases d <;> exact wrote, flags⟩

/-- An instruction that updates a word or doubleword operand. -/
theorem run_updatev {l : Bool} {body : M Unit} {d : Rmv} {c : BitVec w → M (BitVec w)} {v : BitVec w} {r : TrapRecord}
    (hw : w = 16 ∨ w = 32) (hl : s.lockOk l = true) (hb : body s.begin = updatev w d c (s.starting r))
    (h : s.readyv .update w d = true) (hc : Computes (c (s.valv w d)) s.flags v post) :
    ∃ t, run l body s = .next t ∧ s.ran t ∧ s.wrotev t d v ∧ s.flags.sixFrom t.flags ∧ post t.flags := by
  obtain ⟨t, updated, went, wrote, flags⟩ := updatev_starting r hw h hc
  obtain ⟨runs, ran⟩ := run_went hl (hb.trans updated) went
  exact ⟨_, runs, ran, by cases d <;> exact wrote, flags⟩

end Sys2Proof.Machine
end

section
/-! PROOFS. ADD, OR, ADC, SBB, AND, SUB, XOR, CMP and TEST: the flags of sums, differences and logical results, and the
forms, which are one operation on a destination and a source each. -/
-- One declaration after the other: many proofs at once take more thread stacks than the memory limit allows.
set_option Elab.async false
namespace Sys2Proof.Machine

variable {s : State} {w : Nat}

/-! ### Sums, differences and logical results -/

theorem subOp_toNat (hw : IsWidth w) (f : Flags) (a b : BitVec w) (c : Bool) :
    ((subOp f a b c).1.toNat : Int) = (a.toNat - b.toNat - c.toNat) % 2 ^ w := by
  have carry : c.toNat ≤ 1 := by cases c <;> simp
  rcases hw with rfl | rfl | rfl
  all_goals
    simp only [subOp, BitVec.toNat_sub, BitVec.toNat_ofNat]
    omega

/-- Settles O27: the sum and the difference cut to the width, and their flags. -/
theorem sumAndDifferenceFlags : Obligations.SumAndDifferenceFlags := by
  intro w f a b c hw
  obtain ⟨sum, sum_tells, sum_flags, -⟩ := addOp_spec hw f a b c
  obtain ⟨-, diff_tells, diff_flags, -⟩ := subOp_spec hw f a b c
  exact ⟨⟨by rw [sum, BitVec.toNat_ofNat], sum_flags, sum_tells⟩, subOp_toNat hw f a b c, diff_flags, diff_tells⟩

theorem addOp_computes (hw : IsWidth w) (f : Flags) (a b : BitVec w) (c : Bool) :
    Computes (withFlags (addOp f a b c)) f (addOp f a b c).1 fun g =>
      g.tells (addOp f a b c).1 ∧ g.ofSum a b (addOp f a b c).1 c := by
  obtain ⟨-, tells, flags, six, -⟩ := addOp_spec hw f a b c
  exact .withFlags six ⟨tells, flags⟩

theorem subOp_computes (hw : IsWidth w) (f : Flags) (a b : BitVec w) (c : Bool) :
    Computes (withFlags (subOp f a b c)) f (subOp f a b c).1 fun g =>
      g.tells (subOp f a b c).1 ∧ g.ofDiff a b (subOp f a b c).1 c := by
  obtain ⟨-, tells, flags, six, -⟩ := subOp_spec hw f a b c
  exact .withFlags six ⟨tells, flags⟩

/-- AF comes from a free value. -/
theorem logicResult_computes (f : Flags) (v : BitVec w) :
    Computes (logicResult v) f v fun g => g.tells v ∧ g.cf = false ∧ g.ovf = false := by
  rintro u rfl
  refine ⟨logicFlags u.flags v ((Config.free u.oracle).setWidth 1 == 1), u.oracle + 1, rfl, rfl, ?_, rfl, rfl⟩
  exact tells_congr (tells_result u.flags v) rfl rfl rfl

theorem addOp_eq_add (f : Flags) (a b : BitVec w) (c : Bool) : (addOp f a b false).1 = Alu.add.result a b c :=
  addOp_result f a b false

theorem addOp_eq_adc (f : Flags) (a b : BitVec w) (c : Bool) : (addOp f a b c).1 = Alu.adc.result a b c :=
  addOp_result f a b c

theorem subOp_eq_sbb (hw : IsWidth w) (f : Flags) (a b : BitVec w) (c : Bool) :
    (subOp f a b c).1 = Alu.sbb.result a b c := subOp_result hw f a b c

theorem subOp_eq_sub (hw : IsWidth w) (f : Flags) (a b : BitVec w) (c : Bool) :
    (subOp f a b false).1 = Alu.sub.result a b c := by
  rw [subOp_result hw]
  simp [Alu.result]

/-- The two-operand operations give the result their names say, and its flags. -/
theorem aluOp_computes (hw : IsWidth w) (op : Alu) (f : Flags) (a b : BitVec w) :
    Computes (aluOp op a b) f (op.result a b f.cf) (op.sets a b f.cf) := by
  unfold Alu.sets
  cases op with
  | add =>
    rw [← addOp_eq_add f]
    exact (addOp_computes hw f a b false).onFlags (by rintro u rfl; rfl)
  | adc =>
    rw [← addOp_eq_adc f]
    exact (addOp_computes hw f a b f.cf).onFlags (by rintro u rfl; rfl)
  | sub =>
    rw [← subOp_eq_sub hw f]
    exact (subOp_computes hw f a b false).onFlags (by rintro u rfl; rfl)
  | sbb =>
    rw [← subOp_eq_sbb hw f]
    exact (subOp_computes hw f a b f.cf).onFlags (by rintro u rfl; rfl)
  | and => exact (logicResult_computes f (a &&& b)).onFlags fun _ _ => rfl
  | or => exact (logicResult_computes f (a ||| b)).onFlags fun _ _ => rfl
  | xor => exact (logicResult_computes f (a ^^^ b)).onFlags fun _ _ => rfl

theorem compareFlags_computes (hw : IsWidth w) (f : Flags) (a b : BitVec w) :
    Computes (compareFlags a b) f () (Alu.sub.sets a b f.cf) := by
  rintro u rfl
  obtain ⟨-, tells, flags, six, -⟩ := subOp_spec hw u.flags a b false
  refine ⟨(subOp u.flags a b false).2, u.oracle, rfl, six, ?_⟩
  unfold Alu.sets
  rw [← subOp_eq_sub hw u.flags]
  exact ⟨tells, flags⟩

/-! ### Sources -/

/-- Reading a source operand. -/
def Src8.read : Src8 → M Byte
  | .rm m => get8 m
  | .imm b => pure b

def Srcv.read (w : Nat) : Srcv → M (BitVec w)
  | .rm m => getv w m
  | .imm v => immSrc v w
  | .imm8 b => immSrc8 b w

theorem Src8.read_starting {x : Src8} (h : x.ready s = true) (r : TrapRecord) :
    ∃ r', x.read (s.starting r) = .ok (x.val s, s.starting r') := by
  cases x with
  | rm m => exact get8_starting h r
  | imm b => exact ⟨r, rfl⟩

theorem Srcv.read_starting {x : Srcv} (h : x.ready s w = true) (r : TrapRecord) :
    ∃ r', x.read w (s.starting r) = .ok (x.val s w, s.starting r') := by
  cases x with
  | rm m => exact getv_starting h r
  | imm v => exact ⟨r, rfl⟩
  | imm8 b => exact ⟨r, rfl⟩

/-! ### The forms -/

/-- What holds of each of the five byte forms holds of all of them. -/
theorem forms8_all {p : Form8 → Prop} {i1 i2 i3 i4 i5 : Instr} {d : Rm8} {r : Reg8} {b : Byte}
    (h1 : p ⟨i1, d, .rm (.reg r)⟩) (h2 : p ⟨i2, .reg r, .rm d⟩)
    (h3 : p ⟨i3, .reg .al, .imm b⟩) (h4 : p ⟨i4, d, .imm b⟩) (h5 : p ⟨i5, d, .imm b⟩) :
    ∀ x ∈ forms8 i1 i2 i3 i4 i5 d r b, p x := by
  intro x hx
  simp only [forms8, List.mem_cons, List.not_mem_nil, or_false] at hx
  obtain rfl | rfl | rfl | rfl | rfl := hx
  exacts [h1, h2, h3, h4, h5]

/-- What holds of each of the five word and doubleword forms holds of all of them. -/
theorem formsv_all {p : Formv → Prop} {i1 i2 i3 i4 i5 : Instr} {d : Rmv} {r : Reg} {v : Dword} {b : Byte}
    (h1 : p ⟨i1, d, .rm (.reg r)⟩) (h2 : p ⟨i2, .reg r, .rm d⟩)
    (h3 : p ⟨i3, .reg .eax, .imm v⟩) (h4 : p ⟨i4, d, .imm v⟩) (h5 : p ⟨i5, d, .imm8 b⟩) :
    ∀ x ∈ formsv i1 i2 i3 i4 i5 d r v b, p x := by
  intro x hx
  simp only [formsv, List.mem_cons, List.not_mem_nil, or_false] at hx
  obtain rfl | rfl | rfl | rfl | rfl := hx
  exacts [h1, h2, h3, h4, h5]

/-- Each byte form is the operation on its destination and its source. -/
theorem exec_aluForm8 {op : Alu} {d : Rm8} {r : Reg8} {b : Byte} (s : State) :
    ∀ x ∈ op.forms8 d r b, exec x.instr s = run x.dst.isMem (alu8 op x.dst x.src.read) s := by
  cases op with
  | add | or | adc | sbb | and | sub | xor => exact forms8_all rfl rfl rfl rfl rfl

/-- Each word and doubleword form is the operation on its destination and its source. -/
theorem exec_aluFormv {op : Alu} {d : Rmv} {r : Reg} {v : Dword} {b : Byte} (s : State) :
    ∀ x ∈ op.formsv d r v b, exec x.instr s = run x.dst.isMem (aluv op x.dst fun w => x.src.read w) s := by
  cases op with
  | add | or | adc | sbb | and | sub | xor => exact formsv_all rfl rfl rfl rfl rfl

/-- Settles O1: each form reads its source and updates its destination. -/
theorem aluBytes : Obligations.AluBytes := by
  intro op d r b x s hx hl hsrc hdst
  obtain ⟨rec, read⟩ := Src8.read_starting hsrc s.trap
  rw [exec_aluForm8 s x hx]
  exact run_update8 hl (bind_ok read _) hdst (aluOp_computes (.inl rfl) op s.flags _ _)

/-- Settles O2: the same at the operand size. -/
theorem aluWords : Obligations.AluWords := by
  intro op d r v b x s hx hl hsrc hdst
  obtain ⟨rec, read⟩ := Srcv.read_starting hsrc s.trap
  rw [exec_aluFormv s x hx]
  exact run_updatev (opWidth_cases s) hl (bind_ok read _) hdst (aluOp_computes (opWidth_isWidth s) op s.flags _ _)

/-! ### CMP and TEST -/

theorem exec_cmpForm8 {d : Rm8} {r : Reg8} {b : Byte} (s : State) :
    ∀ x ∈ cmpForms8 d r b, exec x.instr s = run false (cmp8 x.dst x.src.read) s := forms8_all rfl rfl rfl rfl rfl

theorem exec_cmpFormv {d : Rmv} {r : Reg} {v : Dword} {b : Byte} (s : State) :
    ∀ x ∈ cmpFormsv d r v b, exec x.instr s = run false (cmpv x.dst fun w => x.src.read w) s :=
  formsv_all rfl rfl rfl rfl rfl

theorem exec_testForm8 {d : Rm8} {r : Reg8} {b : Byte} {x : Form8} (hx : x ∈ testForms8 d r b) (s : State) :
    exec x.instr s = run false (test8 x.dst x.src.read) s := by
  simp only [testForms8, List.mem_cons, List.not_mem_nil, or_false] at hx
  obtain rfl | rfl | rfl := hx <;> rfl

theorem exec_testFormv {d : Rmv} {r : Reg} {v : Dword} {x : Formv} (hx : x ∈ testFormsv d r v) (s : State) :
    exec x.instr s = run false (testv x.dst fun w => x.src.read w) s := by
  simp only [testFormsv, List.mem_cons, List.not_mem_nil, or_false] at hx
  obtain rfl | rfl | rfl := hx <;> rfl

/-- Both operands read, the source first. -/
theorem operands8_starting {x : Form8} (hsrc : x.src.ready s = true) (hdst : s.ready8 .read x.dst = true)
    (k : Byte → Byte → M Unit) :
    ∃ r, (x.src.read >>= fun b => get8 x.dst >>= fun a => k a b) s.begin =
      k (s.val8 x.dst) (x.src.val s) (s.starting r) := by
  obtain ⟨r, source⟩ := Src8.read_starting hsrc s.trap
  obtain ⟨r', destination⟩ := get8_starting hdst r
  exact ⟨r', (bind_ok source _).trans (bind_ok destination _)⟩

theorem operandsv_starting {x : Formv} (hsrc : x.src.ready s w = true) (hdst : s.readyv .read w x.dst = true)
    (k : BitVec w → BitVec w → M Unit) :
    ∃ r, (x.src.read w >>= fun b => getv w x.dst >>= fun a => k a b) s.begin =
      k (s.valv w x.dst) (x.src.val s w) (s.starting r) := by
  obtain ⟨r, source⟩ := Srcv.read_starting hsrc s.trap
  obtain ⟨r', destination⟩ := getv_starting hdst r
  exact ⟨r', (bind_ok source _).trans (bind_ok destination _)⟩

/-- Settles O3: each form reads its source and its destination and sets the flags from both. -/
theorem compareAndTest : Obligations.CompareAndTest := by
  refine ⟨fun d r b x s hl hsrc hdst => ⟨fun hx => ?_, fun hx => ?_⟩,
    fun d r v b x s hl hsrc hdst => ⟨fun hx => ?_, fun hx => ?_⟩⟩
  · obtain ⟨rec, body⟩ := operands8_starting hsrc hdst compareFlags
    rw [exec_cmpForm8 s x hx]
    exact run_setsFlags (body := cmp8 x.dst x.src.read) hl body (compareFlags_computes (.inl rfl) s.flags _ _)
  · obtain ⟨rec, body⟩ := operands8_starting hsrc hdst fun a b => logicResult (a &&& b) >>= fun _ => pure ()
    rw [exec_testForm8 hx]
    exact run_setsFlags (body := test8 x.dst x.src.read) hl body (logicResult_computes s.flags _).discard
  · obtain ⟨rec, body⟩ := operandsv_starting hsrc hdst compareFlags
    rw [exec_cmpFormv s x hx]
    exact run_setsFlags (body := cmpv x.dst fun w => x.src.read w) hl body
      (compareFlags_computes (opWidth_isWidth s) s.flags _ _)
  · obtain ⟨rec, body⟩ := operandsv_starting hsrc hdst fun a b => logicResult (a &&& b) >>= fun _ => pure ()
    rw [exec_testFormv hx]
    exact run_setsFlags (body := testv x.dst fun w => x.src.read w) hl body (logicResult_computes s.flags _).discard

end Sys2Proof.Machine
end

section
/-! PROOFS. INC, DEC, NEG and NOT. -/
-- One declaration after the other: many proofs at once take more thread stacks than the memory limit allows.
set_option Elab.async false
namespace Sys2Proof.Machine

variable {w : Nat}

/-! ### Results and flags -/

theorem one_toNat (hw : IsWidth w) : (1 : BitVec w).toNat = 1 := by
  rcases hw with rfl | rfl | rfl <;> rfl

theorem addOp_one (f : Flags) (a : BitVec w) : (addOp f a 1 false).1 = a + 1 := by
  simp [addOp]

theorem subOp_one (f : Flags) (a : BitVec w) : (subOp f a 1 false).1 = a - 1 := by
  simp [subOp]

theorem subOp_zero (f : Flags) (a : BitVec w) : (subOp f 0 a false).1 = -a := by
  simp [subOp]

theorem intMax_iff (hw : IsWidth w) (a : BitVec w) : a = BitVec.intMax w ↔ a.toNat = 2 ^ (w - 1) - 1 := by
  rw [← BitVec.toNat_inj]
  rcases hw with rfl | rfl | rfl <;> simp

theorem intMin_iff (hw : IsWidth w) (a : BitVec w) : a = BitVec.intMin w ↔ a.toNat = 2 ^ (w - 1) := by
  rw [← BitVec.toNat_inj]
  rcases hw with rfl | rfl | rfl <;> simp

/-- INC overflows at the greatest signed number. -/
theorem addOp_one_overflow (hw : IsWidth w) (f : Flags) (a : BitVec w) :
    (addOp f a 1 false).2.ovf = decide (a = BitVec.intMax w) := by
  have below := a.isLt
  rw [Bool.eq_iff_iff, decide_eq_true_iff, intMax_iff hw]
  obtain rfl | rfl | rfl := id hw
  all_goals
    simp only [addOp, BitVec.msb_eq_decide, BitVec.toNat_add, BitVec.toNat_ofNat, one_toNat hw, Bool.toNat_false,
      Bool.and_eq_true, beq_iff_eq, bne_iff_ne, ne_eq, decide_eq_decide]
    omega

/-- DEC overflows at the least signed number. -/
theorem subOp_one_overflow (hw : IsWidth w) (f : Flags) (a : BitVec w) :
    (subOp f a 1 false).2.ovf = decide (a = BitVec.intMin w) := by
  have below := a.isLt
  rw [Bool.eq_iff_iff, decide_eq_true_iff, intMin_iff hw]
  obtain rfl | rfl | rfl := id hw
  all_goals
    simp only [subOp, BitVec.msb_eq_decide, BitVec.toNat_sub, BitVec.toNat_ofNat, one_toNat hw, Bool.toNat_false,
      Bool.and_eq_true, bne_iff_ne, ne_eq, decide_eq_decide]
    omega

/-- So does NEG. -/
theorem subOp_zero_overflow (hw : IsWidth w) (f : Flags) (a : BitVec w) :
    (subOp f 0 a false).2.ovf = decide (a = BitVec.intMin w) := by
  have below := a.isLt
  rw [Bool.eq_iff_iff, decide_eq_true_iff, intMin_iff hw]
  obtain rfl | rfl | rfl := id hw
  all_goals
    simp only [subOp, BitVec.msb_eq_decide, BitVec.toNat_sub, BitVec.ofNat_eq_ofNat, BitVec.toNat_ofNat,
      Bool.toNat_false, Bool.and_eq_true, bne_iff_ne, ne_eq, decide_eq_decide]
    omega

/-! ### The computations -/

/-- INC leaves CF (spec/41_arithmetic.md R315). -/
theorem inc_computes (hw : IsWidth w) (f : Flags) (a : BitVec w) :
    Computes (unaryOp .inc a) f (a + 1) fun g => g.cf = f.cf ∧ g.tells (a + 1) ∧ g.af = decide (a.toNat % 16 = 15) ∧
      g.ovf = decide (a = BitVec.intMax w) := by
  obtain ⟨-, tells, -⟩ := addOp_spec hw f a 1 false
  have af : (addOp f a 1 false).2.af = decide (a.toNat % 16 = 15) := by
    simp only [addOp, one_toNat hw, decide_eq_decide]
    show 16 ≤ a.toNat % 16 + 1 + 0 ↔ _
    omega
  rw [addOp_one] at tells
  refine Computes.onFlags (m := withFlags (a + 1, { (addOp f a 1 false).2 with cf := f.cf }))
    (.withFlags rfl ⟨rfl, tells, af, addOp_one_overflow hw f a⟩) ?_
  rintro u rfl
  rw [← addOp_one u.flags]

/-- So does DEC (R318). -/
theorem dec_computes (hw : IsWidth w) (f : Flags) (a : BitVec w) :
    Computes (unaryOp .dec a) f (a - 1) fun g => g.cf = f.cf ∧ g.tells (a - 1) ∧ g.af = decide (a.toNat % 16 = 0) ∧
      g.ovf = decide (a = BitVec.intMin w) := by
  obtain ⟨-, tells, -⟩ := subOp_spec hw f a 1 false
  have af : (subOp f a 1 false).2.af = decide (a.toNat % 16 = 0) := by
    simp only [subOp, one_toNat hw, decide_eq_decide]
    show a.toNat % 16 < 1 + 0 ↔ _
    omega
  rw [subOp_one] at tells
  refine Computes.onFlags (m := withFlags (a - 1, { (subOp f a 1 false).2 with cf := f.cf }))
    (.withFlags rfl ⟨rfl, tells, af, subOp_one_overflow hw f a⟩) ?_
  rintro u rfl
  rw [← subOp_one u.flags]

/-- NEG is the subtraction from 0 (R323). -/
theorem neg_computes (hw : IsWidth w) (f : Flags) (a : BitVec w) :
    Computes (unaryOp .neg a) f (-a) fun g => g.cf = decide (a ≠ 0) ∧ g.tells (-a) ∧ g.af = decide (a.toNat % 16 ≠ 0) ∧
      g.ovf = decide (a = BitVec.intMin w) := by
  obtain ⟨-, tells, -, six, -⟩ := subOp_spec hw f 0 a false
  have cf : (subOp f 0 a false).2.cf = decide (a ≠ 0) := by
    simp only [subOp, ne_eq, ← BitVec.toNat_inj, decide_eq_decide, BitVec.ofNat_eq_ofNat, BitVec.toNat_ofNat,
      Nat.zero_mod]
    show 0 < a.toNat + 0 ↔ _
    omega
  have af : (subOp f 0 a false).2.af = decide (a.toNat % 16 ≠ 0) := by
    simp only [subOp, decide_eq_decide, BitVec.ofNat_eq_ofNat, BitVec.toNat_ofNat, Nat.zero_mod]
    show 0 < a.toNat % 16 + 0 ↔ _
    omega
  rw [subOp_zero] at tells
  refine Computes.onFlags (m := withFlags (-a, (subOp f 0 a false).2))
    (.withFlags six ⟨cf, tells, af, subOp_zero_overflow hw f a⟩) ?_
  rintro u rfl
  rw [← subOp_zero u.flags]

/-- NOT changes no flag (spec/42_logic_rotate_shift.md R345). -/
theorem not_computes (f : Flags) (a : BitVec w) : Computes (unaryOp .not a) f (~~~a) fun g => g = f.kept := by
  rintro u rfl
  exact ⟨u.flags, u.oracle, rfl, rfl, rfl⟩

/-! ### The instructions -/

/-- Settles O4: each form updates its operand. -/
theorem unaryInstructions : Obligations.UnaryInstructions := by
  refine ⟨fun d s hl h => ⟨?_, ?_, ?_, ?_⟩, fun d s hl h => ⟨?_, ?_, ?_, ?_⟩, fun r s hl => ⟨?_, ?_⟩⟩
  · exact run_update8 (body := unary8 .inc d) hl rfl h (inc_computes (.inl rfl) s.flags _)
  · exact run_update8 (body := unary8 .dec d) hl rfl h (dec_computes (.inl rfl) s.flags _)
  · exact run_update8 (body := unary8 .neg d) hl rfl h (neg_computes (.inl rfl) s.flags _)
  · obtain ⟨t, runs, ran, wrote, -, kept⟩ := run_update8 (body := unary8 .not d) hl rfl h (not_computes s.flags _)
    exact ⟨t, runs, ran, wrote, kept⟩
  · exact run_updatev (body := unaryv .inc d) (opWidth_cases s) hl rfl h (inc_computes (opWidth_isWidth s) s.flags _)
  · exact run_updatev (body := unaryv .dec d) (opWidth_cases s) hl rfl h (dec_computes (opWidth_isWidth s) s.flags _)
  · exact run_updatev (body := unaryv .neg d) (opWidth_cases s) hl rfl h (neg_computes (opWidth_isWidth s) s.flags _)
  · obtain ⟨t, runs, ran, wrote, -, kept⟩ :=
      run_updatev (body := unaryv .not d) (opWidth_cases s) hl rfl h (not_computes s.flags _)
    exact ⟨t, runs, ran, wrote, kept⟩
  · exact run_updatev (body := unaryv .inc (.reg r)) (opWidth_cases s) hl rfl rfl
      (inc_computes (opWidth_isWidth s) s.flags _)
  · exact run_updatev (body := unaryv .dec (.reg r)) (opWidth_cases s) hl rfl rfl
      (dec_computes (opWidth_isWidth s) s.flags _)

end Sys2Proof.Machine
end

section
/-! PROOFS. MUL and IMUL: the double-length product and its halves by exact arithmetic. -/
-- One declaration after the other: many proofs at once take more thread stacks than the memory limit allows.
set_option Elab.async false
namespace Sys2Proof.Machine

variable {s : State} {w : Nat}

/-! ### The double-length product -/

theorem product_unsigned (a b : BitVec w) : product false a b = BitVec.ofNat (w + w) (a.toNat * b.toNat) := by
  have wide (x : BitVec w) : (x.setWidth (w + w)).toNat = x.toNat :=
    BitVec.toNat_setWidth_of_le (Nat.le_add_left w w)
  apply BitVec.eq_of_toNat_eq
  show (a.setWidth (w + w) * b.setWidth (w + w)).toNat = _
  rw [BitVec.toNat_mul, wide, wide, BitVec.toNat_ofNat]

theorem product_signed (a b : BitVec w) : product true a b = BitVec.ofInt (w + w) (a.toInt * b.toInt) :=
  (BitVec.ofInt_mul _ _).symm

theorem toNat_mul_lt (a b : BitVec w) : a.toNat * b.toNat < 2 ^ (w + w) := by
  rw [Nat.pow_add]
  exact Nat.mul_lt_mul'' a.isLt b.isLt

/-- The signed product fits. -/
theorem toInt_ofInt_mul (hw : 0 < w) (a b : BitVec w) :
    (BitVec.ofInt (w + w) (a.toInt * b.toInt)).toInt = a.toInt * b.toInt := by
  obtain ⟨k, rfl⟩ := Nat.exists_eq_succ_of_ne_zero hw.ne'
  have lower := BitVec.le_toInt_mul_toInt (x := a) (y := b)
  have upper := BitVec.toInt_mul_toInt_le (x := a) (y := b)
  rw [show k.succ * 2 - 2 = 2 * k by omega] at lower upper
  have double : 2 ^ (k.succ + k.succ) = 4 * 2 ^ (2 * k) := by
    rw [show k.succ + k.succ = 2 * k + 2 by omega, Nat.pow_add, Nat.mul_comm]
  have positive : (0 : Int) < 2 ^ (2 * k) := by positivity
  rw [BitVec.toInt_ofInt, double]
  apply Int.bmod_eq_of_le
  all_goals
    push_cast
    omega

/-! ### Its halves -/

theorem lower_ofInt (z : Int) : (BitVec.ofInt (w + w) z).setWidth w = BitVec.ofInt w z := by
  have nonneg : 0 ≤ z % (2 ^ (w + w) : ℕ) := Int.emod_nonneg _ (by positivity)
  have divides : ((2 ^ w : ℕ) : Int) ∣ (2 ^ (w + w) : ℕ) := mod_cast Nat.pow_dvd_pow 2 (Nat.le_add_left w w)
  apply BitVec.eq_of_toNat_eq
  rw [BitVec.toNat_setWidth, BitVec.toNat_ofInt, BitVec.toNat_ofInt, ← Int.emod_emod_of_dvd z divides,
    Int.toNat_emod nonneg (by positivity), Int.toNat_natCast]

theorem upper_ofNat (n : Nat) : ((BitVec.ofNat (w + w) n) >>> w).setWidth w = BitVec.ofNat w (n / 2 ^ w) := by
  apply BitVec.eq_of_toNat_eq
  simp only [BitVec.toNat_setWidth, BitVec.toNat_ushiftRight, BitVec.toNat_ofNat, Nat.shiftRight_eq_div_pow]
  rw [Nat.pow_add, Nat.mod_mul_right_div_self, Nat.mod_mod]

theorem emod_mul_ediv {m : Int} (hm : 0 < m) (z k : Int) : z % (m * k) / m = z / m % k := by
  rw [Int.emod_def, Int.emod_def, Int.ediv_ediv_of_nonneg hm.le, Int.mul_assoc, Int.sub_eq_add_neg, ← Int.mul_neg,
    Int.add_mul_ediv_left _ _ hm.ne', ← Int.sub_eq_add_neg]

theorem upper_ofInt (z : Int) : ((BitVec.ofInt (w + w) z) >>> w).setWidth w = BitVec.ofInt w (z.fdiv (2 ^ w)) := by
  have positive : (0 : Int) < (2 ^ w : ℕ) := by positivity
  have nonneg : 0 ≤ z % (2 ^ (w + w) : ℕ) := Int.emod_nonneg _ (by positivity)
  apply BitVec.eq_of_toNat_eq
  rw [← Int.ofNat_inj]
  simp only [BitVec.toNat_setWidth, BitVec.toNat_ushiftRight, BitVec.toNat_ofInt, Nat.shiftRight_eq_div_pow,
    Int.natCast_mod, Int.natCast_ediv, Int.toNat_of_nonneg nonneg]
  rw [Int.toNat_of_nonneg (Int.emod_nonneg _ positive.ne'), Int.fdiv_eq_ediv_of_nonneg _ (by positivity), Nat.pow_add,
    Nat.cast_mul, emod_mul_ediv positive, Int.emod_emod]
  push_cast
  rfl

/-! ### CF and OF -/

theorem productWide_unsigned (a b : BitVec w) :
    productWide false (product false a b) = decide (2 ^ w ≤ a.toNat * b.toNat) := by
  have fits := toNat_mul_lt a b
  rw [product_unsigned]
  generalize a.toNat * b.toNat = n at fits ⊢
  unfold productWide
  rw [decide_eq_decide, if_neg Bool.false_ne_true, ne_eq, ← BitVec.toNat_inj,
    BitVec.toNat_setWidth_of_le (Nat.le_add_left w w), BitVec.toNat_setWidth, BitVec.toNat_ofNat, Nat.mod_eq_of_lt fits,
    eq_comm, Nat.mod_eq_iff_lt (by positivity), Nat.not_lt]

theorem productWide_signed (hw : 0 < w) (a b : BitVec w) :
    productWide true (product true a b) = decide ((BitVec.ofInt w (a.toInt * b.toInt)).toInt ≠ a.toInt * b.toInt) := by
  unfold productWide
  rw [decide_eq_decide, if_pos rfl, ne_eq, ← BitVec.toInt_inj, BitVec.toInt_signExtend_of_le (Nat.le_add_left w w),
    product_signed, lower_ofInt, toInt_ofInt_mul hw, eq_comm]

/-- What a signed byte holds. -/
theorem ofInt_byte (z : Int) : (BitVec.ofInt 8 z).toInt ≠ z ↔ ¬(-128 ≤ z ∧ z ≤ 127) := by
  rw [BitVec.toInt_ofInt, Int.bmod_def]
  omega

/-- The other four flags are free values. -/
theorem mulFlags_computes (wide : Bool) (f : Flags) :
    Computes (mulFlags wide) f () fun g => g.cf = wide ∧ g.ovf = g.cf := by
  rintro u rfl
  exact ⟨_, u.oracle + 1, rfl, rfl, rfl, rfl⟩

/-! ### The instructions -/

/-- One byte operand: the product goes to AX. -/
theorem mulAl_runs {signed : Bool} {d : Rm8} {p : Word} (hl : s.lockOk false = true) (hd : s.ready8 .read d = true)
    (hp : product signed (s.reg8 .al) (s.val8 d) = p) :
    ∃ t, run false (mulAl signed d) s = .next t ∧ s.ran t ∧ t.mem = s.mem ∧ t.regs = (s.setReg .eax p).regs ∧
      s.flags.sixFrom t.flags ∧
      t.flags.cf = productWide signed (product signed (s.reg8 .al) (s.val8 d)) ∧ t.flags.ovf = t.flags.cf := by
  obtain ⟨r, read⟩ := get8_starting hd s.trap
  subst hp
  exact run_computes (body := mulAl signed d) hl (bind_ok read _) (mulFlags_computes _ s.flags)

/-- One word or doubleword operand: the product's halves go to two registers. -/
theorem mulEax_runs {signed : Bool} {d : Rmv} (hl : s.lockOk false = true) (hd : s.readyv .read s.opWidth d = true) :
    let p := product signed (s.reg s.opWidth .eax) (s.valv s.opWidth d)
    ∃ t, run false (mulEax signed d) s = .next t ∧ s.ran t ∧ t.mem = s.mem ∧
      t.regs = ((s.setReg .eax (p.setWidth s.opWidth)).setReg .edx ((p >>> s.opWidth).setWidth s.opWidth)).regs ∧
      s.flags.sixFrom t.flags ∧ t.flags.cf = productWide signed p ∧ t.flags.ovf = t.flags.cf := by
  obtain ⟨r, read⟩ := getv_starting hd s.trap
  exact run_computes (body := mulEax signed d) hl (bind_ok read _) (mulFlags_computes _ s.flags)

theorem opWidth_pos (s : State) : 0 < s.opWidth := by
  rcases opWidth_cases s with h | h <;> simp [h]

/-- A register takes the lower half of a signed product. -/
theorem imulTo_runs {body : M Unit} {r : Reg} {rec : TrapRecord} {a b : BitVec s.opWidth} (hl : s.lockOk false = true)
    (hb : body s.begin = imulTo r a b (s.starting rec)) :
    ∃ t, run false body s = .next t ∧ s.ran t ∧ t.mem = s.mem ∧
      s.flags.sixFrom t.flags ∧ t.regs = (s.setReg r (BitVec.ofInt s.opWidth (a.toInt * b.toInt))).regs ∧
      t.flags.cf = decide ((BitVec.ofInt s.opWidth (a.toInt * b.toInt)).toInt ≠ a.toInt * b.toInt) ∧
      t.flags.ovf = t.flags.cf := by
  obtain ⟨t, runs, ran, mem, regs, six, flags⟩ := run_computes hl hb (mulFlags_computes _ s.flags)
  rw [product_signed, lower_ofInt] at regs
  rw [productWide_signed (opWidth_pos s)] at flags
  exact ⟨t, runs, ran, mem, six, regs, flags⟩

/-- Settles O5: the effects are products and their halves, which exact arithmetic gives. -/
theorem multiplications : Obligations.Multiplications := by
  refine ⟨fun d s hl hd => ⟨?_, ?_⟩, fun d s hl hd => ⟨?_, ?_⟩, fun r m imm b s hl hm i x hi => ?_⟩
  · obtain ⟨t, runs, ran, mem, regs, six, flags⟩ := mulAl_runs hl hd (product_unsigned _ _)
    rw [productWide_unsigned] at flags
    exact ⟨t, runs, ran, mem, six, regs, flags⟩
  · obtain ⟨t, runs, ran, mem, regs, six, cf, ovf⟩ := mulAl_runs hl hd (product_signed _ _)
    rw [productWide_signed (by decide)] at cf
    exact ⟨t, runs, ran, mem, six, regs, cf.trans (decide_eq_decide.2 (ofInt_byte _)), ovf⟩
  · obtain ⟨t, runs, ran, mem, regs, six, flags⟩ := mulEax_runs (signed := false) hl hd
    rw [product_unsigned, upper_ofNat, BitVec.setWidth_ofNat_of_le (Nat.le_add_left _ _)] at regs
    rw [productWide_unsigned] at flags
    exact ⟨t, runs, ran, mem, six, regs, flags⟩
  · obtain ⟨t, runs, ran, mem, regs, six, flags⟩ := mulEax_runs (signed := true) hl hd
    rw [product_signed, upper_ofInt, lower_ofInt] at regs
    rw [productWide_signed (opWidth_pos s)] at flags
    exact ⟨t, runs, ran, mem, six, regs, flags⟩
  · obtain ⟨rec, read⟩ := getv_starting hm s.trap
    obtain ⟨rfl, rfl⟩ | ⟨rfl, rfl⟩ | ⟨rfl, rfl⟩ := hi
    · rw [Int.mul_comm]
      exact imulTo_runs (body := imul2 r m) hl (bind_ok read _)
    · exact imulTo_runs (body := imul3 r m fun w => imm.setWidth w) hl (bind_ok read _)
    · exact imulTo_runs (body := imul3 r m fun w => immSext w b) hl (bind_ok read _)

end Sys2Proof.Machine
end

section
/-! PROOFS. DIV and IDIV: quotient and remainder by exact arithmetic, or INT 0. -/
-- One declaration after the other: many proofs at once take more thread stacks than the memory limit allows.
set_option Elab.async false
namespace Sys2Proof.Machine

variable {s : State} {w : Nat}

/-! ### Quotient and remainder -/

theorem divide_unsigned (level : Nat) (n : BitVec (w + w)) (d : BitVec w) :
    divide false level n d =
      if d.toNat ≠ 0 ∧ n.toNat / d.toNat < 2 ^ w then
        some (BitVec.ofNat w (n.toNat / d.toNat), BitVec.ofNat w (n.toNat % d.toNat))
      else none := by
  unfold divide
  by_cases zero : d = 0
  · rw [if_pos zero, if_neg (by simp [zero])]
  · have nonzero : d.toNat ≠ 0 := fun h => zero (BitVec.eq_of_toNat_eq (h.trans BitVec.toNat_zero.symm))
    simp only [zero, nonzero, if_false, ne_eq, not_false_eq_true, true_and, Bool.false_eq_true]

/-- The quotients that fit; on the 8086 the most negative one does not (spec/92_eei_decisions.md D20). -/
def quotientFits (w level : Nat) (q : Int) : Prop :=
  (if level = 0 then 1 - 2 ^ (w - 1) else -(2 ^ (w - 1))) ≤ q ∧ q < 2 ^ (w - 1)

theorem quotientFits_iff (w level : Nat) (q : Int) :
    ((-((2 ^ (w - 1) : Nat) : Int) < q ∨ (-((2 ^ (w - 1) : Nat) : Int) = q ∧ level ≠ 0)) ∧ q < (2 ^ (w - 1) : Nat)) ↔
      quotientFits w level q := by
  unfold quotientFits
  push_cast
  split <;> omega

theorem divide_signed_some {level : Nat} {n : BitVec (w + w)} {d : BitVec w} (nonzero : d.toInt ≠ 0)
    (fits : quotientFits w level (n.toInt.tdiv d.toInt)) :
    divide true level n d =
      some (BitVec.ofInt w (n.toInt.tdiv d.toInt), BitVec.ofInt w (n.toInt.tmod d.toInt)) := by
  have hd : d ≠ 0 := fun zero => nonzero (by simp [zero])
  unfold divide
  rw [if_neg hd, if_pos rfl]
  exact if_pos ((quotientFits_iff w level _).2 fits)

theorem divide_signed_none {level : Nat} {n : BitVec (w + w)} {d : BitVec w}
    (h : ¬(d.toInt ≠ 0 ∧ quotientFits w level (n.toInt.tdiv d.toInt))) : divide true level n d = none := by
  unfold divide
  split
  · rfl
  · rename_i nonzero
    have hd : d.toInt ≠ 0 := fun zero => nonzero (BitVec.toInt_inj.1 (zero.trans BitVec.toInt_zero.symm))
    rw [if_pos rfl]
    exact if_neg fun fits => h ⟨hd, (quotientFits_iff w level _).1 fits⟩

/-! ### The dividend -/

theorem append_toNat (x y : BitVec w) : (x ++ y).toNat = x.toNat * 2 ^ w + y.toNat := by
  rw [BitVec.toNat_append, ← Nat.shiftLeft_add_eq_or_of_lt y.isLt, Nat.shiftLeft_eq]

theorem append_toInt (hw : 0 < w) (x y : BitVec w) : (x ++ y).toInt = x.toInt * 2 ^ w + y.toNat := by
  rw [BitVec.toInt_append, if_neg (by simpa using hw.ne'), Int.mul_comm]

/-! ### The instructions -/

/-- All six flags are free values. -/
theorem openFlags_computes (f : Flags) : Computes openFlags f () fun _ => True := by
  rintro u rfl
  exact ⟨_, u.oracle + 1, rfl, rfl, trivial⟩

section
variable {signed : Bool}

/-- AX divided by a byte. -/
theorem divAx_runs {d : Rm8} {q m : Byte} (hl : s.lockOk false = true) (hd : s.ready8 .read d = true)
    (h : divide signed s.level (s.reg 16 .eax : BitVec (8 + 8)) (s.val8 d) = some (q, m)) :
    ∃ t, run false (divAx signed d) s = .next t ∧ s.ran t ∧ t.mem = s.mem ∧ s.flags.sixFrom t.flags ∧
      t.regs = ((s.setReg8 .al q).setReg8 .ah m).regs := by
  obtain ⟨r, read⟩ := get8_starting hd s.trap
  have effect : divAx signed d s.begin = openFlags (s.readied r ((s.setReg8 .al q).setReg8 .ah m).regs) := by
    have quotient : divide signed (s.starting r).level ((s.starting r).reg 16 .eax : BitVec (8 + 8)) (s.val8 d) =
      some (q, m) := h
    refine (bind_ok read _).trans ?_
    rw [get_bind_apply, quotient]
    rfl
  obtain ⟨t, runs, ran, mem, regs, six, -⟩ := run_computes hl effect (openFlags_computes s.flags)
  exact ⟨t, runs, ran, mem, six, regs⟩

theorem divAx_faults {d : Rm8} (hl : s.lockOk false = true) (hd : s.ready8 .read d = true)
    (h : divide signed s.level (s.reg 16 .eax : BitVec (8 + 8)) (s.val8 d) = none) :
    run false (divAx signed d) s = s.faults 0 none := by
  obtain ⟨r, read⟩ := get8_starting hd s.trap
  have quotient : divide signed (s.starting r).level ((s.starting r).reg 16 .eax : BitVec (8 + 8)) (s.val8 d) =
    none := h
  refine run_faults hl ((bind_ok read _).trans ?_)
  rw [get_bind_apply, quotient]
  rfl

/-- DX and AX, or EDX and EAX, divided by a word or doubleword. -/
theorem divEax_runs {d : Rmv} {q m : BitVec s.opWidth} (hl : s.lockOk false = true)
    (hd : s.readyv .read s.opWidth d = true)
    (h : divide signed s.level (s.reg s.opWidth .edx ++ s.reg s.opWidth .eax) (s.valv s.opWidth d) = some (q, m)) :
    ∃ t, run false (divEax signed d) s = .next t ∧ s.ran t ∧ t.mem = s.mem ∧ s.flags.sixFrom t.flags ∧
      t.regs = ((s.setReg .eax q).setReg .edx m).regs := by
  obtain ⟨r, read⟩ := getv_starting hd s.trap
  have effect : divEax signed d s.begin = openFlags (s.readied r ((s.setReg .eax q).setReg .edx m).regs) := by
    have quotient : divide signed (s.starting r).level
      ((s.starting r).reg s.begin.opWidth .edx ++ (s.starting r).reg s.begin.opWidth .eax) (s.valv s.opWidth d) =
        some (q, m) := h
    refine (bind_ok read _).trans ?_
    rw [get_bind_apply, quotient]
    rfl
  obtain ⟨t, runs, ran, mem, regs, six, -⟩ := run_computes hl effect (openFlags_computes s.flags)
  exact ⟨t, runs, ran, mem, six, regs⟩

theorem divEax_faults {d : Rmv} (hl : s.lockOk false = true) (hd : s.readyv .read s.opWidth d = true)
    (h : divide signed s.level (s.reg s.opWidth .edx ++ s.reg s.opWidth .eax) (s.valv s.opWidth d) = none) :
    run false (divEax signed d) s = s.faults 0 none := by
  obtain ⟨r, read⟩ := getv_starting hd s.trap
  have quotient : divide signed (s.starting r).level
      ((s.starting r).reg s.begin.opWidth .edx ++ (s.starting r).reg s.begin.opWidth .eax) (s.valv s.opWidth d) =
      none := h
  refine run_faults (body := divEax signed d) hl ((bind_ok read _).trans ?_)
  rw [get_bind_apply, quotient]
  rfl

end

/-- Settles O6: DIV divides where the quotient fits and raises INT 0 elsewhere. -/
theorem divideUnsigned : Obligations.DivideUnsigned := by
  refine ⟨fun d s hl hd => ⟨fun fits => ?_, fun fits => ?_⟩, fun d s hl hd => ?_⟩
  · exact divAx_runs hl hd ((divide_unsigned s.level _ _).trans (if_pos fits))
  · exact divAx_faults hl hd ((divide_unsigned s.level _ _).trans (if_neg fits))
  · dsimp only
    rw [← append_toNat]
    refine ⟨fun fits => ?_, fun fits => ?_⟩
    · exact divEax_runs hl hd ((divide_unsigned s.level _ _).trans (if_pos fits))
    · exact divEax_faults hl hd ((divide_unsigned s.level _ _).trans (if_neg fits))

/-- Settles O7: IDIV divides where the quotient fits and raises INT 0 elsewhere. -/
theorem divideSigned : Obligations.DivideSigned := by
  refine ⟨fun d s hl hd => ?_, fun d s hl hd => ?_⟩
  · have byte (q : Int) : ((if s.level = 0 then -127 else -128) ≤ q ∧ q ≤ 127) ↔ quotientFits 8 s.level q := by
      unfold quotientFits
      split <;> omega
    simp only [byte]
    exact ⟨fun ⟨nonzero, fits⟩ => divAx_runs hl hd (divide_signed_some nonzero fits),
      fun fits => divAx_faults hl hd (divide_signed_none fits)⟩
  · dsimp only
    rw [← append_toInt (opWidth_pos s)]
    exact ⟨fun ⟨nonzero, fits⟩ => divEax_runs hl hd (divide_signed_some nonzero fits),
      fun fits => divEax_faults hl hd (divide_signed_none fits)⟩

end Sys2Proof.Machine
end

section
/-! PROOFS. CBW, CWDE, CWD, CDQ, MOVZX, MOVSX, LEA and BSWAP. -/
-- One declaration after the other: many proofs at once take more thread stacks than the memory limit allows.
set_option Elab.async false
namespace Sys2Proof.Machine

variable {s : State} {n : Nat}

/-! ### Extensions -/

/-- CBW and CWDE (spec/41_arithmetic.md R324, spec/48_386_instructions.md R607). -/
theorem convertByte_runs (hl : s.lockOk false = true) :
    ∃ t, run false convertByte s = .next t ∧ s.ran t ∧ t.flags = s.flags.kept ∧ t.mem = s.mem ∧
      t.regs = if s.op32 then (s.setReg .eax (BitVec.ofInt 32 (s.reg 16 .eax).toInt)).regs
        else (s.setReg .eax (BitVec.ofInt 16 (s.reg 8 .eax).toInt)).regs := by
  refine run_setsRegs (r := s.trap) hl ?_
  show (if s.op32 then _ else _ : M Unit) s.begin = _
  split <;> rfl

/-- CWD and CDQ (R325, R606). -/
theorem convertWord_runs (hl : s.lockOk false = true) :
    ∃ t, run false convertWord s = .next t ∧ s.ran t ∧ t.flags = s.flags.kept ∧ t.mem = s.mem ∧
      t.regs =
        (s.setReg .edx (if (s.reg s.opWidth .eax).toInt < 0 then BitVec.allOnes s.opWidth else 0)).regs := by
  have sign : (if (s.reg s.opWidth .eax).msb then BitVec.allOnes s.opWidth else 0) =
      if (s.reg s.opWidth .eax).toInt < 0 then BitVec.allOnes s.opWidth else 0 := by
    simp only [BitVec.msb_eq_toInt, decide_eq_true_eq]
  rw [← sign]
  exact run_setsRegs (body := convertWord) (r := s.trap) hl rfl

/-- MOVZX and MOVSX of an operand that a computation reads. -/
theorem extendTo_runs {signed : Bool} {r : Reg} {read : M (BitVec n)} {v : BitVec n} {rec : TrapRecord}
    (hl : s.lockOk false = true) (hr : read s.begin = .ok (v, s.starting rec)) :
    ∃ t, run false (read >>= fun v => extendTo signed r v) s = .next t ∧ s.ran t ∧ t.flags = s.flags.kept ∧
      t.mem = s.mem ∧ t.regs =
        (s.setReg r (if signed then BitVec.ofInt s.opWidth v.toInt else BitVec.ofNat s.opWidth v.toNat)).regs := by
  rw [BitVec.ofNat_toNat]
  exact run_setsRegs hl (bind_ok hr _)

/-! ### Byte order -/

/-- Bit `i` comes from the byte as far from the other end. -/
theorem swapBytes_getLsbD (v : Dword) {i : Nat} (hi : i < 32) :
    (swapBytes v).getLsbD i = v.getLsbD (24 - 8 * (i / 8) + i % 8) := by
  simp only [swapBytes, BitVec.getLsbD_append, BitVec.getLsbD_extractLsb']
  split_ifs
  all_goals
    rw [decide_eq_true (by omega), Bool.true_and]
    congr 1
    omega

/-- BSWAP: a 16-bit operand stays (93 U21). -/
theorem swapReg_runs {r : Reg} (hl : s.lockOk false = true) :
    ∃ t, run false (swapReg r) s = .next t ∧ s.ran t ∧ t.flags = s.flags.kept ∧ t.mem = s.mem ∧
      t.regs = if s.op32 then s.regs.set r (swapBytes (s.regs.get r)) else s.regs := by
  refine run_setsRegs (r := s.trap) hl ?_
  show (if s.op32 then _ else _ : M Unit) s.begin = _
  split
  · rw [← mergeLow_all (s.regs.get r) (swapBytes (s.regs.get r))]
    rfl
  · rfl

/-! ### The instructions -/

/-- Settles O16: each form reads its source and sets one register. -/
theorem extensionsAndOffsets : Obligations.ExtensionsAndOffsets := by
  refine ⟨fun s hl => ⟨?_, ?_⟩, fun r s hl => ⟨fun m hm => ⟨?_, ?_⟩, fun m hm => ⟨?_, ?_⟩, fun m => ?_, ?_⟩⟩
  · obtain ⟨t, runs, ran, flags, mem, regs⟩ := convertByte_runs hl
    exact ⟨t, runs, ran, mem, flags, regs⟩
  · obtain ⟨t, runs, ran, flags, mem, regs⟩ := convertWord_runs hl
    exact ⟨t, runs, ran, mem, flags, regs⟩
  · obtain ⟨rec, read⟩ := get8_starting hm s.trap
    exact extendTo_runs (signed := false) hl read
  · obtain ⟨rec, read⟩ := get8_starting hm s.trap
    exact extendTo_runs (signed := true) hl read
  · obtain ⟨rec, read⟩ := getv_starting hm s.trap
    exact extendTo_runs (signed := false) hl read
  · obtain ⟨rec, read⟩ := getv_starting hm s.trap
    exact extendTo_runs (signed := true) hl read
  · rw [BitVec.ofNat_toNat]
    exact run_setsRegs (body := loadAddress r m) (r := s.trap) hl rfl
  · obtain ⟨t, runs, ran, flags, mem, regs⟩ := swapReg_runs (r := r) hl
    refine ⟨t, runs, ran, flags, mem, fun q i hi => ?_⟩
    rw [regs]
    by_cases wide : s.op32 = true
    · by_cases same : q = r
      · rw [if_pos wide, if_pos ⟨same, wide⟩, same, Gpr.get_set_same, swapBytes_getLsbD _ hi]
      · rw [if_pos wide, if_neg fun h => same h.1, Gpr.get_set_other _ _ same]
    · rw [if_neg wide, if_neg fun h => wide h.2]

end Sys2Proof.Machine
end

section
/-! PROOFS. Shifts and rotates: repeating the step by one position gives the closed forms, and what they set of the
flags. -/
-- One declaration after the other: many proofs at once take more thread stacks than the memory limit allows.
set_option Elab.async false
namespace Sys2Proof.Machine

variable {w : Nat}

/-! ### A bit shifted in -/

theorem getLsbD_ofNat_bool (b : Bool) (i : Nat) :
    (BitVec.ofNat w b.toNat).getLsbD i = (decide (i < w) && decide (i = 0) && b) := by
  cases b with
  | false => simp
  | true =>
    rw [BitVec.getLsbD_ofNat, Bool.toNat_true, Bool.and_true, Bool.eq_iff_iff]
    simp [Nat.testBit_one_eq_true_iff_self_eq_zero]

theorem getLsbD_shiftIn_bottom (d : BitVec w) (b : Bool) {i : Nat} (hi : i < w) :
    (d <<< 1 ||| BitVec.ofNat w b.toNat).getLsbD i = if i = 0 then b else d.getLsbD (i - 1) := by
  rw [BitVec.getLsbD_or, BitVec.getLsbD_shiftLeft, getLsbD_ofNat_bool]
  by_cases h : i = 0
  · simp [h, Nat.zero_lt_of_lt hi]
  · simp [h, hi]

theorem getLsbD_shiftIn_top (d : BitVec w) (b : Bool) {i : Nat} (hi : i < w) :
    (d >>> 1 ||| topBit b).getLsbD i = if i = w - 1 then b else d.getLsbD (i + 1) := by
  rw [BitVec.getLsbD_or, BitVec.getLsbD_ushiftRight, topBit, BitVec.getLsbD_shiftLeft, getLsbD_ofNat_bool,
    Nat.add_comm 1 i]
  by_cases h : i = w - 1
  · rw [BitVec.getLsbD_of_ge d (i + 1) (by omega)]
    simp [h, Nat.zero_lt_of_lt hi]
  · simp [h, Nat.lt_of_le_of_ne (Nat.le_sub_one_of_lt hi) h]

/-! ### Rotates and arithmetic shifts by one position -/

theorem rotateLeft_zero (x : BitVec w) : x.rotateLeft 0 = x := by
  simp [BitVec.rotateLeft_def, BitVec.ushiftRight_eq_zero]

theorem rotateRight_zero (x : BitVec w) : x.rotateRight 0 = x := by simp [BitVec.rotateRight_def]

theorem rotateLeft_rotateLeft (x : BitVec w) (m n : Nat) : (x.rotateLeft m).rotateLeft n = x.rotateLeft (m + n) := by
  refine BitVec.eq_of_getMsbD_eq fun i hi => ?_
  simp [BitVec.getMsbD_rotateLeft, hi, Nat.mod_lt _ (Nat.zero_lt_of_lt hi), Nat.add_assoc]

/-- Bit `i` comes from `n` positions above it, around the end. -/
theorem getLsbD_rotateRight_mod (x : BitVec w) (n : Nat) {i : Nat} (hi : i < w) :
    (x.rotateRight n).getLsbD i = x.getLsbD ((n + i) % w) := by
  have below := Nat.mod_lt n (Nat.zero_lt_of_lt hi)
  rw [BitVec.getLsbD_rotateRight, ← Nat.mod_add_mod]
  generalize n % w = m at below
  by_cases h : i < w - m
  · rw [Nat.mod_eq_of_lt (by omega)]
    simp [h]
  · rw [Nat.mod_eq_sub_mod (by omega), Nat.mod_eq_of_lt (by omega), show i - (w - m) = m + i - w by omega]
    simp [h, hi]

theorem rotateRight_rotateRight (x : BitVec w) (m n : Nat) :
    (x.rotateRight m).rotateRight n = x.rotateRight (m + n) := by
  refine BitVec.eq_of_getLsbD_eq fun i hi => ?_
  rw [getLsbD_rotateRight_mod _ _ hi, getLsbD_rotateRight_mod _ _ (Nat.mod_lt _ (Nat.zero_lt_of_lt hi)),
    getLsbD_rotateRight_mod _ _ hi, Nat.add_mod_mod, Nat.add_assoc]

theorem getLsbD_rotateLeft_one (hw : 1 < w) (x : BitVec w) {i : Nat} (hi : i < w) :
    (x.rotateLeft 1).getLsbD i = if i = 0 then x.msb else x.getLsbD (i - 1) := by
  rw [BitVec.getLsbD_rotateLeft_of_le hw, BitVec.msb_eq_getLsbD_last]
  by_cases h : i = 0
  · simp [h]
  · simp [h, hi]

theorem getLsbD_rotateRight_one (x : BitVec w) {i : Nat} (hi : i < w) :
    (x.rotateRight 1).getLsbD i = if i = w - 1 then x.getLsbD 0 else x.getLsbD (i + 1) := by
  rw [getLsbD_rotateRight_mod _ _ hi, Nat.add_comm]
  split
  next h => rw [h, Nat.sub_add_cancel (by omega), Nat.mod_self]
  next h => rw [Nat.mod_eq_of_lt (by omega)]

theorem msb_rotateLeft_one (hw : 1 < w) (x : BitVec w) : (x.rotateLeft 1).msb = x.getLsbD (w - 2) := by
  rw [BitVec.msb_eq_getLsbD_last, getLsbD_rotateLeft_one hw x (by omega), if_neg (by omega), Nat.sub_sub]

theorem msb_rotateRight_one (hw : 0 < w) (x : BitVec w) : (x.rotateRight 1).msb = x.getLsbD 0 := by
  rw [BitVec.msb_eq_getLsbD_last, getLsbD_rotateRight_one x (by omega), if_pos rfl]

theorem rotateLeft_one (hw : 1 < w) (x : BitVec w) : x.rotateLeft 1 = x <<< 1 ||| BitVec.ofNat w x.msb.toNat :=
  BitVec.eq_of_getLsbD_eq fun i hi => by rw [getLsbD_rotateLeft_one hw x hi, getLsbD_shiftIn_bottom x _ hi]

theorem rotateRight_one (x : BitVec w) : x.rotateRight 1 = x >>> 1 ||| topBit (x.getLsbD 0) :=
  BitVec.eq_of_getLsbD_eq fun i hi => by rw [getLsbD_rotateRight_one x hi, getLsbD_shiftIn_top x _ hi]

theorem sshiftRight_one (x : BitVec w) : x.sshiftRight 1 = x >>> 1 ||| topBit x.msb := by
  refine BitVec.eq_of_getLsbD_eq fun i hi => ?_
  rw [BitVec.getLsbD_sshiftRight, getLsbD_shiftIn_top x _ hi, Nat.add_comm 1 i]
  by_cases h : i = w - 1
  · simp [h, Nat.zero_lt_of_lt hi, show ¬ w - 1 + 1 < w by omega]
  · simp [h, hi, show i + 1 < w by omega]

/-- Through carry to the left: the lower bits take the top one, which stands for CF. -/
theorem setWidth_rotateLeft_one (hw : 0 < w) (x : BitVec (w + 1)) :
    (x.rotateLeft 1).setWidth w = x.setWidth w <<< 1 ||| BitVec.ofNat w x.msb.toNat := by
  refine BitVec.eq_of_getLsbD_eq fun i hi => ?_
  rw [BitVec.getLsbD_setWidth, getLsbD_rotateLeft_one (by omega) x (by omega), getLsbD_shiftIn_bottom _ _ hi,
    BitVec.getLsbD_setWidth]
  simp [hi, show i - 1 < w by omega]

/-- Through carry to the right: the bit that stands for CF comes in at the top. -/
theorem setWidth_rotateRight_one (x : BitVec (w + 1)) :
    (x.rotateRight 1).setWidth w = x.setWidth w >>> 1 ||| topBit x.msb := by
  refine BitVec.eq_of_getLsbD_eq fun i hi => ?_
  rw [BitVec.getLsbD_setWidth, getLsbD_rotateRight_one x (by omega), getLsbD_shiftIn_top _ _ hi,
    BitVec.getLsbD_setWidth, BitVec.msb_eq_getLsbD_last]
  by_cases h : i = w - 1
  · simp [h, show w - 1 < w by omega, show w - 1 + 1 = w by omega, show w - 1 ≠ w by omega]
  · simp [hi, h, show i + 1 < w by omega, show i ≠ w by omega]

/-! ### The closed forms -/

/-- One step takes the closed form to that of one position more, from count 0 on. -/
theorem one_closed (hw : 1 < w) (k : ShiftKind) (a : BitVec w) (c : Bool) (n : Nat) :
    k.one (k.closed a c n) = k.closed a c (n + 1) := by
  cases k with
  | rol =>
    simp only [ShiftKind.one, ShiftKind.closed, ← rotateLeft_rotateLeft a n 1, ← rotateLeft_one hw,
      getLsbD_rotateLeft_one hw _ (Nat.zero_lt_of_lt hw), if_true]
  | ror =>
    simp only [ShiftKind.one, ShiftKind.closed, ← rotateRight_rotateRight a n 1, ← rotateRight_one,
      msb_rotateRight_one (Nat.zero_lt_of_lt hw)]
  | rcl =>
    simp only [ShiftKind.one, ShiftKind.closed, ← rotateLeft_rotateLeft _ n 1,
      setWidth_rotateLeft_one (Nat.zero_lt_of_lt hw), msb_rotateLeft_one (Nat.lt_succ_of_lt hw),
      BitVec.msb_setWidth, Nat.zero_lt_of_lt hw, decide_true, Bool.true_and]
    rfl
  | rcr =>
    simp only [ShiftKind.one, ShiftKind.closed, ← rotateRight_rotateRight _ n 1, setWidth_rotateRight_one,
      msb_rotateRight_one (Nat.zero_lt_succ w), BitVec.getLsbD_setWidth, Nat.zero_lt_of_lt hw, decide_true,
      Bool.true_and]
  | shl =>
    simp only [ShiftKind.one, ShiftKind.closed, ← BitVec.shiftLeft_add, BitVec.msb_shiftLeft, BitVec.getMsbD,
      Nat.sub_sub, Nat.add_comm 1 n]
    rfl
  | shr => simp [ShiftKind.one, ShiftKind.closed, ← BitVec.shiftRight_add]
  | sar =>
    simp only [ShiftKind.one, ShiftKind.closed, ← BitVec.sshiftRight_add, ← sshiftRight_one]
    rfl

theorem times_succ (k : ShiftKind) (n : Nat) (x : BitVec w × Bool) : k.times (n + 1) x = k.one (k.times n x) := by
  induction n generalizing x with
  | zero => rfl
  | succ n ih => exact ih (k.one x)

/-- A step does not depend on CF but in the rotates through it, which start from their closed form. -/
theorem one_closed_zero (k : ShiftKind) (a : BitVec w) (c : Bool) : k.one (k.closed a c 0) = k.one (a, c) := by
  cases k with
  | rol | ror | rcl | rcr | shl | shr | sar =>
    simp [ShiftKind.one, ShiftKind.closed, rotateLeft_zero, rotateRight_zero]

/-- THE CLOSED FORM of the operation repeated. -/
theorem times_eq_closed (hw : 1 < w) (k : ShiftKind) (a : BitVec w) (c : Bool) {n : Nat} (hn : n ≠ 0) :
    k.times n (a, c) = k.closed a c n := by
  induction n, Nat.one_le_iff_ne_zero.2 hn using Nat.le_induction with
  | base =>
    rw [← one_closed hw, one_closed_zero]
    rfl
  | succ n one_le ih => rw [times_succ, ih (Nat.ne_of_gt one_le), one_closed hw]

/-- OF after one position says whether the sign bit changed. -/
theorem overflow_one (hw : 1 < w) (k : ShiftKind) (a : BitVec w) (c : Bool) :
    k.overflow a (k.one (a, c)).1 (k.one (a, c)).2 = (a.msb != (k.one (a, c)).1.msb) := by
  cases k with
  | rol | rcl | shl => rfl
  | ror | rcr =>
    simp only [ShiftKind.one, ShiftKind.overflow, getLsbD_shiftIn_top _ _ (show w - 2 < w by omega),
      if_neg (show w - 2 ≠ w - 1 by omega), show w - 2 + 1 = w - 1 by omega, ← BitVec.msb_eq_getLsbD_last]
    exact Bool.xor_comm _ _
  | shr => simp [ShiftKind.one, ShiftKind.overflow]
  | sar => simp [ShiftKind.one, ShiftKind.overflow, ← sshiftRight_one]

/-! ### The computation -/

theorem IsWidth.one_lt (hw : IsWidth w) : 1 < w := by
  rcases hw with rfl | rfl | rfl <;> decide

/-- What a shift or rotate of `a` by a count `n` above 0 makes of the flags `f`. -/
def ShiftKind.Sets (k : ShiftKind) (a : BitVec w) (f : Flags) (n : Nat) (g : Flags) : Prop :=
  let x := k.closed a f.cf n
  g.cf = x.2 ∧ (n = 1 → g.ovf = (a.msb != x.1.msb)) ∧
    (k.isRotate = true → g.sf = f.sf ∧ g.zf = f.zf ∧ g.af = f.af ∧ g.pf = f.pf) ∧ (k.isRotate = false → g.tells x.1)

/-- One closed form for the result and the flags, whatever the open flags. -/
theorem shiftOp_sets (hw : 1 < w) (k : ShiftKind) (f : Flags) (a : BitVec w) {n : Nat} (hn : n ≠ 0) (ovf af : Bool) :
    (shiftOp k f a n ovf af).1 = (k.closed a f.cf n).1 ∧ f.sixFrom (shiftOp k f a n ovf af).2.kept ∧
      k.Sets a f n (shiftOp k f a n ovf af).2.kept := by
  have closed : k.times n (a, f.cf) = k.closed a f.cf n := times_eq_closed hw k a f.cf hn
  have overflow (h : n = 1) :
      k.overflow a (k.closed a f.cf n).1 (k.closed a f.cf n).2 = (a.msb != (k.closed a f.cf n).1.msb) := by
    rw [← closed, h]
    exact overflow_one hw k a f.cf
  unfold ShiftKind.Sets
  simp only [shiftOp, if_neg hn, closed, true_and]
  cases k.isRotate with
  | true => exact ⟨rfl, rfl, fun h => (if_pos h).trans (overflow h), fun _ => ⟨rfl, rfl, rfl, rfl⟩, nofun⟩
  | false =>
    exact ⟨rfl, rfl, fun h => (if_pos h).trans (overflow h), nofun,
      fun _ => tells_congr (tells_result f _) rfl rfl rfl⟩

/-- Count 0 changes nothing (spec/42_logic_rotate_shift.md R348). -/
theorem shiftValue_zero (k : ShiftKind) (f : Flags) (a : BitVec w) :
    Computes (shiftValue k 0 a) f a fun g => g = f.kept := by
  rintro u rfl
  exact ⟨u.flags, u.oracle + 1, rfl, rfl, rfl⟩

theorem shiftValue_computes (hw : 1 < w) (k : ShiftKind) (f : Flags) (a : BitVec w) {n : Nat} (hn : n ≠ 0) :
    Computes (shiftValue k n a) f (k.closed a f.cf n).1 (k.Sets a f n) := by
  rintro u rfl
  let bits := (Config.free u.oracle).setWidth 2
  obtain ⟨result, six, sets⟩ := shiftOp_sets hw k u.flags a hn (bits.getLsbD 0) (bits.getLsbD 1)
  refine ⟨_, u.oracle + 1, ?_, six, sets⟩
  rw [← result]
  rfl

/-! ### The instructions -/

/-- Reading the count. -/
def Count.read : Count → M Byte
  | .one => pure 1
  | .imm b => pure b
  | .cl => getReg8 .cl

theorem Count.read_begin (c : Count) (s : State) : c.read s.begin = .ok (c.val s, s.begin) := by
  cases c with
  | one | imm | cl => rfl

theorem exec_shift8 (k : ShiftKind) (d : Rm8) (c : Count) (s : State) :
    exec (k.instr8 d c) s = run false (shift8 k d c.read) s := by
  cases k with
  | rol | ror | rcl | rcr | shl | shr | sar =>
    cases c with
    | one | imm | cl => rfl

theorem exec_shiftv (k : ShiftKind) (d : Rmv) (c : Count) (s : State) :
    exec (k.instrv d c) s = run false (shiftv k d c.read) s := by
  cases k with
  | rol | ror | rcl | rcr | shl | shr | sar =>
    cases c with
    | one | imm | cl => rfl

/-- Settles O8: the count is read, then the operand is updated, with the value it has for count 0. -/
theorem shiftRotateBytes : Obligations.ShiftRotateBytes := by
  intro k d c s hl hd n a x
  have body : shift8 k d c.read s.begin = update8 d (shiftValue k n) (s.starting s.trap) := bind_ok (c.read_begin s) _
  rw [exec_shift8]
  by_cases hn : n = 0
  · rw [hn] at body
    obtain ⟨t, runs, ran, wrote, -, kept⟩ := run_update8 hl body hd (shiftValue_zero k s.flags a)
    exact ⟨t, runs, ran, fun _ => ⟨wrote, kept⟩, fun h => absurd hn h⟩
  · obtain ⟨t, runs, ran, done⟩ := run_update8 hl body hd (shiftValue_computes (by decide) k s.flags a hn)
    exact ⟨t, runs, ran, fun h => absurd h hn, fun _ => done⟩

/-- Settles O9: the same at the operand size. -/
theorem shiftRotateWords : Obligations.ShiftRotateWords := by
  intro k d c s hl hd n a x
  have body : shiftv k d c.read s.begin = updatev s.opWidth d (shiftValue k n) (s.starting s.trap) :=
    bind_ok (c.read_begin s) _
  rw [exec_shiftv]
  by_cases hn : n = 0
  · rw [hn] at body
    obtain ⟨t, runs, ran, wrote, -, kept⟩ := run_updatev (opWidth_cases s) hl body hd (shiftValue_zero k s.flags a)
    exact ⟨t, runs, ran, fun _ => ⟨wrote, kept⟩, fun h => absurd hn h⟩
  · obtain ⟨t, runs, ran, done⟩ :=
      run_updatev (opWidth_cases s) hl body hd (shiftValue_computes (opWidth_isWidth s).one_lt k s.flags a hn)
    exact ⟨t, runs, ran, fun h => absurd h hn, fun _ => done⟩

end Sys2Proof.Machine
end

section
/-! PROOFS. The sixteen conditions: the flags they test, and what they say of the flags of a comparison. -/
-- One declaration after the other: many proofs at once take more thread stacks than the memory limit allows.
set_option Elab.async false
namespace Sys2Proof.Machine

variable {w : Nat}

/-! ### The flags of a comparison -/

/-- What the flags after CMP a, b say of `a` and `b`. -/
structure Flags.Compares (g : Flags) (a b : BitVec w) : Prop where
  below : g.cf = decide (a.toNat < b.toNat)
  equal : g.zf = decide (a = b)
  less : (g.sf != g.ovf) = decide (a.toInt < b.toInt)
  overflow : g.ovf = decide ((a - b).toInt ≠ a.toInt - b.toInt)
  negative : g.sf = decide ((a - b).toInt < 0)
  parity : g.pf = decide ((List.range 8).countP (fun i => (a - b).getLsbD i) % 2 = 0)

theorem sub_result (a b : BitVec w) (c : Bool) : Alu.sub.result a b c = a - b := by
  apply BitVec.eq_of_toInt_eq
  simp [Alu.result, BitVec.toInt_sub]

/-- The sign of the difference and its overflow together tell whether it is really negative. -/
theorem sign_ne_overflow (hw : IsWidth w) (a b : BitVec w) :
    (decide ((a - b).toInt < 0) != decide ((a - b).toInt ≠ a.toInt - b.toInt)) = decide (a.toInt < b.toInt) := by
  have ha := a.isLt
  have hb := b.isLt
  rw [Bool.eq_iff_iff]
  rcases hw with rfl | rfl | rfl
  all_goals
    simp only [BitVec.toInt_eq_toNat_cond, BitVec.toNat_sub, bne_iff_ne, ne_eq, decide_eq_decide, decide_eq_true_eq]
    omega

theorem compares_of_sets {a b : BitVec w} {c : Bool} {g : Flags} (hw : IsWidth w) (h : Alu.sub.sets a b c g) :
    g.Compares a b := by
  unfold Alu.sets at h
  rw [sub_result] at h
  obtain ⟨⟨negative, zero, parity⟩, below, -, overflow⟩ := h
  have overflow : g.ovf = decide ((a - b).toInt ≠ a.toInt - b.toInt) := by simpa using overflow
  have equal : (a - b).toNat = 0 ↔ a = b := by rw [← sub_eq_zero (a := a), ← BitVec.toNat_inj]; rfl
  exact ⟨by simpa using below, zero.trans (by simp only [equal]), by rw [negative, overflow, sign_ne_overflow hw], overflow,
    negative, parity⟩

/-! ### The statement -/

/-- Settles O28: the table by its definition, the comparisons from what each flag says. -/
theorem conditions : Obligations.Conditions := by
  refine ⟨fun g => by simp [Cond.holds], fun w a b c g hw h => ?_⟩
  obtain ⟨below, equal, less, overflow, negative, parity⟩ := compares_of_sets hw h
  have notLess : (g.sf == g.ovf) = !decide (a.toInt < b.toInt) := by
    rw [← less, bne, Bool.not_not]
  have unsigned : a.toNat ≤ b.toNat ↔ a.toNat < b.toNat ∨ a = b := by rw [Nat.le_iff_lt_or_eq, BitVec.toNat_inj]
  have signed : a.toInt ≤ b.toInt ↔ a = b ∨ a.toInt < b.toInt := by rw [Int.le_iff_lt_or_eq, BitVec.toInt_inj, or_comm]
  refine ⟨below, ?aboveEqual, equal, ?unequal, ?belowEqual, ?above, less, ?greaterEqual, ?lessEqual, ?greater,
    overflow, rfl, negative, rfl, parity, rfl⟩
  case aboveEqual => simp only [Cond.holds, below, ← decide_not, Nat.not_lt]
  case unequal => simp only [Cond.holds, equal, ← decide_not, ne_eq]
  case belowEqual => simp only [Cond.holds, below, equal, ← Bool.decide_or, ← unsigned]
  case above =>
    simp only [Cond.holds, below, equal, ← decide_not, ← Bool.decide_and, ← not_or, ← unsigned, Nat.not_le]
  case greaterEqual => simp only [Cond.holds, notLess, ← decide_not, Int.not_lt]
  case lessEqual => simp only [Cond.holds, equal, less, ← Bool.decide_or, ← signed]
  case greater =>
    simp only [Cond.holds, equal, notLess, ← decide_not, ← Bool.decide_and, ← not_or, ← signed, Int.not_le]

end Sys2Proof.Machine
end

section
/-! PROOFS. Near jumps and loops: each form is a jump that is taken or not, from a state in which only general registers
and what debug breakpoints record have changed. -/
-- One declaration after the other: many proofs at once take more thread stacks than the memory limit allows.
set_option Elab.async false
namespace Sys2Proof.Machine

variable {s t : State} {w : Nat} {r : TrapRecord} {regs : Gpr} {off : Dword} {taken : Bool}

/-! ### The jump -/

/-- The state with control at an offset of the code segment, the prefetch queue discarded. -/
def State.jumped (s : State) (v : Dword) : State := { s with eip := v, stale := [] }

theorem jumpTo_beyond {wide : Bool} {v : Dword} (h : s.targetOk (targetOf wide v) = false) :
    jumpTo wide v s = .error (s.fault 13 (some 0)) := by
  unfold jumpTo
  rw [get_bind_apply]
  exact check_denied h gp0_fault _

theorem jumpNear_ok (h : s.targetOk (targetOf s.op32 off) = true) :
    jumpNear off s = .ok ((), s.jumped (targetOf s.op32 off)) := jumpTo_ok h

theorem jumpNear_beyond (h : s.targetOk (targetOf s.op32 off) = false) :
    jumpNear off s = .error (s.fault 13 (some 0)) := jumpTo_beyond h

/-- An instruction whose effect has left control at an offset. -/
theorem wentTo_finish {u : State} {v : Dword} (h : s.agrees u) (hip : u.eip = v) (hs : u.shadow = .none) :
    s.wentTo (finish t u .done) v := ⟨h.trans (finish_agrees t u), hip, rfl, hs⟩

/-- A jump that is taken or not. -/
def jumpWhen (taken : Bool) (off : Dword) : M Unit := if taken then jumpNear off else pure ()

/-- AN INSTRUCTION THAT JUMPS OR NOT, after it set general registers. -/
theorem run_jumpWhen {body : M Unit} (hl : s.lockOk false = true)
    (hb : body s.begin = jumpWhen taken off (s.readied r regs)) :
    let v := targetOf s.op32 off
    (taken = false → ∃ t, run false body s = .next t ∧ s.ran t ∧ t.regs = regs ∧ t.mem = s.mem ∧ t.flags = s.flags.kept) ∧
    (taken = true → s.targetOk v = true →
      ∃ t, run false body s = .next t ∧ s.wentTo t v ∧ t.regs = regs ∧ t.mem = s.mem ∧ t.flags = s.flags.kept) ∧
    (taken = true → s.targetOk v = false → run false body s = s.faults 13 (some 0)) := by
  refine ⟨?_, ?_, ?_⟩
  · rintro rfl
    obtain ⟨t, runs, ran, flags, mem, regs⟩ := run_setsRegs hl hb
    exact ⟨t, runs, ran, regs, mem, flags⟩
  · rintro rfl inside
    have jump := jumpNear_ok (s := s.readied r regs) inside
    exact ⟨_, run_ok hl (hb.trans jump), wentTo_finish rfl rfl rfl, rfl, rfl, rfl⟩
  · rintro rfl outside
    exact run_faults hl (hb.trans (jumpNear_beyond (s := s.readied r regs) outside))

/-! ### The forms -/

theorem exec_jump8 (c : Cond) (b : Byte) (s : State) : exec (c.jump8 b) s = run false (jumpIf c (sextByte b)) s := by
  cases c <;> rfl

theorem exec_jumpv (c : Cond) (v : Dword) (s : State) : exec (c.jumpv v) s = run false (jumpIf c v) s := by
  cases c <;> rfl

theorem jumpIf_eq (c : Cond) (rel : Dword) (s : State) :
    jumpIf c rel s = jumpWhen (c.holds s.flags) (s.eip + rel) s := by
  unfold jumpIf jumpWhen
  rw [get_bind_apply]
  split <;> rfl

theorem jumpUnlessCounter_eq (rel : Dword) (s : State) :
    (get >>= fun s : State => if s.counter = 0 then jumpRel rel else pure ()) s =
      jumpWhen (decide (s.reg s.addrWidth .ecx = 0)) (s.eip + rel) s := by
  unfold jumpWhen
  rw [get_bind_apply]
  simp only [counter_eq_zero, decide_eq_true_eq]
  split <;> rfl

/-- The target of an indirect jump or call, read. -/
theorem targetOperand_starting {d : Rmv} (h : s.readyv .read s.opWidth d = true) :
    ∃ r, targetOperand d s.begin = .ok ((s.valv s.opWidth d).setWidth 32, s.starting r) := by
  obtain ⟨r, read⟩ := getv_starting h s.trap
  exact ⟨r, bind_ok (m := getv s.opWidth d) read _⟩

/-- A near jump, whether it is taken, and the offset it then goes to (spec/43_control_transfer.md R371 to R373, R377 to
R379). -/
def State.nearJump (s : State) (i : Instr) (taken : Bool) (off : Dword) : Prop :=
  (∃ c b, i = Cond.jump8 c b ∧ taken = c.holds s.flags ∧ off = s.nextIp + b.signExtend 32) ∨
    (∃ c v, i = Cond.jumpv c v ∧ taken = c.holds s.flags ∧ off = s.nextIp + v) ∨
    (∃ b, i = .jmpRel8 b ∧ taken = true ∧ off = s.nextIp + b.signExtend 32) ∨
    (∃ v, i = .jmpRelv v ∧ taken = true ∧ off = s.nextIp + v) ∨
    (∃ d, i = .jmpRmv d ∧ taken = true ∧ s.readyv .read s.opWidth d = true ∧
      off = (s.valv s.opWidth d).setWidth 32) ∨
    (∃ b, i = .jcxzRel8 b ∧ taken = decide (s.reg s.addrWidth .ecx = 0) ∧ off = s.nextIp + b.signExtend 32)

/-- THE FORMS of near jumps. -/
theorem nearJump_form {i : Instr} (h : s.nearJump i taken off) :
    ∃ body r, exec i s = run false body s ∧ body s.begin = jumpWhen taken off (s.readied r s.regs) := by
  obtain ⟨c, b, rfl, rfl, rfl⟩ | ⟨c, v, rfl, rfl, rfl⟩ | ⟨b, rfl, rfl, rfl⟩ | ⟨v, rfl, rfl, rfl⟩ |
    ⟨d, rfl, rfl, ready, rfl⟩ | ⟨b, rfl, rfl, rfl⟩ := h
  · exact ⟨_, s.trap, exec_jump8 c b s, jumpIf_eq c _ s.begin⟩
  · exact ⟨_, s.trap, exec_jumpv c v s, jumpIf_eq c v s.begin⟩
  · exact ⟨jumpRel (sextByte b), s.trap, rfl, rfl⟩
  · exact ⟨jumpRel v, s.trap, rfl, rfl⟩
  · obtain ⟨r, read⟩ := targetOperand_starting ready
    exact ⟨targetOperand d >>= jumpNear, r, rfl, bind_ok read _⟩
  · exact ⟨_, s.trap, rfl, jumpUnlessCounter_eq _ s.begin⟩

/-- Settles O29: each form is a jump that is taken or not. -/
theorem nearJumps : Obligations.NearJumps := by
  refine ⟨fun c b => ⟨rfl, rfl, fun k => by cases k <;> rfl⟩, fun s i taken off hl hi => ?_⟩
  obtain ⟨body, r, exec_eq, jump⟩ := nearJump_form hi
  rw [exec_eq]
  exact run_jumpWhen hl jump

/-! ### LOOP -/

/-- A register of the operand or address size reads back. -/
theorem reg_setReg (s : State) (q : Reg) (v : BitVec w) (hw : w = 16 ∨ w = 32) : (s.setReg q v).reg w q = v := by
  unfold State.reg
  rw [setReg_regs, Gpr.get_set_same]
  rcases hw with rfl | rfl
  · exact mergeLow_low _ v
  · rw [mergeLow_all, BitVec.setWidth_eq]

/-- A loop decrements its counter, then jumps or not. -/
theorem loopIf_eq (more : Flags → Bool) (b : Byte) (s : State) :
    let n := s.reg s.addrWidth .ecx - 1
    loopIf more b s = jumpWhen (decide (n ≠ 0) && more s.flags) (s.eip + sextByte b) (s.setReg .ecx n) := by
  intro n
  have counter : (s.setReg .ecx n).counter = 0 ↔ n = 0 :=
    counter_eq_zero.trans (by
      rw [show (s.setReg .ecx n).reg (s.setReg .ecx n).addrWidth .ecx = n from reg_setReg s .ecx n (addrWidth_cases s)]
      rfl)
  have goes : (decide (n ≠ 0) && more s.flags) = true ↔ (s.setReg .ecx n).counter ≠ 0 ∧ more s.flags = true := by
    rw [Bool.and_eq_true, decide_eq_true_eq, ne_eq, ne_eq, counter]
  unfold loopIf countDown jumpWhen
  rw [modify_bind_apply, get_bind_apply]
  change (if (s.setReg .ecx n).counter ≠ 0 ∧ more s.flags = true then _ else _ : M Unit) _ = _
  simp only [goes]
  split <;> rfl

/-- THE FORMS of loops. -/
theorem loop_form {i : Instr} {b : Byte} {more : Bool}
    (h : (i = .loopRel8 b ∧ more = true) ∨ (i = .loopeRel8 b ∧ more = s.flags.zf) ∨
      (i = .loopneRel8 b ∧ more = !s.flags.zf)) :
    ∃ test : Flags → Bool, test s.flags = more ∧ exec i s = run false (loopIf test b) s := by
  obtain ⟨rfl, rfl⟩ | ⟨rfl, rfl⟩ | ⟨rfl, rfl⟩ := h <;> exact ⟨_, rfl, rfl⟩

/-- Settles O30: the counter is set, then it is a jump that is taken or not. -/
theorem loops : Obligations.Loops := by
  refine ⟨fun c b => ⟨rfl, rfl, rfl⟩, fun s i b more hl hi => ?_⟩
  obtain ⟨test, rfl, exec_eq⟩ := loop_form hi
  intro n v
  have jump : loopIf test b s.begin = jumpWhen (decide (n ≠ 0) && test s.flags) (s.nextIp + b.signExtend 32)
      (s.readied s.trap (s.setReg .ecx n).regs) := loopIf_eq test b s.begin
  have goes : (decide (n ≠ 0) && test s.flags) = true ↔ n ≠ 0 ∧ test s.flags = true := by simp
  obtain ⟨on, jumps, beyond⟩ := run_jumpWhen hl jump
  rw [exec_eq]
  exact ⟨fun stay => on (Bool.eq_false_iff.2 (mt goes.1 stay)), fun go => jumps (goes.2 go), fun go => beyond (goes.2 go)⟩

end Sys2Proof.Machine
end

section
/-! PROOFS. Near CALL and RET, with paging off: one item pushed or popped, on the 8086 as on the later processors. -/
-- One declaration after the other: many proofs at once take more thread stacks than the memory limit allows.
set_option Elab.async false
namespace Sys2Proof.Machine

variable {s t u : State} {w : Nat} {r : TrapRecord} {off : Dword}

/-! ### Pushing -/

/-- PUSHING one more item: what it stores, on the 8086 too. -/
theorem pushItem_writes {b k : Nat} {v : BitVec w} {x : Trace} (wf : Memory.wf x.mem = true) (hw : w = 16 ∨ w = 32)
    (hr : s.reaches .ss .write (s.down w (k + 1)) (w / 8) b = true) :
    ∃ y, pushItem b v ((s.withSp (s.down w k)).after x) = .ok ((), (s.withSp (s.down w (k + 1))).after y) ∧
      s.StackWrite (s.down w (k + 1)) v x.mem y.mem := by
  have way := pushed_way s (s.down w k) x
  have reach := way.reaches_wf wf hr
  have at_ : ((s.withSp (s.down w k)).after x).stackOff (((s.withSp (s.down w k)).after x).sp -
      BitVec.ofNat 32 (w / 8)) = s.down w (k + 1) := withSp_down_pushAt s w k
  have run := pushItem_flat v (by rw [at_]; exact reach)
  rw [at_] at run
  have touched := touch_same ((s.withSp (s.down w k)).after x) .ss .write (s.down w (k + 1)) (w / 8)
  have mem := touch_mem ((s.withSp (s.down w k)).after x) .ss .write (s.down w (k + 1)) (w / 8)
  generalize ((s.withSp (s.down w k)).after x).touch .ss .write (s.down w (k + 1)) (w / 8) = z at run touched mem
  have put := touched.trans (put_same z .ss (s.down w (k + 1)) v)
  have start : ({ s with mem := x.mem } : State).SameWay ((s.withSp (s.down w k)).after x) :=
    ⟨rfl, rfl, rfl, fun r => by cases r <;> rfl, rfl, rfl, rfl⟩
  have bytes : w % 8 = 0 ∧ w / 8 ≤ 65536 := by rcases hw with rfl | rfl <;> decide
  obtain ⟨others, value⟩ := put_stores bytes.1 bytes.2 .ss (s.down w (k + 1)) v (start.trans touched.way) mem wf
  refine ⟨{ (z.put .ss (s.down w (k + 1)) v).trace with oracle := x.oracle }, ?_,
    put_wf (s := z) _ _ v (by rw [mem]; exact wf), value, others⟩
  rw [run, setSp_eq, put.after, after_withSp, after_withSp, withSp_withSp]
  rfl

theorem pushAt_eq_down (s : State) (w : Nat) : s.pushAt w = s.down w 1 := by
  rw [← withSp_down_pushAt, withSp_down_zero]

/-- PUSHING one item. -/
theorem push_writes {v : BitVec w} (hw : w = 16 ∨ w = 32) (h : s.canPush w = true) :
    ∃ y, push v s = .ok ((), (s.withSp (s.pushAt w)).after y) ∧ s.StackWrite (s.pushAt w) v s.mem y.mem := by
  unfold State.canPush at h
  rw [pushAt_eq_down] at h ⊢
  obtain ⟨y, run, wrote⟩ := pushItem_writes (k := 0) (v := v) (x := s.trace) (reaches_memoryOk h) hw h
  rw [withSp_down_zero] at run
  exact ⟨y, run, wrote⟩

/-! ### CALL -/

/-- A NEAR CALL to an offset. -/
theorem callNear_calls (h : s.targetOk (targetOf s.op32 off) = true) (hp : s.canPush s.opWidth = true) :
    ∃ y, callNear off s = .ok ((), ((s.withSp (s.pushAt s.opWidth)).after y).jumped (targetOf s.op32 off)) ∧
      s.StackWrite (s.pushAt s.opWidth) (s.eip.setWidth s.opWidth) s.mem y.mem := by
  obtain ⟨y, push, wrote⟩ := push_writes (v := s.eip.setWidth s.opWidth) (opWidth_cases s) hp
  refine ⟨y, ?_, wrote⟩
  unfold callNear
  rw [sized_apply, get_bind_apply, check_bind_ok h, bind_ok push]
  exact jumpNear_ok (s := (s.withSp (s.pushAt s.opWidth)).after y) h

theorem callNear_beyond (h : s.targetOk (targetOf s.op32 off) = false) :
    callNear off s = .error (s.fault 13 (some 0)) := by
  unfold callNear
  rw [sized_apply, get_bind_apply]
  exact check_denied h gp0_fault _

/-- THE FORMS of near calls. -/
theorem nearCall_form {i : Instr} (h : (∃ v, i = .callRelv v ∧ off = s.nextIp + v) ∨
      (∃ d, i = .callRmv d ∧ s.readyv .read s.opWidth d = true ∧ off = (s.valv s.opWidth d).setWidth 32)) :
    ∃ body r, exec i s = run false body s ∧ body s.begin = callNear off (s.starting r) := by
  obtain ⟨v, rfl, rfl⟩ | ⟨d, rfl, ready, rfl⟩ := h
  · exact ⟨get >>= fun s => callNear (s.eip + v), s.trap, rfl, rfl⟩
  · obtain ⟨r, read⟩ := targetOperand_starting ready
    exact ⟨targetOperand d >>= callNear, r, rfl, bind_ok read _⟩

/-- The instruction that comes down to a near call. -/
theorem run_callNear {body : M Unit} (hl : s.lockOk false = true) (hb : body s.begin = callNear off (s.starting r)) :
    let v := targetOf s.op32 off
    (s.targetOk v = true → s.canPush s.opWidth = true → ∃ t, run false body s = .next t ∧ s.wentTo t v ∧
      t.flags = s.flags.kept ∧ s.pushed t (s.nextIp.setWidth s.opWidth)) ∧
    (s.targetOk v = false → run false body s = s.faults 13 (some 0)) := by
  refine ⟨fun inside room => ?_, fun outside => run_faults hl (hb.trans (callNear_beyond (s := s.starting r) outside))⟩
  obtain ⟨y, call, wrote⟩ := callNear_calls (s := s.starting r) inside
    (((starting_way s r).reaches rfl .ss .write _ _ _).trans room)
  refine ⟨_, run_ok hl (hb.trans call), wentTo_finish rfl rfl rfl, rfl, ?_, wrote.others, wrote.value⟩
  rw [setSp_eq]
  rfl

/-! ### RET -/

theorem addSp_withSp (s : State) (v n : Dword) (r : TrapRecord) :
    addSp n ((s.withSp v).traced r) = .ok ((), (s.withSp (s.stackOff (v + n))).traced r) := by
  have sp : ((s.withSp v).traced r).sp = s.stackOff v := withSp_sp s v
  have off : ((s.withSp v).traced r).stackOff (s.stackOff v + n) = s.stackOff (v + n) := stackOff_stackOff_add s v n
  unfold addSp
  rw [modify_apply, sp, off, setSp_eq, ← withSp_withSp s v (s.stackOff (v + n))]
  rfl

/-- A NEAR RETURN, once the offset is popped. -/
theorem run_returnNear {n : Word} (hl : s.lockOk false = true) (hp : s.canPop s.opWidth = true) :
    let v := targetOf s.op32 ((s.top s.opWidth).setWidth 32)
    (s.targetOk v = true → ∃ t, run false (returnNear n) s = .next t ∧ s.wentTo t v ∧ t.flags = s.flags.kept ∧
      t.mem = s.mem ∧ t.regs = (s.setSp (s.stackOff (s.popAt s.opWidth + n.setWidth 32))).regs) ∧
    (s.targetOk v = false → run false (returnNear n) s = s.faults 13 (some 0)) := by
  obtain ⟨r, pop⟩ := popItem_starting hp
  rw [setSp_eq] at pop
  refine ⟨fun inside => ?_, fun outside => ?_⟩
  · have jump := jumpNear_ok (s := s.readied r (s.withSp (s.popAt s.opWidth)).regs) inside
    have body : returnNear n s.begin = _ := (bind_ok pop _).trans ((bind_ok jump _).trans
      (addSp_withSp (s.begin.jumped (targetOf s.op32 ((s.top s.opWidth).setWidth 32))) (s.popAt s.opWidth)
        (n.setWidth 32) r))
    refine ⟨_, run_ok hl body, wentTo_finish rfl rfl rfl, rfl, rfl, ?_⟩
    rw [setSp_eq]
    rfl
  · have jump := jumpNear_beyond (s := s.readied r (s.withSp (s.popAt s.opWidth)).regs) outside
    exact run_faults hl ((bind_ok pop _).trans (bind_error jump _))

/-- Settles O31: the forms of CALL come down to an offset, those of RET to the bytes removed. -/
theorem nearCallsAndReturns : Obligations.NearCallsAndReturns := by
  refine fun s hl => ⟨fun i off hi => ?_, fun i n hi hp => ?_⟩
  · obtain ⟨body, r, exec_eq, call⟩ := nearCall_form hi
    rw [exec_eq]
    exact run_callNear hl call
  · have exec_eq : exec i s = run false (returnNear n) s := by obtain ⟨rfl, rfl⟩ | rfl := hi <;> rfl
    rw [exec_eq]
    exact run_returnNear hl hp

end Sys2Proof.Machine
end

section
/-! PROOFS. Far JMP, CALL and RET outside protected mode, with paging off: CS takes any selector, CALL pushes the return
address, RET pops it. -/
-- One declaration after the other: many proofs at once take more thread stacks than the memory limit allows.
set_option Elab.async false
namespace Sys2Proof.Machine

variable {s t u : State} {w : Nat} {r : TrapRecord} {kind : FarKind} {sel n : Word} {off v : Dword} {call : Bool}

/-! ### Two items on the stack -/

/-- The items of a stack lie apart on the 8086 too, where their bytes wrap at 2^16. -/
theorem items_apart (hw : w = 16 ∨ w = 32) {i j p q : Nat} (hi : i ≤ 64) (hj : j ≤ 64) (hij : i ≠ j) (hp : p < w / 8)
    (hq : q < w / 8) : s.placeAt .ss (s.down w i) p ≠ s.placeAt .ss (s.down w j) q := by
  by_cases hl : s.level = 0
  · intro same
    have at_i := placeAt_mod s .ss (s.down w i) p
    have at_j := placeAt_mod s .ss (s.down w j) q
    have narrow : s.stack32 = false := by simp [State.stack32, hl]
    rw [same, at_j, if_pos hl, if_pos hl] at at_i
    unfold State.down at at_i
    simp only [stackOff_toNat, narrow, BitVec.toNat_sub, BitVec.toNat_ofNat, Bool.false_eq_true, if_false] at at_i
    rcases hw with rfl | rfl <;> omega
  · exact down_apart hl hw hi hj hij hp hq

/-- Two values pushed in turn. -/
theorem stacked_two {a b : BitVec w} {m m' m'' : Memory} (hw : w = 16 ∨ w = 32) (ha : s.StackWrite (s.down w 1) a m m')
    (hb : s.StackWrite (s.down w 2) b m' m'') : s.Stacked w [a, b] m m'' := by
  refine ⟨hb.wf, fun i hi => ?_, fun x hx => ?_⟩
  · match i, hi with
    | 0, _ =>
      exact (memVal_congr fun p hp => hb.others _ fun q hq =>
        items_apart hw (by decide) (by decide) (by decide) hq hp).trans ha.value
    | 1, _ => exact hb.value
  · rw [hb.others x fun q hq => hx 2 q (by decide) (by simp) hq, ha.others x fun q hq => hx 1 q (by decide) (by simp) hq]

/-- PUSHING a return address outside protected mode: the upper half of the slot of CS is open. -/
theorem pushReturn_stacked86 {cs : Word} {ret : Dword} (hp : s.prot = false) (hw : w = 16 ∨ w = 32) (hr : s.roomFor w 2) :
    ∃ (item : BitVec w) (x : Trace), item.setWidth 16 = cs ∧
      pushReturn w cs ret s = .ok ((), (s.withSp (s.down w 2)).after x) ∧
      s.Stacked w [item, ret.setWidth w] s.mem x.mem := by
  have first := hr 1 (by decide) (by decide)
  have second := hr 2 (by decide) (by decide)
  have unchecked : pushReturn.checkRoomIf w s = .ok ((), s) := by
    unfold pushReturn.checkRoomIf
    rw [get_bind_apply, if_neg (by simp [hp])]
    rfl
  obtain ⟨item, n, low, slot⟩ := slotOf_open (s := s) cs hw
  obtain ⟨x, pushCs, one⟩ := pushItem_writes (k := 0) (v := item) (x := { s.trace with oracle := n })
    (reaches_memoryOk first) hw (reaches_boundary first (selector_boundary hw))
  rw [withSp_down_zero] at pushCs
  obtain ⟨y, pushIp, two⟩ := pushItem_writes (k := 1) (v := ret.setWidth w) one.wf hw second
  refine ⟨item, y, low, ?_, stacked_two hw one two⟩
  have selector : pushSelector w cs s = .ok ((), (s.withSp (s.down w 1)).after x) := (bind_ok slot _).trans pushCs
  unfold pushReturn
  rw [bind_ok unchecked, bind_ok selector]
  exact pushIp

/-! ### The transfer -/

/-- Outside protected mode a target is judged without the code segment. -/
theorem targetOk_86 (hp : s.prot = false) : s.targetOk v = (decide (s.level < 3) || decide (v.toNat ≤ 0xFFFF)) := by
  unfold State.targetOk
  rw [hp]
  rfl

/-- ENTERING a code segment outside protected mode. -/
theorem enter86 {β : Type} (hp : s.prot = false) (h : s.targetOk (targetOf s.op32 off) = true) (f : Unit → M β) :
    ((modify fun s : State => s.loadCs86 sel) >>= fun _ => jumpTo s.op32 off >>= f) s =
      f () ((s.loadCs86 sel).jumped (targetOf s.op32 off)) := by
  have inside : (s.loadCs86 sel).targetOk (targetOf s.op32 off) = true := by
    rw [targetOk_86 hp] at h
    rw [targetOk_86 (s := s.loadCs86 sel) hp]
    exact h
  rw [modify_bind_apply, bind_ok (jumpTo_ok inside)]
  rfl

theorem far86_jmp (hp : s.prot = false) (h : s.targetOk (targetOf s.op32 off) = true) :
    far86 .jmp sel off s = .ok (.done, (s.loadCs86 sel).jumped (targetOf s.op32 off)) := by
  unfold far86
  rw [get_bind_apply, check_bind_ok h, if_neg (by decide)]
  exact enter86 hp h _

theorem far86_call (hp : s.prot = false) (h : s.targetOk (targetOf s.op32 off) = true) (hr : s.roomFor s.opWidth 2) :
    ∃ (item : BitVec s.opWidth) (x : Trace), item.setWidth 16 = s.cs.sel ∧
      far86 .call sel off s = .ok (.done,
        (((s.withSp (s.down s.opWidth 2)).after x).loadCs86 sel).jumped (targetOf s.op32 off)) ∧
      s.Stacked s.opWidth [item, s.eip.setWidth s.opWidth] s.mem x.mem := by
  obtain ⟨item, x, low, push, stacked⟩ := pushReturn_stacked86 (cs := s.cs.sel) (ret := s.eip) hp (opWidth_cases s) hr
  refine ⟨item, x, low, ?_, stacked⟩
  unfold far86
  rw [get_bind_apply, check_bind_ok h, if_pos rfl, bind_ok push]
  exact enter86 (s := (s.withSp (s.down s.opWidth 2)).after x) hp h _

/-! ### The forms -/

/-- THE FORMS of far JMP and CALL come down to a selector and an offset. -/
theorem farForm_exec86 {i : Instr} (h : s.farForm i call sel off) (hp : s.prot = false) :
    ∃ body r, exec i s = runEnding false body s ∧ body s.begin = far86 (farKind call) sel off (s.starting r) := by
  have direct : ∀ r, farTransfer (farKind call) sel off (s.starting r) = far86 (farKind call) sel off (s.starting r) := by
    intro r
    unfold farTransfer
    rw [get_bind_apply, if_neg (by simp [show (s.starting r).prot = false from hp])]
  obtain ⟨rfl, rfl⟩ | ⟨rfl, rfl⟩ | ⟨m, hi, ready, rfl, rfl⟩ := h
  · exact ⟨_, s.trap, rfl, direct s.trap⟩
  · exact ⟨_, s.trap, rfl, direct s.trap⟩
  · have first : s.reaches (s.memSeg m) .read (s.memOff m) (s.opWidth / 8) (s.opWidth / 8) = true := by
      unfold State.reachesPair at ready
      simp only [Bool.and_eq_true] at ready
      obtain ⟨⟨first, -⟩, -⟩ := ready
      exact first
    have exec_eq : exec i s = runEnding false (farIndirect (farKind call) m) s := by
      obtain ⟨rfl, rfl⟩ | ⟨rfl, rfl⟩ := hi <;> rfl
    obtain ⟨r, offset⟩ := readItem_starting first s.trap
    obtain ⟨r', selector⟩ := memGetAt_starting (k := 16) ready r
    exact ⟨_, r', exec_eq,
      (bind_ok (m := memGet s.opWidth m) offset _).trans ((bind_ok selector _).trans (direct r'))⟩

/-- CS after a load outside protected mode, whatever else has changed. -/
theorem tookCs_of (h : t.cs = s.segment86 .cs sel) (latch : t.resetLatch = false) : s.tookCs t sel := by
  obtain ⟨selector, valid, base, limit⟩ := segment86_fields s .cs sel
  rw [← h] at selector valid base limit
  exact ⟨selector, valid, base, limit, latch⟩

/-- FAR JMP. -/
theorem farJump_runs {i : Instr} (hi : s.farForm i false sel off) (hl : s.lockOk false = true) (hp : s.prot = false)
    (h : s.targetOk (targetOf s.op32 off) = true) :
    ∃ t, exec i s = .next t ∧ (s.withCsOf t).wentTo t (targetOf s.op32 off) ∧ s.tookCs t sel ∧ t.regs = s.regs ∧
      t.mem = s.mem ∧ t.flags = s.flags.kept := by
  obtain ⟨body, r, exec_eq, far⟩ := farForm_exec86 hi hp
  have jump := far86_jmp (s := s.starting r) (sel := sel) hp h
  exact ⟨_, exec_eq.trans (runEnding_ok hl (far.trans jump)), wentTo_finish rfl rfl rfl, tookCs_of rfl rfl, rfl, rfl, rfl⟩

/-- FAR CALL. -/
theorem farCall_runs {i : Instr} (hi : s.farForm i true sel off) (hl : s.lockOk false = true) (hp : s.prot = false)
    (h : s.targetOk (targetOf s.op32 off) = true) (hr : s.roomFor s.opWidth 2) :
    ∃ t, exec i s = .next t ∧ (s.withCsOf t).wentTo t (targetOf s.op32 off) ∧ s.tookCs t sel ∧
      t.flags = s.flags.kept ∧ s.pushedItems t s.opWidth 2 ∧ (s.pushedAt t s.opWidth 1).setWidth 16 = s.cs.sel ∧
      s.pushedAt t s.opWidth 2 = s.nextIp.setWidth s.opWidth := by
  obtain ⟨body, r, exec_eq, far⟩ := farForm_exec86 hi hp
  have room : (s.starting r).roomFor s.opWidth 2 := fun i one two =>
    ((starting_way s r).reaches rfl .ss .write _ _ _).trans (hr i one two)
  obtain ⟨item, x, low, called, stacked⟩ := far86_call (s := s.starting r) (sel := sel) hp h room
  have regs : (s.withSp (s.down s.opWidth 2)).regs = (s.setSp (s.down s.opWidth 2)).regs := by rw [setSp_eq]
  exact ⟨_, exec_eq.trans (runEnding_ok hl (far.trans called)), wentTo_finish rfl rfl rfl, tookCs_of rfl rfl, rfl,
    ⟨regs, stacked.others⟩, (congrArg _ (stacked.items 0 (by simp))).trans low, stacked.items 1 (by simp)⟩

/-! ### RETF -/

/-- The offset and the selector of a return address, popped. -/
theorem popReturn (h : s.holds w 2) (hw : w = 16 ∨ w = 32) :
    ∃ r, ∀ {β : Type} (f : BitVec w → Word → M β),
      (pop w >>= fun off => popSelector w >>= fun sel => f off sel) s =
        f (s.top w) ((s.memVal w .ss (s.up w 1)).setWidth 16) ((s.withSp (s.up w 2)).traced r) := by
  obtain ⟨r, offset⟩ := pop_at (h 0 (by decide)) s.trap
  obtain ⟨r', selector⟩ := popSelector_at (h 1 (by decide)) hw r
  rw [up_all, up_zero] at offset
  exact ⟨r', fun f => (bind_ok (s := s.traced s.trap) offset _).trans (bind_ok selector _)⟩

theorem retf86_returns (hp : s.prot = false) (h : s.holds s.opWidth 2)
    (hv : s.targetOk (targetOf s.op32 ((s.top s.opWidth).setWidth 32)) = true) :
    ∃ r, retf86 n s = .ok ((),
      (((s.loadCs86 ((s.memVal s.opWidth .ss (s.up s.opWidth 1)).setWidth 16)).jumped
        (targetOf s.op32 ((s.top s.opWidth).setWidth 32))).withSp
          (s.stackOff (s.up s.opWidth 2 + n.setWidth 32))).traced r) := by
  obtain ⟨r, address⟩ := popReturn h (opWidth_cases s)
  refine ⟨r, ?_⟩
  unfold retf86
  rw [get_bind_apply]
  refine (address _).trans ((enter86 (s := (s.withSp (s.up s.opWidth 2)).traced r) hp hv _).trans ?_)
  exact addSp_withSp ((s.loadCs86 _).jumped _) (s.up s.opWidth 2) (n.setWidth 32) r

/-- FAR RET. -/
theorem farReturn_runs {i : Instr} (hi : (i = .retf ∧ n = 0) ∨ i = .retfImm16 n) (hl : s.lockOk false = true)
    (hp : s.prot = false) (h : s.holds s.opWidth 2)
    (hv : s.targetOk (targetOf s.op32 ((s.top s.opWidth).setWidth 32)) = true) :
    ∃ t, exec i s = .next t ∧ (s.withCsOf t).wentTo t (targetOf s.op32 ((s.top s.opWidth).setWidth 32)) ∧
      s.tookCs t ((s.memVal s.opWidth .ss (s.up s.opWidth 1)).setWidth 16) ∧ t.flags = s.flags.kept ∧ t.mem = s.mem ∧
      t.regs = (s.setSp (s.stackOff (s.up s.opWidth 2 + n.setWidth 32))).regs := by
  have exec_eq : exec i s = run false (returnFar n) s := by obtain ⟨rfl, rfl⟩ | rfl := hi <;> rfl
  have readable : s.begin.holds s.opWidth 2 := fun i hi => (begin_reaches s _ _ _ _ _).trans (h i hi)
  obtain ⟨r, back⟩ := retf86_returns (s := s.begin) (n := n) hp readable hv
  have body : returnFar n s.begin = retf86 n s.begin := by
    unfold returnFar
    rw [get_bind_apply, if_neg (by simp [hp])]
  refine ⟨_, exec_eq.trans (run_ok hl (body.trans back)), wentTo_finish rfl rfl rfl, tookCs_of rfl rfl, rfl, rfl, ?_⟩
  rw [setSp_eq]
  rfl

/-- Settles O32: the forms of JMP and CALL come down to a selector and an offset, those of RET to the bytes removed. -/
theorem farTransfers86 : Obligations.FarTransfers86 := by
  refine fun s hl hp => ⟨fun sel off hv => ⟨fun i hi => ?_, fun i hi room => ?_⟩, fun i n hi h hv => ?_⟩
  · refine farJump_runs ?_ hl hp hv
    obtain rfl | ⟨m, rfl, source⟩ := hi
    · exact .inl ⟨rfl, rfl⟩
    · exact .inr (.inr ⟨m, .inl ⟨rfl, rfl⟩, source⟩)
  · refine farCall_runs ?_ hl hp hv room
    obtain rfl | ⟨m, rfl, source⟩ := hi
    · exact .inr (.inl ⟨rfl, rfl⟩)
    · exact .inr (.inr ⟨m, .inr ⟨rfl, rfl⟩, source⟩)
  · exact farReturn_runs hi hl hp h hv

end Sys2Proof.Machine
end


section
/-! PROOFS. PUSH and POP of one item, with paging off, and the flags on the stack. -/
-- One declaration after the other: many proofs at once take more thread stacks than the memory limit allows.
set_option Elab.async false
namespace Sys2Proof.Machine

variable {s : State} {w : Nat} {body : M Unit}

/-! ### PUSH -/

/-- PUSHING one item of any alignment. -/
theorem pushItem_pushAt {b : Nat} {v : BitVec w} (hw : w = 16 ∨ w = 32)
    (h : s.reaches .ss .write (s.pushAt w) (w / 8) b = true) :
    ∃ y, pushItem b v s = .ok ((), (s.withSp (s.pushAt w)).after y) ∧ s.StackWrite (s.pushAt w) v s.mem y.mem := by
  rw [pushAt_eq_down] at h ⊢
  obtain ⟨y, run, wrote⟩ := pushItem_writes (k := 0) (v := v) (x := s.trace) (reaches_memoryOk h) hw h
  rw [withSp_down_zero] at run
  exact ⟨y, run, wrote⟩

/-- AN INSTRUCTION that pushes an item last, after reads and free values drawn. -/
theorem run_pushItem {b n : Nat} {v : BitVec w} {r : TrapRecord} (hw : w = 16 ∨ w = 32) (hl : s.lockOk false = true)
    (h : s.reaches .ss .write (s.pushAt w) (w / 8) b = true)
    (hb : body s.begin = pushItem b v { s.starting r with oracle := n }) :
    ∃ t, run false body s = .next t ∧ s.ran t ∧ t.flags = s.flags.kept ∧ s.pushed t v := by
  obtain ⟨y, push, wrote⟩ := pushItem_pushAt (s := { s.starting r with oracle := n }) (v := v) hw
    (((starting_way s r).reaches rfl .ss .write _ _ b).trans h)
  obtain ⟨runs, ran, flags⟩ := run_effect hl (hb.trans push) ⟨rfl, rfl, rfl, rfl⟩
  refine ⟨_, runs, ran, flags, ?_, wrote.others, wrote.value⟩
  rw [setSp_eq]
  rfl

/-- PUSH of a value that was read at the operand size. -/
theorem run_push {v : BitVec s.opWidth} {r : TrapRecord} (hl : s.lockOk false = true) (h : s.canPush s.opWidth = true)
    (hb : body s.begin = push v (s.starting r)) :
    ∃ t, run false body s = .next t ∧ s.ran t ∧ t.flags = s.flags.kept ∧ s.pushed t v :=
  run_pushItem (r := r) (n := s.oracle) (opWidth_cases s) hl h hb

/-- On the 8086 PUSH SP pushes the stack pointer as the push leaves it. -/
theorem pushedReg_eq (s : State) (r : Reg) :
    (if r = .esp ∧ s.level = 0 then s.reg s.opWidth r - BitVec.ofNat s.opWidth (s.opWidth / 8) else s.reg s.opWidth r) =
      if r = .esp ∧ s.level = 0 then s.reg s.opWidth .esp - 2 else s.reg s.opWidth r := by
  refine if_ctx_congr Iff.rfl (fun ⟨sp, old⟩ => ?_) fun _ => rfl
  have narrow : s.opWidth = 16 := by simp [State.opWidth, State.op32, old]
  rw [sp, narrow]
  rfl

/-- PUSH of a general register. -/
theorem pushReg_runs (hl : s.lockOk false = true) (h : s.canPush s.opWidth = true) (r : Reg) :
    ∃ t, run false (pushReg r) s = .next t ∧ s.ran t ∧ t.flags = s.flags.kept ∧
      s.pushed t (if r = .esp ∧ s.level = 0 then s.reg s.opWidth .esp - 2 else s.reg s.opWidth r) := by
  rw [← pushedReg_eq]
  exact run_push (body := pushReg r) (r := s.trap) hl h rfl

/-- PUSH of a memory operand. -/
theorem pushMem_runs {m : Mem} (hl : s.lockOk false = true) (h : s.canPush s.opWidth = true)
    (hm : s.reaches (s.memSeg m) .read (s.memOff m) (s.opWidth / 8) (s.opWidth / 8) = true) :
    ∃ t, run false (pushRm (.mem m)) s = .next t ∧ s.ran t ∧ t.flags = s.flags.kept ∧
      s.pushed t (s.memVal s.opWidth (s.memSeg m) (s.memOff m)) := by
  obtain ⟨r, read⟩ := readItem_starting hm s.trap
  exact run_push (body := pushRm (.mem m)) hl h (bind_ok (m := memGet s.opWidth m) read push)

/-- PUSH of a segment register. -/
theorem pushSeg_runs {g : SReg} (hl : s.lockOk false = true)
    (h : s.reaches .ss .write (s.pushAt s.opWidth) (s.opWidth / 8) 2 = true) :
    ∃ t, ∃ v : BitVec s.opWidth, run false (pushSeg g) s = .next t ∧ s.ran t ∧ t.flags = s.flags.kept ∧
      v.setWidth 16 = (s.seg g).sel ∧ s.pushed t v := by
  obtain ⟨v, n, low, slot⟩ := slotOf_open (s := s.begin) (s.seg g).sel (opWidth_cases s)
  have pushes : pushSeg g s.begin = pushItem 2 v { s.starting s.trap with oracle := n } := by
    unfold pushSeg
    rw [sized_apply, get_bind_apply, begin_seg]
    exact bind_ok slot _
  obtain ⟨t, runs, ran, flags, pushed⟩ := run_pushItem (opWidth_cases s) hl h pushes
  exact ⟨t, v, runs, ran, flags, low, pushed⟩

/-- Settles O22: each form reads a value and pushes it last. -/
theorem pushes : Obligations.Pushes := by
  refine fun s hl => ⟨fun h r i hi => ?_, fun h m hm => pushMem_runs hl h hm,
    fun h v => run_push (body := sized fun w => push (v.setWidth w)) (r := s.trap) hl h rfl,
    fun h b => run_push (body := sized fun w => push (immSext w b)) (r := s.trap) hl h rfl, fun h g i hi => ?_⟩
  · have exec_eq : exec i s = run false (pushReg r) s := by obtain rfl | rfl := hi <;> rfl
    rw [exec_eq]
    exact pushReg_runs hl h r
  · have exec_eq : exec i s = run false (pushSeg g) s := by
      obtain ⟨rfl, rfl⟩ | ⟨rfl, rfl⟩ | ⟨rfl, rfl⟩ | ⟨rfl, rfl⟩ | ⟨rfl, rfl⟩ | ⟨rfl, rfl⟩ := hi <;> rfl
    rw [exec_eq]
    exact pushSeg_runs hl h

/-! ### POP -/

/-- An instruction whose effect goes on from another stack pointer. -/
theorem State.Effect.ofWithSp {t : State} {v : Dword} (h : (s.withSp v).Effect t) : s.Effect t :=
  ⟨State.agrees.trans (show s.agrees (s.withSp v) from rfl) h.agrees, h.eip, h.shadow, h.flags⟩

/-- POP to an operand, which is addressed with the stack pointer moved. -/
theorem popRm_runs {d : Rmv} (hl : s.lockOk false = true) (hp : s.canPop s.opWidth = true)
    (hd : (s.setSp (s.popAt s.opWidth)).readyv .write s.opWidth d = true) :
    ∃ t, run false (popRm d) s = .next t ∧ s.ran t ∧ t.flags = s.flags.kept ∧
      (s.setSp (s.popAt s.opWidth)).wrotev t d (s.top s.opWidth) := by
  rw [setSp_eq] at hd ⊢
  obtain ⟨r, pop⟩ := popItem_starting hp
  rw [setSp_eq] at pop
  obtain ⟨t, put, effect, wrote⟩ := putv_wrote (s.top s.opWidth) (opWidth_isWidth s) hd r
  obtain ⟨runs, ran, flags⟩ := run_effect (body := popRm d) hl ((bind_ok pop _).trans put) effect.ofWithSp
  exact ⟨_, runs, ran, flags, by cases d <;> exact wrote⟩

/-- Settles O23: the register form is POP to that register as an operand. -/
theorem pops : Obligations.Pops := by
  intro d i s hl hp hi u hd
  have exec_eq : exec i s = run false (popRm d) s := by obtain rfl | ⟨r, rfl, rfl⟩ := hi <;> rfl
  rw [exec_eq]
  exact popRm_runs hl hp hd

/-! ### PUSHF and POPF -/

/-- POPF loads the flags as the specification says, RF apart: it is IRET's load without RF. -/
theorem popFlags_loads (s : State) (v : BitVec s.opWidth) (rf : Bool) :
    { s.popFlags (v.setWidth 32) s.op32 with rf := rf } = s.loads v rf := by
  have wide := opWidth_wide s
  have old := op32_level (s := s)
  have top : 4 ≤ s.level ↔ s.level = 4 := ⟨level_four s, fun h => h ▸ Nat.le_refl 4⟩
  have bit (k : Nat) (hk : k < 32) : (v.setWidth 32 : Dword).getLsbD k = v.getLsbD k := by simp [hk]
  have iopl : (v.setWidth 32 : Dword).extractLsb' 12 2 = v.extractLsb' 12 2 := by
    ext i hi
    simp only [BitVec.getElem_extractLsb', bit (12 + i) (by omega)]
  unfold State.popFlags State.loads Flags.loadNine
  rw [iopl]
  simp only [bit, Nat.reduceLT]
  by_cases zero : s.level = 0
  · simp [zero]
  · by_cases op : s.op32 = true
    · simp [zero, op, wide, top]
    · simp [zero, op, wide]

theorem v86Sensitive_ok (h : s.v86 = true → s.flags.iopl = 3) : v86Sensitive s = .ok ((), s) := by
  have passes : (!s.v86 || decide (s.flags.iopl = 3)) = true := by
    cases v86 : s.v86 with
    | false => rfl
    | true => simp [h v86]
  unfold v86Sensitive
  rw [get_bind_apply, passes]
  rfl

/-- PUSHF. -/
theorem pushFlags_runs (hl : s.lockOk false = true) (hv : s.v86 = true → s.flags.iopl = 3)
    (h : s.canPush s.opWidth = true) :
    ∃ t, run false pushFlags s = .next t ∧ s.ran t ∧ t.flags = s.flags.kept ∧
      s.pushed t (s.pushImage.setWidth s.opWidth) :=
  run_push (r := s.trap) hl h (bind_ok (v86Sensitive_ok (s := s.begin) hv) _)

/-- POPF. -/
theorem popFlags_runs (hl : s.lockOk false = true) (hv : s.v86 = true → s.flags.iopl = 3)
    (h : s.canPop s.opWidth = true) :
    ∃ t, run false popFlags s = .next t ∧ s.ran t ∧ t.mem = s.mem ∧ t.regs = (s.setSp (s.popAt s.opWidth)).regs ∧
      t.flags = s.loads (s.top s.opWidth) false := by
  obtain ⟨r, pop⟩ := popItem_starting h
  have body : popFlags s.begin = .ok ((), { s.readied r (s.setSp (s.popAt s.opWidth)).regs with
      flags := s.popFlags ((s.top s.opWidth).setWidth 32) s.op32 }) :=
    (bind_ok (v86Sensitive_ok (s := s.begin) hv) _).trans (bind_ok pop _)
  obtain ⟨runs, ran⟩ := run_went hl body ⟨rfl, rfl, rfl⟩
  exact ⟨_, runs, ran, rfl, rfl, popFlags_loads s _ false⟩

/-- Settles O26: the image is pushed, or the item popped is loaded. -/
theorem flagsOnStack : Obligations.FlagsOnStack := by
  refine fun s hl hv => ⟨fun h => ?_, fun h => popFlags_runs hl hv h⟩
  obtain ⟨t, runs, ran, flags, pushed⟩ := pushFlags_runs hl hv h
  exact ⟨t, _, runs, ran, flags, pushed, image_seenIn _ _ (opWidth_cases s)⟩

end Sys2Proof.Machine
end

section
/-! PROOFS. The instructions that set single flags, LAHF and SAHF, NOP and SETcond. -/
-- One declaration after the other: many proofs at once take more thread stacks than the memory limit allows.
set_option Elab.async false
namespace Sys2Proof.Machine

variable {s : State} {body : M Unit}

/-- An instruction that sets flags and nothing else. -/
theorem run_setFlags {f : Flags} (hl : s.lockOk false = true)
    (hb : body s.begin = .ok ((), { s.begin with flags := f })) :
    ∃ t, run false body s = .next t ∧ s.ran t ∧ t.regs = s.regs ∧ t.mem = s.mem ∧ t.flags = f.kept := by
  obtain ⟨runs, ran⟩ := run_went hl hb ⟨rfl, rfl, rfl⟩
  exact ⟨_, runs, ran, rfl, rfl, rfl⟩

/-- The low byte of the image shows the flags in it. -/
theorem image_byte_seenIn (f : Flags) (level : Nat) : f.seenIn level ((f.image level).setWidth 8) := by
  intro k hk
  rw [BitVec.getLsbD_setWidth, image_bit f level (by omega)]
  simp [hk]

/-- LAHF. -/
theorem loadAh_runs (hl : s.lockOk false = true) :
    ∃ t, ∃ v : Byte, run false loadAh s = .next t ∧ s.ran t ∧ t.mem = s.mem ∧ t.flags = s.flags.kept ∧
      t.regs = (s.setReg8 .ah v).regs ∧ s.flags.seenIn s.level v := by
  obtain ⟨t, runs, ran, flags, mem, regs⟩ := run_setsRegs (body := loadAh) (r := s.trap)
    (regs := (s.setReg8 .ah ((s.flags.image s.level).setWidth 8)).regs) hl rfl
  exact ⟨t, _, runs, ran, mem, flags, regs, image_byte_seenIn s.flags s.level⟩

theorem exec_set8 (c : Cond) (d : Rm8) (s : State) : exec (c.set8 d) s = run false (setIf c d) s := by
  cases c <;> rfl

/-- SETcond. -/
theorem setIf_runs {c : Cond} {d : Rm8} (hl : s.lockOk false = true) (h : s.ready8 .write d = true) :
    ∃ t, run false (setIf c d) s = .next t ∧ s.ran t ∧ t.flags = s.flags.kept ∧
      s.wrote8 t d (if c.holds s.flags then 1 else 0) := by
  obtain ⟨t, put, effect, wrote⟩ := put8_wrote (if c.holds s.flags then 1 else 0) h s.trap
  obtain ⟨runs, ran, flags⟩ := run_effect (body := setIf c d) hl put effect
  exact ⟨_, runs, ran, flags, by cases d <;> exact wrote⟩

/-- Settles O25: each form sets flags alone, or writes a byte that the flags give. -/
theorem flagInstructions : Obligations.FlagInstructions := by
  refine ⟨fun c => ⟨rfl, rfl, rfl, rfl, rfl, rfl, rfl, rfl⟩,
    fun s hl => ⟨fun i f hi => ?_, loadAh_runs hl, fun c d h => ?_⟩⟩
  · have form : ∃ body, exec i s = run false body s ∧ body s.begin = .ok ((), { s.begin with flags := f }) := by
      obtain ⟨rfl, rfl⟩ | ⟨rfl, rfl⟩ | ⟨rfl, rfl⟩ | ⟨rfl, rfl⟩ | ⟨rfl, rfl⟩ | ⟨rfl, rfl⟩ | ⟨rfl, rfl⟩ := hi <;>
        exact ⟨_, rfl, rfl⟩
    obtain ⟨body, exec_eq, sets⟩ := form
    rw [exec_eq]
    exact run_setFlags hl sets
  · rw [exec_set8]
    exact setIf_runs hl h

end Sys2Proof.Machine
end

section
/-! PROOFS. Interrupts and exceptions in real mode: one delivery through the vector table, whatever raises them. -/
-- One declaration after the other: many proofs at once take more thread stacks than the memory limit allows.
set_option Elab.async false
namespace Sys2Proof.Machine

variable {s t c : State} {w : Nat} {n : Byte} {err : Option Word} {ret start : Dword} {rf : Bool}

/-! ### The vector table -/

namespace State.SameWay

theorem tablePlace (h : s.SameWay t) (lin i : Nat) : t.tablePlace lin i = s.tablePlace lin i := by
  unfold State.tablePlace State.linearMod
  rw [h.physical, h.level]

theorem tableOk (h : s.SameWay t) (hm : Memory.wf t.mem = true) {k : AccessKind} {lin n : Nat}
    (ok : s.tableOk k lin n = true) : t.tableOk k lin n = true := by
  obtain ⟨cache, paging, -, mapped⟩ := tableOk_iff.1 ok
  refine tableOk_iff.2 ⟨h.cacheOn.trans cache, h.cr0 ▸ paging, hm, fun i hi => ?_⟩
  rw [h.tablePlace, mapped_of_way h]
  exact mapped i hi

theorem tableVal (h : s.SameWay t) {lin : Nat}
    (hm : ∀ i, i < w / 8 → Memory.read t.mem (s.tablePlace lin i) = Memory.read s.mem (s.tablePlace lin i)) :
    t.tableVal w lin = s.tableVal w lin := by
  refine congrArg (leValue w) (List.map_congr_left fun i hi => ?_)
  rw [h.tablePlace]
  exact hm i (List.mem_range.1 hi)

end State.SameWay

/-- The linear address of an entry of the vector table. -/
def State.vectorAt (s : State) (n : Byte) : Nat := (if s.level = 0 then 0 else s.idtr.base.toNat) + n.toNat * 4

/-- An entry of the vector table can be read, and there is room for the three items of a handler. -/
structure State.VectorReady (s : State) (n : Byte) : Prop where
  room : s.roomFor 16 3
  offset : s.tableOk .read (s.vectorAt n) 2 = true
  selector : s.tableOk .read (s.vectorAt n + 2) 2 = true

/-- Nothing is pushed on an entry of the vector table. -/
def State.vectorApart (s : State) (n : Byte) : Prop :=
  ∀ k, k < 2 → s.offStack 16 3 (s.tablePlace (s.vectorAt n) k) ∧ s.offStack 16 3 (s.tablePlace (s.vectorAt n + 2) k)

/-! ### The items pushed -/

/-- One more item, on the 8086 too. -/
theorem State.Stacked.push {vs : List (BitVec w)} {v : BitVec w} {m m' m'' : Memory} (h : s.Stacked w vs m m')
    (hv : s.StackWrite (s.down w (vs.length + 1)) v m' m'') (hw : w = 16 ∨ w = 32) (hn : vs.length < 64) :
    s.Stacked w (vs ++ [v]) m m'' := by
  refine ⟨hv.wf, fun i hi => ?_, fun a ha => ?_⟩
  · rw [List.length_append, List.length_singleton] at hi
    rcases Nat.lt_or_ge i vs.length with before | last
    · rw [List.getElem_append_left before, ← h.items i before]
      exact memVal_congr fun p hp => hv.others _ fun q hq =>
        items_apart hw (by omega) (by omega) (by omega) hq hp
    · obtain rfl : i = vs.length := by omega
      simpa using hv.value
  · rw [hv.others a fun q hq => ha _ q (by omega) (by simp) hq]
    exact h.others a fun i q one le hq => ha i q one (by simp; omega) hq

/-- Flags in which interrupts and the single step are off. -/
def Flags.masked (f : Flags) : Flags := { f with intf := false, tf := false, rf := false }

/-- The state with these flags. -/
def State.masked (s : State) : State := { s with flags := s.flags.masked }

/-- The three items of a handler in real mode. -/
def State.vectorFrame (s : State) (ret : Dword) : List Word :=
  [(s.flags.image s.level).setWidth 16, s.cs.sel, ret.setWidth 16]

/-! ### The delivery -/

/-- The state at the start of a handler. -/
def State.handling (s : State) (sel off : Word) : State := { s.loadCs86 sel with eip := off.setWidth 32, stale := [] }

/-- The state while items are pushed goes to memory as before. -/
theorem masked_way (s : State) (v : Dword) (x : Trace) : s.SameWay ((s.masked.withSp v).after x) :=
  ⟨rfl, rfl, rfl, fun r => by cases r <;> rfl, rfl, rfl, rfl⟩

/-- READING a word of the vector table, once items were pushed. -/
theorem sysRead16_pushed {vs : List Word} {lin : Nat} {v : Dword} {x : Trace} (h : s.tableOk .read lin 2 = true)
    (hs : s.Stacked 16 vs s.mem x.mem) (hv : vs.length ≤ 3) :
    ∃ item, sysRead16 lin ((s.masked.withSp v).after x) = .ok (item, (s.masked.withSp v).after x) ∧
      ((∀ k, k < 2 → s.offStack 16 3 (s.tablePlace lin k)) → item = s.tableVal 16 lin) := by
  have way := masked_way s v x
  refine ⟨_, sysRead16_flat (way.tableOk hs.wf h), fun apart => way.tableVal fun k hk => ?_⟩
  exact hs.others _ fun i q one le hq => apart k hk i q one (Nat.le_trans le hv) hq

/-- DELIVERY through the vector table: where nothing is pushed on the entry, the handler is the one it names. -/
theorem deliverReal_handles (h : s.VectorReady n) :
    ∃ x sel off, deliverReal n ret s = .ok ((), ((s.masked.withSp (s.down 16 3)).after x).handling sel off) ∧
      s.Stacked 16 (s.vectorFrame ret) s.mem x.mem ∧
      (s.vectorApart n → sel = s.tableVal 16 (s.vectorAt n + 2) ∧ off = s.tableVal 16 (s.vectorAt n)) := by
  have wide : (16 : Nat) = 16 ∨ (16 : Nat) = 32 := .inl rfl
  have wf := reaches_memoryOk (h.room 1 (by decide) (by decide))
  have room (i : Nat) (one : 1 ≤ i) (three : i ≤ 3) : s.masked.reaches .ss .write (s.down 16 i) 2 2 = true :=
    (masked_way s s.sp s.trace).reaches_wf wf (h.room i one three)
  obtain ⟨x, pushFlags, first⟩ := pushItem_writes (k := 0) (x := s.trace)
    (v := ((s.flags.image s.level).setWidth 16 : Word)) wf wide (h.room 1 (by decide) (by decide))
  obtain ⟨y, pushCs, second⟩ := pushItem_writes (s := s.masked) (k := 1) (v := s.cs.sel) first.wf wide
    (room 2 (by decide) (by decide))
  obtain ⟨z, pushIp, third⟩ := pushItem_writes (s := s.masked) (k := 2) (v := (ret.setWidth 16 : Word)) second.wf wide
    (room 3 (by decide) (by decide))
  rw [withSp_down_zero] at pushFlags
  have two := ((State.Stacked.nil wf).push first wide (by simp)).push (v := s.cs.sel)
    ⟨second.wf, second.value, second.others⟩ wide (by simp)
  have three := two.push (v := (ret.setWidth 16 : Word)) ⟨third.wf, third.value, third.others⟩ wide (by simp)
  obtain ⟨sel, readSel, selIs⟩ := sysRead16_pushed (v := s.down 16 2) h.selector two (by simp)
  obtain ⟨off, readOff, offIs⟩ := sysRead16_pushed (v := s.down 16 3) h.offset three (by simp)
  refine ⟨z, sel, off, ?_, three, fun apart => ⟨selIs fun k hk => (apart k hk).2, offIs fun k hk => (apart k hk).1⟩⟩
  unfold deliverReal
  rw [get_bind_apply]
  refine (bind_ok pushFlags _).trans ?_
  rw [modify_bind_apply]
  refine (bind_ok pushCs _).trans ((bind_ok readSel _).trans ((bind_ok pushIp _).trans ((bind_ok readOff _).trans ?_)))
  rfl

/-- An entry lies in the vector table: the 8086 has one of fixed size (spec/60_exceptions.md R682). -/
def State.inVectors (s : State) (k : Byte) : Prop := s.level = 0 ∨ k.toNat * 4 + 3 ≤ s.idtr.limit.toNat

/-- What the check of the table makes of an interrupt. -/
theorem interruptReal_eq (n : Byte) (ret start : Dword) (s : State) :
    (s.inVectors n → interruptReal n ret start s = deliverReal n ret s) ∧
    (¬s.inVectors n → s.inVectors 8 → interruptReal n ret start s = deliverReal 8 start s) ∧
    (¬s.inVectors n → ¬s.inVectors 8 → interruptReal n ret start s = .error .shutdown) := by
  have inside (k : Byte) :
      (decide (s.level = 0) || decide (k.toNat * 4 + 3 ≤ s.idtr.limit.toNat)) = true ↔ s.inVectors k := by
    simp [State.inVectors]
  unfold interruptReal
  simp only [get_bind_apply]
  refine ⟨fun h => ?_, fun h h8 => ?_, fun h h8 => ?_⟩
  · rw [if_pos ((inside n).2 h)]
  · rw [if_neg (mt (inside n).1 h), if_pos ((inside 8).2 h8)]
  · rw [if_neg (mt (inside n).1 h), if_neg (mt (inside 8).1 h8)]

/-- An interrupt taken in real mode. -/
theorem interrupt_real {src : IntSource} (hr : s.real = true) (h : interruptReal n ret start s = .ok ((), t)) :
    interrupt n err src ret start rf s = .ok ((), t.delivered { s.trap with taskSwitch := t.trap.taskSwitch }) := by
  unfold interrupt withEx untracked
  simp only [get_bind_apply, hr, if_true, bind_ok h, bind_assoc_apply, modify_bind_apply]
  rfl

theorem interrupt_shutdown {src : IntSource} (hr : s.real = true)
    (h : interruptReal n ret start s = .error .shutdown) :
    interrupt n err src ret start rf s = .error .shutdown := by
  unfold interrupt withEx untracked
  simp only [get_bind_apply, hr, if_true, bind_error h, bind_assoc_apply]

/-! ### What raises them -/

/-- `out` answers the delivery `m` from state `u`, for a program interrupted in state `c`. -/
structure State.AnsweredBy (c : State) (out : Host.Outcome State Fault Refusal) (m : M Unit) (u : State) : Prop where
  taken : ∀ t, m u = .ok ((), t) → ∃ tr, out = .next (t.delivered tr)
  shutdown : m u = .error .shutdown → ∃ o, out = .next { c with oracle := o }.shutDown

/-- A software interrupt that is taken in real mode. -/
theorem softInterrupt_real {body : M Ending} (hl : s.lockOk false = true) (hr : s.real = true)
    (hb : body s.begin = softInterrupt n s.begin) :
    s.AnsweredBy (runEnding false body s) (interruptReal n s.nextIp s.begin.startIp) s.begin := by
  have taken := hb
  unfold softInterrupt at taken
  rw [get_bind_apply] at taken
  refine ⟨fun t run => ⟨_, runEnding_ok hl (taken.trans (bind_ok (interrupt_real (s := s.begin) hr run) _))⟩,
    fun run => ⟨s.oracle, ?_⟩⟩
  have stops := taken.trans (bind_error (interrupt_shutdown (s := s.begin) hr run) _)
  unfold runEnding
  rw [bind_ok (lockCheck_eq (s := s.begin) false (by simpa using hl)), stops]

/-- An exception that is delivered in real mode. -/
theorem enterExn_real {e : Exn} {again : Exn → Host.Outcome State Fault Refusal} (hr : c.real = true) :
    c.AnsweredBy (c.enterExn e ret start again) (interruptReal e.vec ret start) c := by
  refine ⟨fun t run => ?_, fun run => ⟨c.oracle, ?_⟩⟩
  · unfold State.enterExn
    rw [interrupt_real hr run]
    exact ⟨_, rfl⟩
  · unfold State.enterExn
    rw [interrupt_shutdown hr run]

/-- An interrupt from outside that is taken in real mode. -/
theorem takeExternal_real (hr : s.real = true) :
    s.AnsweredBy (s.takeExternal n) (interruptReal n s.resumeIp s.eip) s := by
  refine ⟨fun t run => ?_, fun run => ⟨s.oracle, ?_⟩⟩
  · unfold State.takeExternal
    rw [interrupt_real hr run]
    exact ⟨_, rfl⟩
  · unfold State.takeExternal
    rw [interrupt_shutdown hr run]

/-- The address after an instruction is as far behind it as its length says, from the 80286 on. -/
theorem begin_startIp (h : s.level ≠ 0) : s.begin.startIp = s.eip := by
  have next : s.begin.eip = s.eip + BitVec.ofNat 32 s.cur.len := if_neg h
  unfold State.startIp
  rw [next]
  exact BitVec.add_sub_cancel _ _

/-- WHATEVER RAISES AN INTERRUPT in real mode, one delivery answers it. -/
theorem raises_delivers_real {out : Host.Outcome State Fault Refusal} {soft : Bool} (h : s.raises out soft n err ret rf c)
    (hr : s.real = true) :
    (∃ cr2 dr6 dr7, c = { s with cr2 := cr2, dr6 := dr6, dr7 := dr7 }) ∧ ∃ start ip sh st o,
      (s.level ≠ 0 → start = s.eip) ∧ c.AnsweredBy out (interruptReal n ret start) (c.delivering ip sh st o) := by
  obtain ⟨rfl, lock, rfl, rfl, rfl, rfl, form⟩ | ⟨rfl, rfl, rfl, rfl, rfl, rfl⟩ |
    ⟨e, next, rfl, task, rfl, rfl, rfl, rfl, rfl, rfl⟩ := h
  · refine ⟨⟨c.cr2, c.dr6, c.dr7, rfl⟩, c.begin.startIp, c.nextIp, .none, c.begin.stale, c.oracle, begin_startIp, ?_⟩
    obtain ⟨rfl, rfl⟩ | ⟨rfl, iopl⟩ | ⟨rfl, overflow, rfl⟩ := form
    · exact softInterrupt_real (body := softInterrupt 3) lock hr rfl
    · exact softInterrupt_real (body := v86Sensitive >>= fun _ => softInterrupt n) lock hr
        (bind_ok (v86Sensitive_ok (s := c.begin) iopl) _)
    · refine softInterrupt_real (body := overflowInterrupt) lock hr ?_
      unfold overflowInterrupt
      rw [get_bind_apply, if_pos (show c.begin.flags.ovf = true from overflow)]
  · exact ⟨⟨c.cr2, c.dr6, c.dr7, rfl⟩, c.eip, c.eip, c.shadow, c.stale, c.oracle, fun _ => rfl, takeExternal_real hr⟩
  · refine ⟨⟨_, _, _, rfl⟩, s.eip, s.eip, s.shadow, s.stale, max s.oracle e.oracle, fun _ => rfl, ?_⟩
    have context : s.exnContext e = (s.noted e).delivering s.eip s.shadow s.stale (max s.oracle e.oracle) := by
      rw [← noteExn_delivering]
      unfold State.exnContext
      rw [task]
      rfl
    have address : exnReturn s (s.exnContext e) e next = if e.cls = .trap ∨ s.level = 0 then next else s.eip := by
      unfold exnReturn
      rw [task]
    have begins : nestedReturn (s.exnContext e) e s.eip = s.eip := by
      unfold nestedReturn
      rw [task]
    unfold State.deliverExn
    dsimp only
    rw [address, begins, context]
    obtain ⟨taken, shutdown⟩ :=
      enterExn_real (c := (s.noted e).delivering s.eip s.shadow s.stale (max s.oracle e.oracle)) hr
    exact ⟨taken, shutdown⟩

/-! ### What it looks like from outside -/

/-- ENTRY INTO A HANDLER, from the delivery that answers. -/
theorem entersReal_of {cr2 dr6 dr7 ip : Dword} {sh : Shadow} {st : List StaleByte} {o : Nat}
    {out : Host.Outcome State Fault Refusal} (hc : c = { s with cr2 := cr2, dr6 := dr6, dr7 := dr7 })
    (h : ∀ t, deliverReal n ret (c.delivering ip sh st o) = .ok ((), t) → ∃ tr, out = .next (t.delivered tr)) :
    s.entersReal c out n ret := by
  subst hc
  intro room offset selector apart
  obtain ⟨x, sel, off, delivers, stacked, names⟩ := deliverReal_handles
    (s := ({ s with cr2 := cr2, dr6 := dr6, dr7 := dr7 } : State).delivering ip sh st o) (n := n) (ret := ret)
    ⟨room, offset, selector⟩
  obtain ⟨rfl, rfl⟩ := names apart
  obtain ⟨tr, answer⟩ := h _ delivers
  have frame : s.Stacked 16 (s.vectorFrame ret) s.mem x.mem := ⟨stacked.wf, stacked.items, stacked.others⟩
  have first : ({ s with mem := x.mem } : State).memVal 16 .ss (s.down 16 1) = (s.flags.image s.level).setWidth 16 :=
    frame.items 0 (show 0 < 3 by decide)
  have image : s.flags.seenIn s.level ((s.flags.image s.level).setWidth 16 : Word) := image_seenIn _ _ (.inl rfl)
  rw [← first] at image
  refine ⟨_, answer, ⟨rfl, rfl, rfl, rfl⟩, tookCs_of rfl rfl, rfl, ⟨?_, frame.others⟩, image,
    frame.items 1 (show 1 < 3 by decide), frame.items 2 (show 2 < 3 by decide)⟩
  rw [setSp_eq]
  rfl

/-- INTO without overflow. -/
theorem overflowInterrupt_passes (hl : s.lockOk false = true) (h : s.flags.ovf = false) :
    ∃ t, exec .into s = .next t ∧ s.ran t ∧ t.regs = s.regs ∧ t.mem = s.mem ∧ t.flags = s.flags.kept := by
  have body : overflowInterrupt s.begin = .ok (.done, s.begin) := by
    unfold overflowInterrupt
    rw [get_bind_apply, show s.begin.flags.ovf = false from h]
    rfl
  exact ⟨_, runEnding_ok hl body, ran_finish rfl rfl rfl, rfl, rfl, rfl⟩

/-- Settles O33: one delivery answers, and the check of the vector table says which. -/
theorem realInterrupts : Obligations.RealInterrupts := by
  refine ⟨fun s c out soft n err ret rf h hr => ?_, fun s hl h => overflowInterrupt_passes hl h⟩
  obtain ⟨⟨cr2, dr6, dr7, rfl⟩, start, ip, sh, st, o, first, answered⟩ := raises_delivers_real h hr
  obtain ⟨inside, other, none⟩ := interruptReal_eq n ret start
    (({ s with cr2 := cr2, dr6 := dr6, dr7 := dr7 } : State).delivering ip sh st o)
  refine ⟨fun h => ?_, fun h h8 => ?_, fun h h8 => ?_⟩
  · exact entersReal_of rfl fun t run => answered.taken t ((inside h).trans run)
  · obtain rfl := first fun old => h (.inl old)
    exact entersReal_of rfl fun t run => answered.taken t ((other h h8).trans run)
  · obtain ⟨o', answer⟩ := answered.shutdown (none h h8)
    exact ⟨_, answer, rfl, rfl, rfl, rfl, rfl, rfl⟩

end Sys2Proof.Machine
end

section
/-! PROOFS. IRET in real mode, and how it undoes INT n. -/
-- One declaration after the other: many proofs at once take more thread stacks than the memory limit allows.
set_option Elab.async false
namespace Sys2Proof.Machine

variable {s t : State} {w n i : Nat}

/-! ### IRET -/

theorem prot_of_real (hr : s.real = true) : s.prot = false := by
  unfold State.real at hr
  unfold State.prot
  simp_all

theorem v86_of_real (hr : s.real = true) : s.v86 = false := by
  unfold State.real at hr
  unfold State.v86
  simp_all

theorem cpl_of_real (hr : s.real = true) : s.cpl = 0 := by
  unfold State.real at hr
  unfold State.cpl
  rw [if_neg (by simpa using hr)]

/-- The state a return from a real-mode handler reaches, flags and NMI apart. -/
def State.returned (s : State) (w : Nat) : State :=
  ((s.loadCs86 ((s.memVal w .ss (s.up w 1)).setWidth 16)).jumped
    (targetOf s.op32 ((s.top w).setWidth 32))).withSp (s.up w 3)

/-- IRET outside protected mode, where nothing is sensitive to IOPL. -/
theorem iret86_returns (hr : s.real = true) (h : s.holds s.opWidth 3)
    (hv : s.targetOk (targetOf s.op32 ((s.top s.opWidth).setWidth 32)) = true) :
    ∃ r, iret86 s = .ok ((),
      { (s.returned s.opWidth).traced r with flags := s.iretFlags s.iretImage s.op32 }) := by
  have plain : s.v86 = true → s.flags.iopl = 3 := fun v86 => absurd (v86_of_real hr) (by simp [v86])
  obtain ⟨r, address⟩ := popReturn (fun i hi => h i (by omega)) (opWidth_cases s)
  obtain ⟨r', image⟩ := pop_at (h 2 (by decide)) r
  refine ⟨r', ?_⟩
  unfold iret86
  rw [bind_ok (v86Sensitive_ok plain), get_bind_apply]
  refine (address _).trans ((bind_ok image _).trans ?_)
  exact enter86 (s := (s.withSp (s.up s.opWidth 3)).traced r') (prot_of_real hr) hv _

/-- IRET in real mode. -/
theorem iret_real (hw : s.opWidth = w) (hl : s.lockOk false = true) (hr : s.real = true) (h : s.holds w 3)
    (hv : s.targetOk (targetOf s.op32 ((s.top w).setWidth 32)) = true) :
    ∃ t, exec .iret s = .next t ∧
      ({ s.withCsOf t with nmiBlocked := false } : State).wentTo t (targetOf s.op32 ((s.top w).setWidth 32)) ∧
      s.tookCs t ((s.memVal w .ss (s.up w 1)).setWidth 16) ∧ t.mem = s.mem ∧ t.regs = (s.setSp (s.up w 3)).regs ∧
      t.flags = s.loads (s.memVal w .ss (s.up w 2))
        (if w = 32 then (s.memVal w .ss (s.up w 2)).getLsbD 16 else false) := by
  subst hw
  have readable : s.begin.holds s.opWidth 3 := fun i hi => (begin_reaches s _ _ _ _ _).trans (h i hi)
  obtain ⟨r, back⟩ := iret86_returns (s := s.begin) hr readable hv
  have body : iretAny s.begin = .ok (if s.op32 then .loadedRf else .done,
      { (s.begin.returned s.opWidth).traced r with flags := s.iretFlags s.iretImage s.op32, nmiBlocked := false }) := by
    have real : s.begin.prot = false := prot_of_real hr
    unfold iretAny
    rw [get_bind_apply, real, if_neg Bool.false_ne_true, bind_ok back, Bool.false_and, Bool.or_false]
    rfl
  obtain ⟨tr, ends⟩ := completed_eq (s := s) (i := .iret) (u := (s.begin.returned s.opWidth).traced r) rfl
  refine ⟨_, (runEnding_ok (body := iretAny) hl body).trans (congrArg _ ends), ⟨rfl, rfl, rfl, rfl⟩, tookCs_of rfl rfl,
    rfl, ?_, rfl⟩
  rw [setSp_eq]
  rfl

/-- Settles O34: the three items are popped, at either operand size. -/
theorem realInterruptReturn : Obligations.RealInterruptReturn :=
  fun _ hl hr h hv => iret_real rfl hl hr h hv

/-! ### The stack in real mode -/

/-- A low address needs no more than the twenty address lines that are always driven. -/
theorem physical_low {a : Nat} (h : a < 2 ^ 20) : s.physical a = a := by
  have same := physical_mod s a
  rw [Nat.mod_eq_of_lt h] at same
  have below : s.physical a < 2 ^ 20 := by
    have le : s.physical a ≤ a := by
      unfold State.physical
      dsimp only
      split
      · exact Nat.le_trans (Nat.sub_le _ _) (Nat.mod_le _ _)
      · exact Nat.mod_le _ _
    exact Nat.lt_of_le_of_lt le h
  rwa [Nat.mod_eq_of_lt below] at same

/-- `t` is a real-mode state with the stack segment of `s`; CS may be another. -/
structure State.SameStack (s t : State) : Prop where
  real : s.real = true
  cfg : t.cfg = s.cfg
  cr0 : t.cr0 = s.cr0
  ss : t.ss = s.ss

namespace State.SameStack

theorem level (h : s.SameStack t) : t.level = s.level := by unfold State.level; rw [h.cfg]
theorem isReal (h : s.SameStack t) : t.real = true := by rw [← h.real]; unfold State.real; rw [h.cr0]

theorem linear (h : s.SameStack t) (o : Nat) : t.linear .ss o = s.linear .ss o := by
  unfold State.linear
  rw [h.level, h.isReal, h.real]
  simp only [State.seg, h.ss]
  rfl

/-- The reset latch, which the load of CS ends, plays no part. -/
theorem placeAt (h : s.SameStack t) (off : Dword) (i : Nat) : t.placeAt .ss off i = s.placeAt .ss off i := by
  by_cases old : s.level = 2
  · have low (u : State) (hl : u.level = 2) (hr : u.real = true) (o : Nat) : u.linear .ss o < 2 ^ 20 := by
      unfold State.linear
      rw [hl, hr]
      exact Nat.mod_lt _ (by decide)
    have place (u : State) (hl : u.level = 2) (hr : u.real = true) :
        u.placeAt .ss off i = u.linear .ss (off.toNat + i) := by
      unfold State.placeAt
      rw [hl, if_neg (by decide), if_pos (by decide), physical_low (low u hl hr _)]
    rw [place t (h.level.trans old) h.isReal, place s old h.real, h.linear]
  · have lines : t.addressLines = s.addressLines := by
      unfold State.addressLines
      rw [h.level, if_neg fun both => old both.1, if_neg fun both => old both.1, h.cfg]
    have physical (a : Nat) : t.physical a = s.physical a := by
      unfold State.physical
      rw [lines, h.level, h.cfg]
    unfold State.placeAt
    simp only [h.level, h.linear, physical]

theorem memVal (h : s.SameStack t) {off : Dword} :
    t.memVal w .ss off = ({ s with mem := t.mem } : State).memVal w .ss off := by
  refine congrArg (leValue w) (List.map_congr_left fun i _ => ?_)
  rw [h.placeAt]
  rfl

theorem reaches (h : s.SameStack t) (hm : Memory.wf t.mem = true) {k : AccessKind} {off : Dword} {b : Nat}
    (hr : s.reaches .ss k off n b = true) : t.reaches .ss k off n b = true := by
  unfold State.reaches at hr ⊢
  simp only [Bool.and_eq_true, List.all_eq_true] at hr ⊢
  obtain ⟨⟨⟨flat, seg⟩, -⟩, mapped⟩ := hr
  refine ⟨⟨⟨?_, ?_⟩, ?_⟩, fun i hi => ?_⟩
  · unfold State.flat State.cacheOn State.memoryOk at flat ⊢
    rw [h.cr0, h.level, h.cfg, hm]
    simp_all
  · unfold State.segOk at seg ⊢
    simpa only [h.level, State.seg, h.ss] using seg
  · unfold State.aligned
    simp [cpl_of_real h.isReal]
  · rw [h.placeAt]
    have here := mapped i hi
    unfold State.mapped at here ⊢
    rw [h.cfg]
    exact here

end State.SameStack

/-- From the items pushed back up. -/
theorem withSp_down_up (s : State) (hi : i ≤ n) : (s.withSp (s.down w n)).up w i = s.down w (n - i) := by
  have split : w / 8 * n = w / 8 * (n - i) + w / 8 * i := by rw [← Nat.mul_add, Nat.sub_add_cancel hi]
  unfold State.up
  rw [withSp_sp, withSp_stackOff]
  unfold State.down
  rw [stackOff_stackOff, stackOff_stackOff_add, split, BitVec.ofNat_add]
  congr 1
  apply BitVec.eq_of_toNat_eq
  simp only [BitVec.toNat_sub, BitVec.toNat_add]
  omega

/-! ### INT n and back -/

/-- IRET loads from the image of the flags what the handler did not keep. -/
theorem loads_masked {f : Flags} {v : Word} (hv : f.seenIn s.level v) (hc : s.cpl = 0) (hf : s.flags = f.masked) :
    s.loads v false = f.kept := by
  have bit (k : Nat) (hk : k < 16) : v.getLsbD k = f.bit s.level k := hv k hk
  have iopl (h : s.level ≠ 0) : v.extractLsb' 12 2 = f.iopl := by
    ext i hi
    rw [BitVec.getElem_extractLsb', bit (12 + i) (by omega)]
    have two := level_two h
    obtain rfl | rfl : i = 0 ∨ i = 1 := by omega
    all_goals simp [Flags.bit, two, BitVec.getLsbD_eq_getElem]
  unfold State.loads
  simp only [bit, hc, hf, Nat.reduceLT]
  by_cases zero : s.level = 0
  · simp [zero, Flags.bit, Flags.masked, Flags.kept]
  · simp [zero, iopl zero, level_two zero, Flags.bit, Flags.masked, Flags.kept]

/-- The state a handler of real mode starts in after INT, with what its delivery left in memory and in the trap record. -/
def State.inHandler (s : State) (x : Trace) (sel off : Word) (tr : TrapRecord) : State :=
  (((s.begin.masked.withSp (s.down 16 3)).after x).handling sel off).delivered tr

/-- INT n in real mode, wherever its vector leads. -/
theorem intImm8_real {v : Byte} (hl : s.lockOk false = true) (hr : s.real = true) (hv : s.inVectors v)
    (h : s.VectorReady v) :
    ∃ x sel off tr, exec (.intImm8 v) s = .next (s.inHandler x sel off tr) ∧
      s.Stacked 16 (s.vectorFrame s.nextIp) s.mem x.mem := by
  have plain : s.v86 = true → s.flags.iopl = 3 := fun v86 => absurd (v86_of_real hr) (by simp [v86])
  have wf := reaches_memoryOk (h.room 1 (by decide) (by decide))
  have ready : s.begin.VectorReady v := ⟨fun i one three => (begin_reaches s _ _ _ _ _).trans (h.room i one three),
    (begin_way s).tableOk wf h.offset, (begin_way s).tableOk wf h.selector⟩
  obtain ⟨x, sel, off, delivers, stacked, -⟩ := deliverReal_handles (ret := s.nextIp) ready
  obtain ⟨inside, -, -⟩ := interruptReal_eq v s.nextIp s.begin.startIp s.begin
  obtain ⟨tr, answer⟩ := (softInterrupt_real (body := v86Sensitive >>= fun _ => softInterrupt v) hl hr
    (bind_ok (v86Sensitive_ok (s := s.begin) plain) _)).taken _ ((inside hv).trans delivers)
  exact ⟨x, sel, off, tr, answer, stacked.wf, stacked.items, stacked.others⟩

section
variable {x : Trace} {sel off : Word} {tr : TrapRecord}

theorem inHandler_up (hi : i ≤ 3) : (s.inHandler x sel off tr).up 16 i = s.down 16 (3 - i) := withSp_down_up s hi

theorem inHandler_limit (hr : s.real = true) : (s.inHandler x sel off tr).cs.limit = s.cs.limit := by
  have cs : (s.inHandler x sel off tr).cs = s.cs.loadReal sel := if_pos hr
  rw [cs]
  rfl

/-- Popping the three items brings the stack pointer back. -/
theorem inHandler_regs :
    ((s.inHandler x sel off tr).setSp ((s.inHandler x sel off tr).up 16 3)).regs = s.regs := by
  rw [setSp_eq, inHandler_up (Nat.le_refl 3), Nat.sub_self, down_zero]
  have back : ((s.withSp (s.down 16 3)).withSp s.sp).regs = s.regs := by rw [withSp_withSp, withSp_self]
  exact back

/-- The handler finds on its stack what was pushed, the last item on top. -/
theorem inHandler_holds {ret : Dword} (hr : s.real = true) (hs : s.Stacked 16 (s.vectorFrame ret) s.mem x.mem)
    (h : ∀ i, 1 ≤ i → i ≤ 3 → s.reaches .ss .read (s.down 16 i) 2 2 = true) :
    (s.inHandler x sel off tr).holds 16 3 ∧ ∀ k (hk : k < 3), (s.inHandler x sel off tr).memVal 16 .ss
      ((s.inHandler x sel off tr).up 16 (2 - k)) = (s.vectorFrame ret)[k]'hk := by
  have stack : s.SameStack (s.inHandler x sel off tr) := ⟨hr, rfl, rfl, rfl⟩
  refine ⟨fun i hi => ?_, fun k hk => ?_⟩
  · rw [inHandler_up (by omega)]
    exact stack.reaches hs.wf (h (3 - i) (by omega) (by omega))
  · rw [inHandler_up (by omega), show 3 - (2 - k) = k + 1 by omega, stack.memVal]
    exact hs.items k hk

end

/-- In real mode operands have 16 bits, unless the operand size is overridden. -/
theorem op32_of_real (hr : s.real = true) (ho : s.cur.op = false) : s.op32 = false := by
  unfold State.op32 State.default32
  simp [prot_of_real hr, ho]

theorem State.agrees.seg (h : s.agrees t) (g : SReg) : t.seg g = s.seg g := by
  unfold State.agrees at h
  rw [← h]
  cases g <;> rfl

/-- In real mode an offset of 16 bits is a target on every processor. -/
theorem targetOk_word (hr : s.real = true) (v : Word) : s.targetOk (v.setWidth 32) = true := by
  have small := v.isLt
  rw [targetOk_86 (prot_of_real hr), Bool.or_eq_true]
  exact .inr (decide_eq_true (by rw [BitVec.toNat_setWidth]; omega))

/-- IRET with 16-bit operands takes back a frame of three items: an offset, a selector, and the image of the flags that
the handler masked. -/
theorem iret_unframes {ip sel : Word} {f : Flags} (hl : s.lockOk false = true) (hr : s.real = true) (ho : s.op32 = false)
    (h : s.holds 16 3) (hip : s.memVal 16 .ss (s.up 16 0) = ip) (hcs : s.memVal 16 .ss (s.up 16 1) = sel)
    (himage : f.seenIn s.level (s.memVal 16 .ss (s.up 16 2))) (hf : s.flags = f.masked) :
    ∃ t, exec .iret s = .next t ∧ t.regs = (s.setSp (s.up 16 3)).regs ∧ t.flags = f.kept ∧ t.eip = ip.setWidth 32 ∧
      t.cs.sel = sel ∧ t.cs.base.toNat = 16 * sel.toNat ∧ t.cs.limit = s.cs.limit ∧
      ∀ g, g ≠ .cs → t.seg g = s.seg g := by
  subst hip hcs
  have width : s.opWidth = 16 := by simp [State.opWidth, ho]
  have target : targetOf s.op32 ((s.top 16).setWidth 32) = (s.memVal 16 .ss (s.up 16 0)).setWidth 32 := by
    rw [ho, up_zero]
    simp [targetOf, State.top]
  obtain ⟨t, runs, ⟨agrees, eip, -, -⟩, ⟨selector, -, base, limit, -⟩, -, regs, flags⟩ :=
    iret_real width hl hr h (target ▸ targetOk_word hr _)
  rw [BitVec.setWidth_eq] at selector base
  refine ⟨t, runs, regs, flags.trans (loads_masked himage (cpl_of_real hr) hf), eip.trans target, selector, base,
    limit.trans (if_pos hr), fun g other => (agrees.seg g).trans ?_⟩
  cases g with
  | cs => exact absurd rfl other
  | es | ss | ds | fs | gs => rfl

/-- Settles O35: the handler's IRET takes back the frame that INT pushed. -/
theorem interruptThenReturn : Obligations.InterruptThenReturn := by
  intro s v hl hr _ _ entry hv room readable offset selector
  obtain ⟨x, sel, off, tr, interrupted, stacked⟩ := intImm8_real hl hr hv ⟨room, offset, selector⟩
  obtain ⟨holds, items⟩ := inHandler_holds (sel := sel) (off := off) (tr := tr) hr stacked readable
  have image : s.flags.seenIn s.level
      ((s.inHandler x sel off tr).memVal 16 .ss ((s.inHandler x sel off tr).up 16 2)) := by
    rw [items 0 (by decide)]
    exact image_seenIn s.flags s.level (.inl rfl)
  obtain ⟨u, returned, regs, flags, eip, selIs, base, limit, same⟩ :=
    iret_unframes (s := s.inHandler x sel off tr) rfl hr (op32_of_real hr rfl) holds (items 2 (by decide))
      (items 1 (by decide)) image rfl
  exact ⟨_, u, interrupted, returned, regs.trans inHandler_regs, flags, eip, selIs, base,
    limit.trans (inHandler_limit hr), same .ss (by decide), same .ds (by decide), same .es (by decide)⟩

end Sys2Proof.Machine
end
